-- ==== Sys2Proof/Word.lean ====
section
/-! DEFINITION. The native 64-bit word (00_scope, headline figures) and the byte. -/

namespace Sys2Proof

/-- The native word of the device: 64 bits. -/
abbrev Word := BitVec 64

/-- A byte of a memory or of a message. -/
abbrev Byte := BitVec 8

end Sys2Proof
end

