-- ==== Sys2Proof/Config.lean ====
section
/-! DEFINITION. What the spec leaves open: free values, each an opaque constant without a body
(DESIGN CHOICE, log entries 6 to 8, 25, 77, 99, 114, 117, 123 and 124).  Nothing can be proved about what
they return. -/

namespace Sys2Proof

/-- The result of a time comparison whose true distance is 2^47 ns or more (02 R50, 12 R353 U1). -/
opaque Config.farCompare : Word → Word → Bool

/-- The coefficient with which an envelope sample reaches a DAC sample so many fine steps away (04 R108): the
interpolator's filter is linear-phase and fixed, and its coefficients are not given. -/
opaque Config.interp : Nat → Rat

/-- The device's estimate of the first or second difference of the input at a readout sample (05 R144): of the
codes before it, nearest first, and the codes from it on.  The estimates are fixed and not given. -/
opaque Config.difference : Nat → List Int → List Int → Rat

/-- The coefficient with which a corrected sample so many samples away reaches a bin of a band, beside the
carrier of the bin's centre (05 R148): the response is fixed and spans 64 ns, and is not given. -/
opaque Config.binTap : Nat → Nat → Int → Rat × Rat

/-- 1 − e^(−step/tau) for a step and a time constant in the same unit (13 R357, R367), as the device
computes it: the spec does not say with what precision. -/
opaque Config.decay : Nat → Nat → Rat

/-- How often the n-th command that the trunk sends of itself over a bias link fails its CRC (01 R18): the
noise of the link is outside the block. -/
opaque Config.linkErrors : Nat → Nat

/-- The code that a bias readback is expected to give for an output's register target (08 R249): a twentieth of it
(09 R277), corrected by the factory calibration in heartwood, whose form is not given.  Of a die, an output and
a code. -/
opaque Config.readback : Nat → Nat → Int → Int

/-- Term k of the least-squares fit of R260 to the points (delay in 0.5 ns, normalised response): a_k, and τ_k in
ns (08 R260).  The fit is not linear in τ, and how the device finds it is not given. -/
opaque Config.fitTerm : Nat → List (Nat × Rat) → Rat × Rat

/-- The DATA fields of the stitches of a configuration message, from its fields and its data (07 R235; 11 R321):
the spec gives MTYPE 0x2 no format. -/
opaque Config.configData : List Nat → List (BitVec 8) → List (BitVec 160)

/-- The fields and the data that the DATA fields of a configuration message stand for, if they stand for any. -/
opaque Config.configRead : List (BitVec 160) → Option (List Nat × List (BitVec 8))

/-- A value the spec does not state for some operands, by the place that asks for it (the sites are
listed in log entry 8) and the operands. -/
opaque Config.unstated : Nat → List Int → Nat

end Sys2Proof
end

