-- ==== Sys2Proof/Machine/Regs.lean ====
section
/-! DEFINITION. The Kenper-M register map (01_anatomy R28, R29): every register the spec's tables
name, with its base address, its index strides, and its fields with width, access code (R9) and
reset value (R11).  The rows are transcribed from the register tables of spec/; the table each
register comes from is named in INVENTORY.md under State. -/

namespace Sys2Proof.Machine

/-- The access codes of R9. -/
inductive Acc
  | rw | ro | wo | w1c | rws
  deriving DecidableEq, Repr

/-- One row of a register table: low bit, width, access code, reset value.  A reset value the
tables do not give as a number is 0 here; `Reg.reset` sets those the text gives, and log entry 3, DESIGN CHOICE,
names those that heartwood or nothing gives. -/
structure FieldDesc where
  lo : Nat
  width : Nat
  acc : Acc
  reset : Nat
  deriving DecidableEq, Repr

/-- One index of a register array: its address stride and its number of values. -/
structure Dim where
  stride : Nat
  count : Nat
  deriving DecidableEq, Repr

/-- A register array of the map. -/
structure RegInfo where
  base : Nat
  dims : List Dim
  fields : List FieldDesc
  deriving DecidableEq, Repr

/-- The register arrays of the map. -/
inductive RegName
  | globalId
  | globalLock
  | globalBoot
  | globalBootCfg
  | domainTiles
  | pwr
  | dieStatus
  | modeRdo
  | modeKernel
  | modeDec
  | modeFlux
  | modeBias
  | modeReplay
  | modeThrottle
  | timeStatus
  | refCfg
  | xtalTrim
  | xtalAccum
  | syncCtrl
  | syncLoad
  | syncStamp
  | syncStat
  | skew
  | skewCal
  | timeNow
  | ptpCfg
  | ptpNs
  | ptpFrac
  | ptpIncr
  | ptpStep
  | ptpAsym
  | latchCtrl
  | latchFt
  | latchPtpNs
  | latchPtpFrac
  | eswId
  | eswStatus
  | laneCfg
  | laneStatus
  | laneEq
  | laneCounts0
  | laneCounts1
  | laneCounts2
  | routeGrove
  | routeMember
  | txr
  | eswExp0
  | eswExp1
  | eswExp2
  | eswBar
  | rxr0
  | rxr1
  | linkMac
  | linkIp
  | linkIp6Hi
  | linkIp6Lo
  | linkCounts
  | port
  | portStatus
  | kenMCfg
  | kenMStatus
  | acl0
  | acl1
  | acl2
  | qpCtrl
  | qpPsn
  | qpGidHi
  | qpGidLo
  | qpDmac
  | qpErr
  | cmdCfg
  | cmdBase
  | cmdShadow
  | cmdIdx
  | cplCfg
  | cplBase
  | cplShadow
  | cplIdx
  | resCfg
  | resBase
  | resShadow
  | resIdx
  | ptprCfg
  | ptprBase
  | ptprShadow
  | ptprIdx
  | kenEvt
  | kenDb
  | kenDbBase
  | ptpPeer
  | kenCounts
  | seamStatus
  | seamCh
  | srcOwn
  | tack0
  | tack1
  | tmrCfg
  | tmrTime
  | tmrOrigin
  | claimMk
  | claimTmr
  | claimTdc
  | claimLog
  | seamTask
  | logData
  | logStatus
  | intCfg
  | intCounts
  | intCounts2
  | intLast
  | intLastTick
  | canopyCfg
  | canopyStatus
  | sensBad
  | plate
  | canopyCounts
  | devPolicy
  | hostPolicy
  | sensor
  | diode
  | node
  | cryoCfg
  | cryoStage0
  | cryoStage1
  | cryoStage2
  | cryoStage3
  | cryoLine
  | cryoLpower
  | tdcIn
  | tdcCal
  | calOrigin
  | tdcCfg
  | tdcCounts
  | tdcQData
  | tdcQStatus
  | statCtrl
  | statMean
  | statSd
  | statMinmax
  | hwCtrl
  | hwStatus
  | flashCtrl
  | flashAddr
  | hwRec
  | flashBuf
  | ndlStatus
  | barMap
  | thrCfg
  | trigSrc
  | thrState
  | thrCounts
  | thrTc
  | thrCtrl
  | synCfg
  | clipCount
  | clipFirst
  | synCounts
  | toneFreq
  | tonePhase
  | toneVz
  | synMark
  | bobCfg
  | bobLoopMark
  | bobLoopEnd
  | bobLoop
  | bobWp
  | bobRp
  | bobStatus
  | adcCfg
  | adcStatus
  | adcCorr
  | ovrCount
  | corrActive
  | corrStage
  | corrEst
  | acqCfg
  | acqDfreq
  | acqDphase
  | acqDelay
  | acqBoxw
  | acqDisc0
  | acqDisc1
  | acqGuard
  | acqCtrl
  | acqStatus
  | acqCounts
  | trainCtrl
  | trainMean
  | traceCtrl
  | traceT0
  | kernel
  | fluxCtrl
  | fluxChain
  | fluxSec
  | fluxLvl
  | fluxClip
  | fluxIsat
  | fluxFir
  | fitCtrl
  | fitResid
  | fitDelay
  | bind
  | rqCfg
  | rqStatus
  | rqCounts
  | rqData
  | rqCtrl
  | bdieCtrl
  | bdieStatus
  | bdieApply
  | biasCfg
  | biasCode
  | biasPark
  | biasStatus
  | monCtrl
  | monStatus
  | monUrgent
  | monUrgResult
  | monStep0
  | monStep1
  | monResult
  | dirWord0
  | dirWord1
  | dirStatus
  | pdcTable
  | pdcCfg
  | pdcStatus
  | pdcCounts
  | pdcAnc
  | patchCfg
  | patchIn
  | patchTgt
  | patchRound
  | rxMap
  | decSrc
  | decSlot
  | decTack
  | frameBasis
  | decCfg
  | decClear
  | decCounts
  | decWord
  deriving DecidableEq, Repr

/-- One register: the array and its indices (unused indices are 0). -/
structure Reg where
  name : RegName
  i : Nat := 0
  j : Nat := 0
  k : Nat := 0
  deriving DecidableEq, Repr

/-- One field of one register. -/
structure RField where
  reg : Reg
  lo : Nat
  width : Nat
  deriving DecidableEq, Repr

/-- The map itself. -/
def RegName.info : RegName → RegInfo
  | .globalId => ⟨0x0, [], [⟨0, 16, .ro, 0x384⟩, ⟨16, 8, .ro, 0⟩, ⟨32, 32, .ro, 0⟩]⟩
  | .globalLock => ⟨0x10, [], [⟨0, 1, .wo, 0⟩, ⟨1, 1, .ro, 0⟩]⟩
  | .globalBoot => ⟨0x20, [], [⟨0, 4, .ro, 0⟩, ⟨4, 1, .ro, 0⟩, ⟨8, 4, .ro, 0⟩, ⟨12, 4, .ro, 0⟩, ⟨16, 16, .ro, 0⟩, ⟨32, 16, .ro, 0⟩, ⟨48, 2, .ro, 0⟩, ⟨50, 1, .ro, 0⟩, ⟨63, 1, .wo, 0⟩]⟩
  | .globalBootCfg => ⟨0x28, [], [⟨0, 1, .rw, 0⟩]⟩
  | .domainTiles => ⟨0x40, [⟨0x8, 4⟩], [⟨0, 16, .rws, 0⟩]⟩
  | .pwr => ⟨0x80, [], [⟨0, 2, .rw, 1⟩, ⟨8, 2, .ro, 1⟩, ⟨12, 1, .ro, 0⟩, ⟨16, 1, .ro, 0⟩, ⟨20, 4, .ro, 3⟩]⟩
  | .dieStatus => ⟨0x88, [], [⟨0, 4, .ro, 0⟩, ⟨4, 2, .ro, 0⟩, ⟨8, 2, .w1c, 0⟩, ⟨16, 4, .w1c, 0⟩]⟩
  | .modeRdo => ⟨0x100, [], [⟨0, 16, .rw, 0⟩, ⟨16, 16, .rw, 0⟩]⟩
  | .modeKernel => ⟨0x108, [⟨0x8, 16⟩], [⟨0, 24, .rw, 0⟩]⟩
  | .modeDec => ⟨0x188, [], [⟨0, 2, .rw, 0⟩]⟩
  | .modeFlux => ⟨0x190, [], [⟨0, 16, .rw, 0⟩]⟩
  | .modeBias => ⟨0x198, [⟨0x8, 6⟩], [⟨0, 64, .rw, 0⟩]⟩
  | .modeReplay => ⟨0x1C8, [], [⟨0, 1, .rw, 0⟩]⟩
  | .modeThrottle => ⟨0x1D0, [], [⟨0, 1, .rw, 0⟩]⟩
  | .timeStatus => ⟨0x1000000, [], [⟨0, 1, .ro, 0⟩, ⟨1, 1, .ro, 0⟩, ⟨2, 1, .ro, 0⟩, ⟨3, 1, .ro, 0⟩, ⟨4, 1, .ro, 0⟩, ⟨5, 1, .ro, 0⟩, ⟨6, 1, .w1c, 0⟩]⟩
  | .refCfg => ⟨0x1000008, [], [⟨0, 1, .rw, 0⟩, ⟨1, 1, .rw, 0⟩, ⟨2, 1, .wo, 0⟩]⟩
  | .xtalTrim => ⟨0x1000010, [], [⟨0, 24, .rw, 0⟩, ⟨32, 16, .rw, 0⟩]⟩
  | .xtalAccum => ⟨0x1000018, [], [⟨0, 32, .rw, 0⟩]⟩
  | .syncCtrl => ⟨0x1000020, [], [⟨0, 1, .rw, 0⟩, ⟨1, 1, .rw, 0⟩, ⟨8, 8, .rw, 0x40⟩, ⟨16, 8, .rw, 0x10⟩]⟩
  | .syncLoad => ⟨0x1000028, [], [⟨0, 64, .rw, 0⟩]⟩
  | .syncStamp => ⟨0x1000030, [], [⟨0, 64, .ro, 0⟩]⟩
  | .syncStat => ⟨0x1000038, [], [⟨0, 16, .ro, 0⟩, ⟨16, 8, .ro, 0⟩, ⟨24, 8, .ro, 0⟩, ⟨32, 8, .ro, 0⟩, ⟨40, 8, .ro, 0⟩, ⟨48, 1, .w1c, 0⟩, ⟨63, 1, .wo, 0⟩]⟩
  | .skew => ⟨0x1000040, [], [⟨0, 24, .rw, 0⟩]⟩
  | .skewCal => ⟨0x1000048, [], [⟨0, 1, .wo, 0⟩, ⟨1, 1, .rw, 0⟩, ⟨2, 1, .rw, 0⟩, ⟨3, 1, .ro, 0⟩, ⟨4, 1, .w1c, 0⟩, ⟨5, 1, .w1c, 0⟩, ⟨8, 5, .rw, 0⟩, ⟨16, 5, .rw, 0xa⟩, ⟨21, 3, .ro, 0⟩, ⟨32, 24, .ro, 0⟩]⟩
  | .timeNow => ⟨0x1000050, [], [⟨0, 64, .ro, 0⟩]⟩
  | .ptpCfg => ⟨0x1000080, [], [⟨0, 1, .rw, 0⟩, ⟨1, 1, .rw, 0⟩, ⟨2, 2, .rw, 0⟩, ⟨4, 1, .rw, 0⟩, ⟨5, 2, .rw, 0⟩, ⟨7, 1, .rw, 0⟩, ⟨8, 8, .rw, 0⟩, ⟨16, 4, .rw, 0⟩, ⟨24, 1, .rw, 0⟩, ⟨32, 8, .rw, 0x80⟩, ⟨40, 8, .rw, 0x80⟩]⟩
  | .ptpNs => ⟨0x1000088, [], [⟨0, 64, .ro, 0⟩]⟩
  | .ptpFrac => ⟨0x1000090, [], [⟨0, 32, .ro, 0⟩]⟩
  | .ptpIncr => ⟨0x1000098, [], [⟨0, 40, .rw, 0x100000000⟩, ⟨48, 16, .ro, 0⟩]⟩
  | .ptpStep => ⟨0x10000A0, [], [⟨0, 64, .wo, 0⟩]⟩
  | .ptpAsym => ⟨0x10000A8, [], [⟨0, 32, .rw, 0⟩]⟩
  | .latchCtrl => ⟨0x10000C0, [], [⟨0, 1, .wo, 0⟩, ⟨1, 1, .w1c, 0⟩, ⟨2, 1, .w1c, 0⟩, ⟨3, 1, .rw, 0⟩, ⟨8, 8, .rw, 0⟩, ⟨16, 1, .rw, 0⟩]⟩
  | .latchFt => ⟨0x10000C8, [], [⟨0, 64, .ro, 0⟩]⟩
  | .latchPtpNs => ⟨0x10000D0, [], [⟨0, 64, .ro, 0⟩]⟩
  | .latchPtpFrac => ⟨0x10000D8, [], [⟨0, 32, .ro, 0⟩]⟩
  | .eswId => ⟨0x2000000, [], [⟨0, 11, .rws, 0⟩]⟩
  | .eswStatus => ⟨0x2000008, [], [⟨0, 32, .ro, 0⟩, ⟨32, 1, .w1c, 0⟩]⟩
  | .laneCfg => ⟨0x2010000, [⟨0x100, 32⟩], [⟨0, 1, .rw, 0⟩, ⟨1, 2, .rw, 0⟩, ⟨3, 5, .rw, 0⟩, ⟨8, 1, .rw, 0⟩, ⟨16, 11, .rw, 0⟩, ⟨27, 5, .rw, 0⟩]⟩
  | .laneStatus => ⟨0x2010008, [⟨0x100, 32⟩], [⟨0, 3, .ro, 0⟩, ⟨3, 4, .ro, 0⟩, ⟨7, 1, .w1c, 0⟩, ⟨8, 11, .ro, 0⟩, ⟨19, 5, .ro, 0⟩, ⟨24, 8, .ro, 0⟩, ⟨32, 16, .ro, 0⟩, ⟨48, 8, .ro, 0⟩]⟩
  | .laneEq => ⟨0x2010010, [⟨0x100, 32⟩], [⟨0, 4, .ro, 0⟩, ⟨4, 3, .ro, 0⟩, ⟨7, 1, .ro, 0⟩, ⟨8, 8, .rw, 0x4d⟩, ⟨16, 16, .rw, 0x400⟩, ⟨32, 8, .rw, 0x10⟩, ⟨40, 1, .rw, 0⟩, ⟨41, 1, .rw, 0⟩]⟩
  | .laneCounts0 => ⟨0x2010018, [⟨0x100, 32⟩], [⟨0, 32, .ro, 0⟩, ⟨32, 16, .ro, 0⟩, ⟨48, 15, .ro, 0⟩, ⟨63, 1, .wo, 0⟩]⟩
  | .laneCounts1 => ⟨0x2010020, [⟨0x100, 32⟩], [⟨0, 16, .ro, 0⟩, ⟨16, 16, .ro, 0⟩, ⟨32, 8, .ro, 0⟩, ⟨40, 8, .ro, 0⟩, ⟨48, 8, .ro, 0⟩, ⟨56, 7, .ro, 0⟩, ⟨63, 1, .wo, 0⟩]⟩
  | .laneCounts2 => ⟨0x2010028, [⟨0x100, 32⟩], [⟨0, 16, .ro, 0⟩, ⟨16, 16, .ro, 0⟩, ⟨32, 8, .ro, 0⟩, ⟨40, 8, .ro, 0⟩, ⟨63, 1, .wo, 0⟩]⟩
  | .routeGrove => ⟨0x2020000, [⟨0x8, 128⟩], [⟨0, 5, .rw, 0⟩, ⟨5, 1, .rw, 0⟩]⟩
  | .routeMember => ⟨0x2020400, [⟨0x8, 16⟩], [⟨0, 5, .rw, 0⟩, ⟨5, 1, .rw, 0⟩]⟩
  | .txr => ⟨0x2030000, [⟨0x8, 1024⟩], [⟨0, 12, .rw, 0⟩, ⟨12, 5, .rw, 0⟩, ⟨17, 9, .rw, 0⟩, ⟨26, 1, .rw, 0⟩]⟩
  | .eswExp0 => ⟨0x2040000, [⟨0x20, 64⟩], [⟨0, 48, .rw, 0⟩]⟩
  | .eswExp1 => ⟨0x2040008, [⟨0x20, 64⟩], [⟨0, 24, .rw, 0⟩, ⟨24, 16, .rw, 0⟩, ⟨40, 4, .rw, 0⟩, ⟨44, 3, .rw, 0⟩, ⟨47, 1, .rw, 0⟩]⟩
  | .eswExp2 => ⟨0x2040010, [⟨0x20, 64⟩], [⟨0, 48, .ro, 0⟩, ⟨48, 16, .ro, 0⟩]⟩
  | .eswBar => ⟨0x2050000, [⟨0x8, 64⟩], [⟨0, 1, .rw, 0⟩, ⟨1, 1, .rw, 0⟩, ⟨2, 5, .rw, 0⟩, ⟨8, 32, .rw, 0⟩, ⟨40, 10, .rw, 4⟩, ⟨52, 4, .ro, 0⟩]⟩
  | .rxr0 => ⟨0x2100000, [⟨0x2000, 32⟩, ⟨0x10, 512⟩], [⟨0, 12, .rw, 0⟩, ⟨12, 1, .rw, 0⟩, ⟨13, 1, .rw, 0⟩, ⟨14, 5, .rw, 0⟩, ⟨19, 9, .rw, 0⟩, ⟨28, 11, .rw, 0⟩, ⟨39, 4, .rw, 0⟩, ⟨43, 2, .rw, 0⟩, ⟨45, 1, .rw, 0⟩, ⟨46, 1, .rw, 0⟩]⟩
  | .rxr1 => ⟨0x2100008, [⟨0x2000, 32⟩, ⟨0x10, 512⟩], [⟨0, 10, .rw, 0⟩, ⟨10, 2, .rw, 0⟩, ⟨12, 6, .rw, 0⟩, ⟨18, 10, .rw, 0⟩]⟩
  | .linkMac => ⟨0x3000000, [⟨0x80, 8⟩], [⟨0, 48, .rws, 0⟩]⟩
  | .linkIp => ⟨0x3000008, [⟨0x80, 8⟩], [⟨0, 32, .rws, 0⟩, ⟨32, 12, .rws, 0⟩, ⟨44, 1, .rws, 0⟩, ⟨45, 3, .rw, 3⟩]⟩
  | .linkIp6Hi => ⟨0x3000010, [⟨0x80, 8⟩], [⟨0, 64, .rws, 0⟩]⟩
  | .linkIp6Lo => ⟨0x3000018, [⟨0x80, 8⟩], [⟨0, 64, .rws, 0⟩]⟩
  | .linkCounts => ⟨0x3000020, [⟨0x80, 8⟩], [⟨0, 16, .ro, 0⟩, ⟨16, 16, .ro, 0⟩, ⟨32, 16, .ro, 0⟩, ⟨48, 16, .ro, 0⟩]⟩
  | .port => ⟨0x3000800, [⟨0x8, 2⟩], [⟨0, 1, .rw, 0⟩, ⟨1, 2, .rw, 0⟩, ⟨3, 2, .rw, 0⟩, ⟨5, 1, .rw, 0⟩, ⟨6, 1, .rw, 0⟩, ⟨7, 3, .rw, 3⟩, ⟨10, 1, .w1c, 0⟩]⟩
  | .portStatus => ⟨0x3000820, [⟨0x8, 2⟩], [⟨0, 4, .ro, 0⟩, ⟨16, 32, .ro, 0⟩, ⟨48, 16, .ro, 0⟩]⟩
  | .kenMCfg => ⟨0x3001000, [], [⟨0, 16, .rws, 0xb46e⟩, ⟨16, 1, .rws, 1⟩]⟩
  | .kenMStatus => ⟨0x3001008, [], [⟨0, 16, .ro, 0⟩, ⟨16, 16, .ro, 0⟩, ⟨32, 16, .ro, 0⟩, ⟨48, 16, .ro, 0⟩]⟩
  | .acl0 => ⟨0x3001100, [⟨0x20, 16⟩], [⟨0, 1, .rws, 0⟩, ⟨1, 1, .rws, 0⟩, ⟨8, 8, .rws, 0⟩, ⟨16, 3, .rws, 0⟩, ⟨19, 1, .rws, 0⟩]⟩
  | .acl1 => ⟨0x3001108, [⟨0x20, 16⟩], [⟨0, 64, .rws, 0⟩]⟩
  | .acl2 => ⟨0x3001110, [⟨0x20, 16⟩], [⟨0, 64, .rws, 0⟩]⟩
  | .qpCtrl => ⟨0x3010000, [⟨0x80, 64⟩], [⟨0, 3, .rw, 0⟩, ⟨3, 3, .rw, 0⟩, ⟨6, 3, .rws, 0⟩, ⟨9, 1, .rws, 0⟩, ⟨10, 6, .rw, 0⟩, ⟨16, 7, .rw, 0x10⟩, ⟨24, 24, .rw, 0⟩, ⟨48, 3, .rw, 7⟩, ⟨51, 3, .rw, 7⟩, ⟨54, 5, .rw, 0xe⟩]⟩
  | .qpPsn => ⟨0x3010008, [⟨0x80, 64⟩], [⟨0, 24, .rw, 0⟩, ⟨32, 24, .rw, 0⟩]⟩
  | .qpGidHi => ⟨0x3010010, [⟨0x80, 64⟩], [⟨0, 64, .rw, 0⟩]⟩
  | .qpGidLo => ⟨0x3010018, [⟨0x80, 64⟩], [⟨0, 64, .rw, 0⟩]⟩
  | .qpDmac => ⟨0x3010020, [⟨0x80, 64⟩], [⟨0, 48, .rw, 0⟩]⟩
  | .qpErr => ⟨0x3010028, [⟨0x80, 64⟩], [⟨0, 4, .ro, 0⟩, ⟨16, 16, .ro, 0⟩, ⟨32, 16, .ro, 0⟩]⟩
  | .cmdCfg => ⟨0x3020000, [⟨0x40, 64⟩], [⟨0, 1, .rw, 0⟩, ⟨1, 1, .rw, 0⟩, ⟨2, 1, .rw, 0⟩, ⟨3, 5, .rw, 6⟩, ⟨8, 6, .rw, 0⟩, ⟨14, 6, .rw, 0⟩, ⟨32, 32, .rw, 0⟩]⟩
  | .cmdBase => ⟨0x3020008, [⟨0x40, 64⟩], [⟨0, 64, .rw, 0⟩]⟩
  | .cmdShadow => ⟨0x3020010, [⟨0x40, 64⟩], [⟨0, 64, .rw, 0⟩]⟩
  | .cmdIdx => ⟨0x3020018, [⟨0x40, 64⟩], [⟨0, 32, .ro, 0⟩, ⟨32, 32, .ro, 0⟩]⟩
  | .cplCfg => ⟨0x3030000, [⟨0x40, 64⟩], [⟨0, 1, .rw, 0⟩, ⟨3, 5, .rw, 6⟩, ⟨8, 6, .rw, 0⟩, ⟨14, 6, .rw, 0⟩, ⟨32, 32, .rw, 0⟩]⟩
  | .cplBase => ⟨0x3030008, [⟨0x40, 64⟩], [⟨0, 64, .rw, 0⟩]⟩
  | .cplShadow => ⟨0x3030010, [⟨0x40, 64⟩], [⟨0, 64, .rw, 0⟩]⟩
  | .cplIdx => ⟨0x3030018, [⟨0x40, 64⟩], [⟨0, 32, .ro, 0⟩, ⟨32, 32, .ro, 0⟩]⟩
  | .resCfg => ⟨0x3040000, [⟨0x40, 64⟩], [⟨0, 1, .rw, 0⟩, ⟨2, 1, .rw, 0⟩, ⟨3, 5, .rw, 6⟩, ⟨8, 6, .rw, 0⟩, ⟨14, 6, .rw, 0⟩, ⟨20, 8, .rw, 1⟩, ⟨28, 4, .rw, 1⟩, ⟨32, 32, .rw, 0⟩]⟩
  | .resBase => ⟨0x3040008, [⟨0x40, 64⟩], [⟨0, 64, .rw, 0⟩]⟩
  | .resShadow => ⟨0x3040010, [⟨0x40, 64⟩], [⟨0, 64, .rw, 0⟩]⟩
  | .resIdx => ⟨0x3040018, [⟨0x40, 64⟩], [⟨0, 32, .ro, 0⟩, ⟨32, 32, .ro, 0⟩]⟩
  | .ptprCfg => ⟨0x3050040, [], [⟨0, 1, .rw, 0⟩, ⟨3, 5, .rw, 6⟩, ⟨8, 6, .rw, 0⟩, ⟨14, 6, .rw, 0⟩, ⟨32, 32, .rw, 0⟩]⟩
  | .ptprBase => ⟨0x3050048, [], [⟨0, 64, .rw, 0⟩]⟩
  | .ptprShadow => ⟨0x3050050, [], [⟨0, 64, .rw, 0⟩]⟩
  | .ptprIdx => ⟨0x3050058, [], [⟨0, 32, .ro, 0⟩, ⟨32, 32, .ro, 0⟩]⟩
  | .kenEvt => ⟨0x3050000, [], [⟨0, 6, .rw, 0⟩, ⟨6, 1, .rw, 0⟩]⟩
  | .kenDb => ⟨0x3050008, [], [⟨0, 32, .rw, 0⟩]⟩
  | .kenDbBase => ⟨0x3050010, [], [⟨0, 64, .rw, 0⟩]⟩
  | .ptpPeer => ⟨0x3050100, [⟨0x10, 4⟩, ⟨0x8, 2⟩], [⟨0, 64, .rw, 0⟩]⟩
  | .kenCounts => ⟨0x3050200, [], [⟨0, 16, .ro, 0⟩, ⟨16, 16, .ro, 0⟩, ⟨32, 16, .ro, 0⟩, ⟨48, 8, .ro, 0⟩, ⟨56, 7, .ro, 0⟩, ⟨63, 1, .wo, 0⟩]⟩
  | .seamStatus => ⟨0x4000000, [], [⟨0, 16, .ro, 0⟩, ⟨16, 16, .ro, 0⟩, ⟨32, 1, .w1c, 0⟩, ⟨63, 1, .wo, 0⟩]⟩
  | .seamCh => ⟨0x4001000, [⟨0x8, 256⟩], [⟨0, 9, .rw, 0⟩, ⟨9, 1, .rw, 0⟩, ⟨16, 9, .rw, 0⟩, ⟨32, 1, .rw, 0⟩, ⟨33, 1, .rw, 0⟩, ⟨35, 3, .rw, 0⟩, ⟨38, 1, .rw, 0⟩, ⟨39, 1, .ro, 0⟩, ⟨48, 16, .ro, 0⟩]⟩
  | .srcOwn => ⟨0x4002000, [⟨0x8, 32⟩], [⟨0, 3, .rw, 0⟩, ⟨4, 3, .rw, 0⟩, ⟨8, 3, .rw, 0⟩, ⟨12, 3, .rw, 0⟩, ⟨16, 3, .rw, 0⟩, ⟨20, 3, .rw, 0⟩, ⟨24, 3, .rw, 0⟩, ⟨28, 3, .rw, 0⟩, ⟨32, 3, .rw, 0⟩, ⟨36, 3, .rw, 0⟩, ⟨40, 3, .rw, 0⟩, ⟨44, 3, .rw, 0⟩, ⟨48, 3, .rw, 0⟩, ⟨52, 3, .rw, 0⟩, ⟨56, 3, .rw, 0⟩, ⟨60, 3, .rw, 0⟩]⟩
  | .tack0 => ⟨0x4003000, [⟨0x10, 64⟩], [⟨0, 16, .rw, 0⟩, ⟨16, 1, .rw, 0⟩, ⟨17, 1, .rw, 0⟩, ⟨24, 8, .rw, 0⟩, ⟨32, 3, .rw, 0⟩, ⟨36, 1, .rw, 0⟩]⟩
  | .tack1 => ⟨0x4003008, [⟨0x10, 64⟩], [⟨0, 9, .rw, 0⟩, ⟨16, 9, .rw, 0⟩, ⟨32, 9, .rw, 0⟩, ⟨48, 9, .rw, 0⟩]⟩
  | .tmrCfg => ⟨0x4004000, [⟨0x20, 16⟩], [⟨0, 1, .wo, 0⟩, ⟨1, 1, .wo, 0⟩, ⟨2, 1, .ro, 0⟩, ⟨3, 2, .rw, 1⟩, ⟨5, 1, .rw, 0⟩, ⟨6, 1, .rw, 0⟩, ⟨7, 1, .rw, 0⟩, ⟨8, 8, .rw, 0⟩, ⟨16, 8, .rw, 0⟩, ⟨32, 16, .ro, 0⟩]⟩
  | .tmrTime => ⟨0x4004008, [⟨0x20, 16⟩], [⟨0, 32, .rw, 0x3e8⟩, ⟨32, 32, .rw, 0⟩]⟩
  | .tmrOrigin => ⟨0x4004010, [⟨0x20, 16⟩], [⟨0, 64, .rw, 0⟩]⟩
  | .claimMk => ⟨0x4005000, [⟨0x8, 32⟩], [⟨0, 5, .rw, 0⟩, ⟨8, 8, .rw, 0⟩, ⟨16, 1, .rw, 0⟩, ⟨17, 3, .ro, 0⟩]⟩
  | .claimTmr => ⟨0x4005100, [⟨0x8, 16⟩], [⟨0, 3, .rw, 1⟩, ⟨3, 3, .ro, 0⟩]⟩
  | .claimTdc => ⟨0x4005180, [⟨0x8, 12⟩], [⟨0, 3, .rw, 1⟩, ⟨3, 3, .ro, 0⟩]⟩
  | .claimLog => ⟨0x40051E0, [], [⟨0, 3, .rw, 1⟩, ⟨3, 3, .ro, 0⟩]⟩
  | .seamTask => ⟨0x4006000, [], [⟨0, 8, .rw, 0⟩, ⟨8, 1, .rw, 0⟩, ⟨16, 8, .rw, 0⟩, ⟨24, 1, .rw, 0⟩, ⟨32, 32, .rw, 0⟩]⟩
  | .logData => ⟨0x4007000, [], [⟨0, 64, .ro, 0⟩]⟩
  | .logStatus => ⟨0x4007008, [], [⟨0, 11, .ro, 0⟩, ⟨11, 1, .w1c, 0⟩, ⟨12, 1, .w1c, 0⟩, ⟨13, 1, .wo, 0⟩, ⟨16, 16, .ro, 0⟩]⟩
  | .intCfg => ⟨0x5000000, [], [⟨0, 3, .rw, 2⟩, ⟨3, 1, .rw, 0⟩, ⟨8, 8, .rw, 8⟩, ⟨16, 16, .rw, 0x400⟩]⟩
  | .intCounts => ⟨0x5000008, [], [⟨0, 32, .ro, 0⟩, ⟨32, 16, .ro, 0⟩, ⟨48, 15, .ro, 0⟩, ⟨63, 1, .wo, 0⟩]⟩
  | .intCounts2 => ⟨0x5000010, [], [⟨0, 16, .ro, 0⟩, ⟨16, 8, .ro, 0⟩, ⟨24, 8, .ro, 0⟩, ⟨32, 8, .ro, 0⟩, ⟨40, 8, .ro, 0⟩, ⟨48, 8, .ro, 0⟩, ⟨56, 7, .ro, 0⟩, ⟨63, 1, .wo, 0⟩]⟩
  | .intLast => ⟨0x5000018, [], [⟨0, 8, .ro, 0⟩, ⟨8, 8, .ro, 0⟩, ⟨16, 4, .ro, 0⟩, ⟨20, 3, .ro, 0⟩, ⟨23, 1, .ro, 0⟩, ⟨24, 1, .ro, 0⟩, ⟨32, 32, .ro, 0⟩]⟩
  | .intLastTick => ⟨0x5000020, [], [⟨0, 64, .ro, 0⟩]⟩
  | .canopyCfg => ⟨0x5001000, [], [⟨0, 1, .rw, 0⟩, ⟨8, 4, .rw, 0⟩, ⟨16, 16, .rw, 0xa00⟩, ⟨32, 16, .rw, 0xc80⟩, ⟨48, 16, .rw, 0x17c0⟩]⟩
  | .canopyStatus => ⟨0x5001008, [], [⟨0, 4, .ro, 0⟩, ⟨4, 4, .ro, 0⟩, ⟨8, 4, .ro, 0⟩, ⟨12, 1, .ro, 0⟩, ⟨13, 1, .ro, 0⟩, ⟨14, 1, .ro, 0⟩, ⟨16, 16, .ro, 0⟩, ⟨32, 7, .ro, 0⟩, ⟨40, 16, .ro, 0⟩]⟩
  | .sensBad => ⟨0x5001010, [], [⟨0, 24, .w1c, 0⟩, ⟨32, 3, .ro, 0⟩, ⟨35, 5, .ro, 0⟩]⟩
  | .plate => ⟨0x5001018, [], [⟨0, 16, .ro, 0⟩, ⟨16, 16, .ro, 0⟩]⟩
  | .canopyCounts => ⟨0x5001020, [], [⟨0, 16, .ro, 0⟩, ⟨16, 16, .ro, 0⟩, ⟨32, 8, .ro, 0⟩, ⟨40, 8, .ro, 0⟩, ⟨48, 8, .ro, 0⟩, ⟨63, 1, .wo, 0⟩]⟩
  | .devPolicy => ⟨0x5001100, [⟨0x8, 8⟩], [⟨0, 16, .ro, 0⟩, ⟨16, 8, .ro, 0xc0⟩, ⟨24, 8, .ro, 0⟩]⟩
  | .hostPolicy => ⟨0x5001140, [⟨0x8, 8⟩], [⟨0, 16, .rw, 0⟩, ⟨16, 8, .rw, 0xc0⟩, ⟨24, 8, .rw, 0⟩]⟩
  | .sensor => ⟨0x5001200, [⟨0x8, 24⟩], [⟨0, 16, .ro, 0⟩, ⟨16, 16, .ro, 0⟩, ⟨32, 1, .ro, 0⟩]⟩
  | .diode => ⟨0x5001300, [⟨0x8, 16⟩], [⟨0, 16, .ro, 0⟩, ⟨16, 7, .ro, 0⟩, ⟨24, 5, .ro, 0⟩, ⟨29, 1, .ro, 0⟩, ⟨32, 16, .ro, 0⟩]⟩
  | .node => ⟨0x5001400, [⟨0x8, 96⟩], [⟨0, 16, .ro, 0⟩]⟩
  | .cryoCfg => ⟨0x5002000, [], [⟨0, 1, .rw, 0⟩, ⟨8, 8, .rw, 0xa⟩, ⟨16, 8, .rw, 0xe6⟩]⟩
  | .cryoStage0 => ⟨0x5002040, [⟨0x20, 4⟩], [⟨0, 16, .rw, 0⟩, ⟨16, 32, .rw, 0⟩]⟩
  | .cryoStage1 => ⟨0x5002048, [⟨0x20, 4⟩], [⟨0, 16, .rw, 0⟩, ⟨16, 32, .rw, 0⟩]⟩
  | .cryoStage2 => ⟨0x5002050, [⟨0x20, 4⟩], [⟨0, 32, .rw, 0⟩, ⟨32, 1, .rw, 0⟩]⟩
  | .cryoStage3 => ⟨0x5002058, [⟨0x20, 4⟩], [⟨0, 32, .ro, 0⟩, ⟨32, 32, .ro, 0⟩]⟩
  | .cryoLine => ⟨0x5002800, [⟨0x8, 256⟩], [⟨0, 16, .rw, 0⟩, ⟨16, 16, .rw, 0⟩, ⟨32, 16, .rw, 0⟩, ⟨48, 16, .rw, 0⟩]⟩
  | .cryoLpower => ⟨0x5003000, [⟨0x8, 256⟩], [⟨0, 32, .ro, 0⟩, ⟨32, 32, .ro, 0⟩]⟩
  | .tdcIn => ⟨0x6000000, [⟨0x8, 20⟩], [⟨0, 1, .rw, 0⟩, ⟨1, 1, .rw, 0⟩, ⟨4, 12, .rw, 0x1f4⟩, ⟨32, 16, .rw, 0⟩]⟩
  | .tdcCal => ⟨0x6000F00, [], [⟨0, 1, .rw, 0⟩, ⟨8, 4, .rw, 0⟩, ⟨16, 24, .rw, 0x3e8⟩, ⟨40, 16, .rw, 0x64⟩]⟩
  | .calOrigin => ⟨0x6000F08, [], [⟨0, 64, .rw, 0⟩]⟩
  | .tdcCfg => ⟨0x6001000, [⟨0x80, 12⟩], [⟨0, 1, .rw, 0⟩, ⟨1, 2, .rw, 1⟩, ⟨3, 1, .w1c, 0⟩, ⟨8, 5, .rw, 0⟩, ⟨16, 5, .rw, 0⟩, ⟨24, 20, .rw, 0x3e8⟩, ⟨48, 4, .rw, 0⟩, ⟨52, 1, .rw, 0⟩]⟩
  | .tdcCounts => ⟨0x6001008, [⟨0x80, 12⟩], [⟨0, 16, .ro, 0⟩, ⟨16, 16, .ro, 0⟩, ⟨32, 16, .ro, 0⟩, ⟨48, 15, .ro, 0⟩, ⟨63, 1, .wo, 0⟩]⟩
  | .tdcQData => ⟨0x6001010, [⟨0x80, 12⟩], [⟨0, 64, .ro, 0⟩]⟩
  | .tdcQStatus => ⟨0x6001018, [⟨0x80, 12⟩], [⟨0, 10, .ro, 0⟩, ⟨10, 1, .w1c, 0⟩, ⟨11, 1, .w1c, 0⟩, ⟨12, 1, .wo, 0⟩, ⟨16, 16, .ro, 0⟩]⟩
  | .statCtrl => ⟨0x6001420, [⟨0x80, 4⟩], [⟨0, 1, .wo, 0⟩, ⟨1, 1, .ro, 0⟩, ⟨2, 1, .w1c, 0⟩, ⟨3, 1, .w1c, 0⟩, ⟨8, 5, .rw, 0xa⟩]⟩
  | .statMean => ⟨0x6001428, [⟨0x80, 4⟩], [⟨0, 64, .ro, 0⟩]⟩
  | .statSd => ⟨0x6001430, [⟨0x80, 4⟩], [⟨0, 48, .ro, 0⟩]⟩
  | .statMinmax => ⟨0x6001438, [⟨0x80, 4⟩], [⟨0, 32, .ro, 0⟩, ⟨32, 32, .ro, 0⟩]⟩
  | .hwCtrl => ⟨0x7000000, [], [⟨0, 1, .wo, 0⟩, ⟨8, 8, .rw, 0⟩]⟩
  | .hwStatus => ⟨0x7000008, [], [⟨0, 1, .ro, 0⟩, ⟨4, 4, .ro, 0⟩, ⟨8, 8, .ro, 0⟩, ⟨16, 4, .ro, 0⟩, ⟨20, 1, .ro, 0⟩, ⟨32, 16, .ro, 0⟩, ⟨48, 16, .ro, 0⟩]⟩
  | .flashCtrl => ⟨0x7000010, [], [⟨0, 1, .wo, 0⟩, ⟨1, 1, .wo, 0⟩, ⟨2, 1, .ro, 0⟩, ⟨3, 1, .w1c, 0⟩]⟩
  | .flashAddr => ⟨0x7000018, [], [⟨0, 25, .rw, 0⟩]⟩
  | .hwRec => ⟨0x7000100, [⟨0x8, 32⟩], [⟨0, 32, .ro, 0⟩, ⟨32, 2, .ro, 0⟩, ⟨34, 1, .ro, 0⟩]⟩
  | .flashBuf => ⟨0x7001000, [⟨0x8, 512⟩], [⟨0, 64, .rw, 0⟩]⟩
  | .ndlStatus => ⟨0x10000000, [⟨0x100000, 16⟩], [⟨0, 2, .ro, 0⟩, ⟨2, 1, .w1c, 0⟩, ⟨8, 8, .ro, 0⟩, ⟨16, 8, .w1c, 0⟩]⟩
  | .barMap => ⟨0x10000100, [⟨0x100000, 16⟩, ⟨0x8, 8⟩], [⟨0, 8, .rw, 0⟩, ⟨8, 8, .rw, 0⟩, ⟨16, 8, .rw, 0⟩, ⟨24, 8, .rw, 0⟩, ⟨32, 8, .rw, 0⟩, ⟨40, 8, .rw, 0⟩, ⟨48, 8, .rw, 0⟩, ⟨56, 8, .rw, 0⟩]⟩
  | .thrCfg => ⟨0x10001000, [⟨0x100000, 16⟩, ⟨0x40, 8⟩], [⟨0, 8, .rw, 0⟩, ⟨8, 8, .rw, 0⟩, ⟨16, 16, .rw, 0x3e8⟩, ⟨32, 16, .rw, 0x64⟩]⟩
  | .trigSrc => ⟨0x10001008, [⟨0x100000, 16⟩, ⟨0x40, 8⟩], [⟨0, 8, .rw, 0⟩, ⟨8, 8, .rw, 0⟩, ⟨16, 8, .rw, 0⟩, ⟨24, 8, .rw, 0⟩, ⟨32, 8, .rw, 0⟩, ⟨40, 8, .rw, 0⟩, ⟨48, 8, .rw, 0⟩, ⟨56, 8, .rw, 0⟩]⟩
  | .thrState => ⟨0x10001010, [⟨0x100000, 16⟩, ⟨0x40, 8⟩], [⟨0, 4, .ro, 0⟩, ⟨4, 3, .ro, 0⟩, ⟨8, 7, .ro, 0⟩, ⟨15, 1, .ro, 0⟩, ⟨16, 3, .ro, 0⟩, ⟨24, 17, .ro, 0⟩, ⟨43, 3, .ro, 0⟩, ⟨48, 8, .ro, 0⟩]⟩
  | .thrCounts => ⟨0x10001018, [⟨0x100000, 16⟩, ⟨0x40, 8⟩], [⟨0, 16, .ro, 0⟩, ⟨16, 16, .ro, 0⟩, ⟨32, 16, .ro, 0⟩, ⟨63, 1, .wo, 0⟩]⟩
  | .thrTc => ⟨0x10001020, [⟨0x100000, 16⟩, ⟨0x40, 8⟩], [⟨0, 64, .ro, 0⟩]⟩
  | .thrCtrl => ⟨0x10001028, [⟨0x100000, 16⟩, ⟨0x40, 8⟩], [⟨0, 1, .wo, 0⟩, ⟨1, 1, .wo, 0⟩]⟩
  | .synCfg => ⟨0x10020000, [⟨0x100000, 16⟩, ⟨0x40, 4⟩], [⟨0, 1, .rw, 0⟩, ⟨1, 1, .rw, 0⟩, ⟨2, 1, .w1c, 0⟩, ⟨3, 1, .w1c, 0⟩, ⟨16, 16, .rw, 0x8000⟩]⟩
  | .clipCount => ⟨0x10020008, [⟨0x100000, 16⟩, ⟨0x40, 4⟩], [⟨0, 48, .ro, 0⟩, ⟨63, 1, .wo, 0⟩]⟩
  | .clipFirst => ⟨0x10020010, [⟨0x100000, 16⟩, ⟨0x40, 4⟩], [⟨0, 64, .ro, 0⟩]⟩
  | .synCounts => ⟨0x10020100, [⟨0x100000, 16⟩], [⟨0, 16, .ro, 0⟩, ⟨16, 16, .ro, 0⟩, ⟨32, 16, .ro, 0⟩, ⟨63, 1, .wo, 0⟩]⟩
  | .toneFreq => ⟨0x10021000, [⟨0x100000, 16⟩, ⟨0x400, 4⟩, ⟨0x20, 24⟩], [⟨0, 48, .rw, 0⟩]⟩
  | .tonePhase => ⟨0x10021008, [⟨0x100000, 16⟩, ⟨0x400, 4⟩, ⟨0x20, 24⟩], [⟨0, 32, .rw, 0⟩, ⟨32, 16, .rw, 0x7fff⟩]⟩
  | .toneVz => ⟨0x10021010, [⟨0x100000, 16⟩, ⟨0x400, 4⟩, ⟨0x20, 24⟩], [⟨0, 48, .rw, 0⟩]⟩
  | .synMark => ⟨0x10022000, [⟨0x100000, 16⟩, ⟨0x8, 32⟩], [⟨0, 1, .rw, 0⟩, ⟨1, 1, .rw, 0⟩, ⟨2, 1, .rw, 0⟩, ⟨4, 8, .rw, 0⟩, ⟨16, 8, .rw, 0⟩, ⟨24, 8, .rw, 0⟩, ⟨32, 16, .rw, 0x10⟩]⟩
  | .bobCfg => ⟨0x10023000, [⟨0x100000, 16⟩, ⟨0x80, 4⟩], [⟨0, 1, .rw, 0⟩, ⟨1, 1, .wo, 0⟩, ⟨4, 4, .rw, 4⟩, ⟨16, 4, .rw, 0⟩, ⟨24, 5, .rw, 0⟩, ⟨32, 16, .rw, 0x10⟩, ⟨48, 16, .rw, 0x10⟩]⟩
  | .bobLoopMark => ⟨0x10023008, [⟨0x100000, 16⟩, ⟨0x80, 4⟩], [⟨0, 64, .rw, 0⟩]⟩
  | .bobLoopEnd => ⟨0x10023010, [⟨0x100000, 16⟩, ⟨0x80, 4⟩], [⟨0, 64, .rw, 0⟩]⟩
  | .bobLoop => ⟨0x10023018, [⟨0x100000, 16⟩, ⟨0x80, 4⟩], [⟨0, 16, .rw, 0⟩, ⟨16, 16, .ro, 0⟩]⟩
  | .bobWp => ⟨0x10023020, [⟨0x100000, 16⟩, ⟨0x80, 4⟩], [⟨0, 64, .ro, 0⟩]⟩
  | .bobRp => ⟨0x10023028, [⟨0x100000, 16⟩, ⟨0x80, 4⟩], [⟨0, 64, .ro, 0⟩]⟩
  | .bobStatus => ⟨0x10023030, [⟨0x100000, 16⟩, ⟨0x80, 4⟩], [⟨0, 3, .ro, 0⟩, ⟨3, 1, .ro, 0⟩, ⟨4, 1, .ro, 0⟩, ⟨5, 1, .w1c, 0⟩, ⟨8, 8, .ro, 0⟩, ⟨16, 16, .ro, 0⟩, ⟨32, 32, .ro, 0⟩]⟩
  | .adcCfg => ⟨0x10040000, [⟨0x100000, 16⟩], [⟨0, 1, .rw, 0⟩, ⟨1, 1, .rw, 0⟩, ⟨2, 1, .w1c, 0⟩, ⟨4, 8, .rw, 0x78⟩]⟩
  | .adcStatus => ⟨0x10040008, [⟨0x100000, 16⟩], [⟨0, 1, .ro, 0⟩, ⟨16, 16, .w1c, 0⟩, ⟨32, 32, .ro, 0⟩]⟩
  | .adcCorr => ⟨0x10040010, [⟨0x100000, 16⟩], [⟨0, 1, .wo, 0⟩, ⟨1, 1, .wo, 0⟩, ⟨2, 1, .ro, 0⟩, ⟨3, 1, .wo, 0⟩, ⟨8, 8, .rw, 0xa⟩, ⟨16, 16, .ro, 0⟩, ⟨32, 32, .ro, 0⟩]⟩
  | .ovrCount => ⟨0x10040100, [⟨0x100000, 16⟩, ⟨0x8, 16⟩], [⟨0, 32, .ro, 0⟩, ⟨63, 1, .wo, 0⟩]⟩
  | .corrActive => ⟨0x10040400, [⟨0x100000, 16⟩, ⟨0x8, 16⟩], [⟨0, 16, .ro, 0⟩, ⟨16, 16, .ro, 0⟩, ⟨32, 16, .ro, 0⟩, ⟨48, 16, .ro, 0⟩]⟩
  | .corrStage => ⟨0x10040480, [⟨0x100000, 16⟩, ⟨0x8, 16⟩], [⟨0, 16, .rw, 0⟩, ⟨16, 16, .rw, 0⟩, ⟨32, 16, .rw, 0⟩, ⟨48, 16, .rw, 0⟩]⟩
  | .corrEst => ⟨0x10040500, [⟨0x100000, 16⟩, ⟨0x8, 16⟩], [⟨0, 16, .ro, 0⟩, ⟨16, 16, .ro, 0⟩, ⟨32, 16, .ro, 0⟩, ⟨48, 16, .ro, 0⟩]⟩
  | .acqCfg => ⟨0x10041000, [⟨0x100000, 16⟩, ⟨0x80, 24⟩], [⟨0, 1, .rw, 0⟩, ⟨1, 1, .rw, 0⟩, ⟨8, 6, .rw, 0⟩, ⟨16, 4, .rw, 0⟩, ⟨32, 10, .rw, 0⟩]⟩
  | .acqDfreq => ⟨0x10041008, [⟨0x100000, 16⟩, ⟨0x80, 24⟩], [⟨0, 48, .rw, 0⟩]⟩
  | .acqDphase => ⟨0x10041010, [⟨0x100000, 16⟩, ⟨0x80, 24⟩], [⟨0, 32, .rw, 0⟩]⟩
  | .acqDelay => ⟨0x10041018, [⟨0x100000, 16⟩, ⟨0x80, 24⟩], [⟨0, 16, .rw, 0⟩]⟩
  | .acqBoxw => ⟨0x10041020, [⟨0x100000, 16⟩, ⟨0x80, 24⟩], [⟨0, 16, .rw, 0x7fff⟩, ⟨16, 16, .rw, 0⟩]⟩
  | .acqDisc0 => ⟨0x10041028, [⟨0x100000, 16⟩, ⟨0x80, 24⟩], [⟨0, 16, .rw, 0x7fff⟩, ⟨16, 16, .rw, 0⟩, ⟨32, 32, .rw, 0⟩]⟩
  | .acqDisc1 => ⟨0x10041030, [⟨0x100000, 16⟩, ⟨0x80, 24⟩], [⟨0, 16, .rw, 0x7fff⟩, ⟨16, 16, .rw, 0⟩, ⟨32, 32, .rw, 0⟩]⟩
  | .acqGuard => ⟨0x10041038, [⟨0x100000, 16⟩, ⟨0x80, 24⟩], [⟨0, 24, .rw, 0⟩, ⟨32, 24, .rw, 0⟩]⟩
  | .acqCtrl => ⟨0x10041040, [⟨0x100000, 16⟩, ⟨0x80, 24⟩], [⟨0, 1, .wo, 0⟩]⟩
  | .acqStatus => ⟨0x10041048, [⟨0x100000, 16⟩, ⟨0x80, 24⟩], [⟨0, 2, .ro, 0⟩, ⟨2, 2, .ro, 0⟩, ⟨4, 1, .ro, 0⟩, ⟨16, 16, .ro, 0⟩]⟩
  | .acqCounts => ⟨0x10041050, [⟨0x100000, 16⟩, ⟨0x80, 24⟩], [⟨0, 16, .ro, 0⟩, ⟨16, 16, .ro, 0⟩, ⟨32, 16, .ro, 0⟩, ⟨48, 15, .ro, 0⟩, ⟨63, 1, .wo, 0⟩]⟩
  | .trainCtrl => ⟨0x10042000, [⟨0x100000, 16⟩], [⟨0, 1, .wo, 0⟩, ⟨1, 1, .wo, 0⟩, ⟨2, 1, .ro, 0⟩, ⟨3, 1, .w1c, 0⟩, ⟨4, 1, .w1c, 0⟩, ⟨8, 5, .rw, 0⟩, ⟨13, 1, .rw, 0⟩, ⟨16, 5, .rw, 0xa⟩, ⟨21, 4, .rw, 0⟩, ⟨26, 10, .rw, 0x100⟩, ⟨48, 16, .ro, 0⟩]⟩
  | .trainMean => ⟨0x10042008, [⟨0x100000, 16⟩, ⟨0x8, 3⟩], [⟨0, 32, .ro, 0⟩, ⟨32, 32, .ro, 0⟩]⟩
  | .traceCtrl => ⟨0x10043000, [⟨0x100000, 16⟩], [⟨0, 1, .wo, 0⟩, ⟨1, 1, .ro, 0⟩, ⟨2, 1, .w1c, 0⟩, ⟨3, 1, .w1c, 0⟩, ⟨4, 2, .rw, 0⟩, ⟨6, 1, .rw, 1⟩, ⟨8, 5, .rw, 0⟩, ⟨16, 8, .rw, 0⟩, ⟨24, 7, .rw, 0⟩, ⟨32, 16, .ro, 0⟩]⟩
  | .traceT0 => ⟨0x10043008, [⟨0x100000, 16⟩], [⟨0, 64, .ro, 0⟩]⟩
  | .kernel => ⟨0x10050000, [⟨0x100000, 16⟩, ⟨0x800, 24⟩, ⟨0x8, 256⟩], [⟨0, 16, .rw, 0⟩, ⟨16, 16, .rw, 0⟩, ⟨32, 16, .rw, 0⟩, ⟨48, 16, .rw, 0⟩]⟩
  | .fluxCtrl => ⟨0x10060000, [⟨0x100000, 16⟩, ⟨0x200, 12⟩], [⟨0, 1, .rw, 0⟩, ⟨1, 1, .wo, 0⟩, ⟨2, 1, .ro, 0⟩, ⟨3, 1, .w1c, 0⟩, ⟨16, 16, .ro, 0⟩]⟩
  | .fluxChain => ⟨0x10060008, [⟨0x100000, 16⟩, ⟨0x200, 12⟩], [⟨0, 4, .rw, 0⟩, ⟨4, 4, .rw, 0⟩, ⟨8, 1, .rw, 0⟩, ⟨16, 16, .rw, 0x8000⟩, ⟨32, 16, .rw, 0⟩]⟩
  | .fluxSec => ⟨0x10060010, [⟨0x100000, 16⟩, ⟨0x200, 12⟩, ⟨0x8, 4⟩], [⟨0, 32, .rw, 0⟩, ⟨32, 32, .rw, 0⟩]⟩
  | .fluxLvl => ⟨0x10060030, [⟨0x100000, 16⟩, ⟨0x200, 12⟩], [⟨0, 16, .rw, 0⟩]⟩
  | .fluxClip => ⟨0x10060038, [⟨0x100000, 16⟩, ⟨0x200, 12⟩], [⟨0, 48, .ro, 0⟩, ⟨63, 1, .wo, 0⟩]⟩
  | .fluxIsat => ⟨0x10060040, [⟨0x100000, 16⟩, ⟨0x200, 12⟩], [⟨0, 32, .ro, 0⟩, ⟨63, 1, .wo, 0⟩]⟩
  | .fluxFir => ⟨0x10060100, [⟨0x100000, 16⟩, ⟨0x200, 12⟩, ⟨0x8, 16⟩], [⟨0, 16, .rw, 0⟩, ⟨16, 16, .rw, 0⟩, ⟨32, 16, .rw, 0⟩, ⟨48, 16, .rw, 0⟩]⟩
  | .fitCtrl => ⟨0x10062000, [⟨0x100000, 16⟩], [⟨0, 1, .wo, 0⟩, ⟨1, 1, .wo, 0⟩, ⟨2, 1, .ro, 0⟩, ⟨3, 1, .w1c, 0⟩, ⟨4, 1, .w1c, 0⟩, ⟨8, 4, .rw, 0⟩, ⟨16, 5, .rw, 0⟩, ⟨24, 8, .rw, 0x40⟩, ⟨32, 4, .rw, 8⟩, ⟨36, 3, .rw, 2⟩, ⟨39, 1, .rw, 1⟩, ⟨48, 16, .ro, 0⟩]⟩
  | .fitResid => ⟨0x10062008, [⟨0x100000, 16⟩], [⟨0, 32, .ro, 0⟩]⟩
  | .fitDelay => ⟨0x10062100, [⟨0x100000, 16⟩, ⟨0x8, 100⟩], [⟨0, 32, .rw, 0⟩, ⟨32, 32, .rw, 0⟩]⟩
  | .bind => ⟨0x10080000, [⟨0x100000, 16⟩, ⟨0x8, 24⟩], [⟨0, 5, .rw, 0⟩, ⟨8, 5, .rw, 0⟩, ⟨16, 5, .rw, 0⟩, ⟨24, 5, .rw, 0⟩, ⟨32, 4, .rw, 0⟩, ⟨36, 1, .rw, 0⟩]⟩
  | .rqCfg => ⟨0x100A0000, [⟨0x100000, 16⟩], [⟨0, 1, .rw, 0⟩, ⟨1, 6, .rw, 0⟩]⟩
  | .rqStatus => ⟨0x100A0008, [⟨0x100000, 16⟩], [⟨0, 13, .ro, 0⟩, ⟨16, 13, .ro, 0⟩, ⟨32, 1, .w1c, 0⟩, ⟨33, 1, .w1c, 0⟩, ⟨36, 12, .ro, 0⟩]⟩
  | .rqCounts => ⟨0x100A0010, [⟨0x100000, 16⟩], [⟨0, 16, .ro, 0⟩, ⟨16, 16, .ro, 0⟩, ⟨32, 16, .ro, 0⟩, ⟨48, 15, .ro, 0⟩, ⟨63, 1, .wo, 0⟩]⟩
  | .rqData => ⟨0x100A0018, [⟨0x100000, 16⟩], [⟨0, 64, .ro, 0⟩]⟩
  | .rqCtrl => ⟨0x100A0020, [⟨0x100000, 16⟩], [⟨0, 1, .wo, 0⟩]⟩
  | .bdieCtrl => ⟨0x20000000, [⟨0x1000000, 2⟩], [⟨8, 8, .rw, 0xa⟩]⟩
  | .bdieStatus => ⟨0x20000008, [⟨0x1000000, 2⟩], [⟨0, 1, .ro, 0⟩, ⟨1, 1, .ro, 0⟩, ⟨2, 1, .ro, 0⟩, ⟨3, 1, .ro, 0⟩, ⟨4, 1, .ro, 0⟩, ⟨16, 16, .ro, 0⟩, ⟨32, 8, .ro, 0⟩]⟩
  | .bdieApply => ⟨0x20000010, [⟨0x1000000, 2⟩], [⟨0, 1, .wo, 0⟩]⟩
  | .biasCfg => ⟨0x20010000, [⟨0x1000000, 2⟩, ⟨0x20, 192⟩], [⟨0, 2, .rw, 0⟩, ⟨2, 1, .rw, 1⟩, ⟨3, 1, .rw, 0⟩, ⟨32, 32, .rw, 0⟩]⟩
  | .biasCode => ⟨0x20010008, [⟨0x1000000, 2⟩, ⟨0x20, 192⟩], [⟨0, 20, .rw, 0⟩, ⟨32, 13, .rw, 0⟩]⟩
  | .biasPark => ⟨0x20010010, [⟨0x1000000, 2⟩, ⟨0x20, 192⟩], [⟨0, 20, .rw, 0⟩, ⟨20, 2, .rw, 0⟩, ⟨32, 32, .rw, 0⟩]⟩
  | .biasStatus => ⟨0x20010018, [⟨0x1000000, 2⟩, ⟨0x20, 192⟩], [⟨0, 20, .ro, 0⟩, ⟨20, 2, .ro, 0⟩, ⟨22, 1, .ro, 0⟩, ⟨23, 1, .ro, 0⟩, ⟨24, 1, .ro, 1⟩, ⟨25, 1, .ro, 0⟩, ⟨26, 1, .w1c, 0⟩, ⟨27, 1, .w1c, 0⟩, ⟨28, 1, .ro, 0⟩, ⟨29, 1, .ro, 0⟩, ⟨30, 1, .w1c, 0⟩, ⟨32, 16, .ro, 0⟩]⟩
  | .monCtrl => ⟨0x20080000, [⟨0x1000000, 2⟩], [⟨0, 1, .rw, 1⟩, ⟨1, 1, .wo, 0⟩, ⟨2, 2, .rw, 0⟩, ⟨4, 1, .ro, 0⟩, ⟨5, 1, .w1c, 0⟩, ⟨8, 6, .rw, 0⟩, ⟨16, 16, .rw, 0x3e8⟩, ⟨32, 16, .rw, 0⟩]⟩
  | .monStatus => ⟨0x20080008, [⟨0x1000000, 2⟩], [⟨0, 16, .ro, 0⟩, ⟨16, 16, .ro, 0⟩, ⟨32, 16, .ro, 0⟩, ⟨63, 1, .wo, 0⟩]⟩
  | .monUrgent => ⟨0x20080010, [⟨0x1000000, 2⟩], [⟨0, 8, .rw, 0⟩, ⟨8, 3, .rw, 0⟩, ⟨12, 1, .wo, 0⟩, ⟨13, 1, .w1c, 0⟩, ⟨14, 1, .w1c, 0⟩]⟩
  | .monUrgResult => ⟨0x20080018, [⟨0x1000000, 2⟩], [⟨0, 16, .ro, 0⟩, ⟨16, 1, .ro, 0⟩, ⟨17, 1, .ro, 0⟩, ⟨18, 2, .ro, 0⟩, ⟨20, 8, .ro, 0⟩, ⟨32, 16, .ro, 0⟩]⟩
  | .monStep0 => ⟨0x20080100, [⟨0x1000000, 2⟩, ⟨0x10, 64⟩], [⟨0, 8, .rw, 0⟩, ⟨8, 3, .rw, 0⟩, ⟨11, 1, .rw, 0⟩, ⟨12, 4, .rw, 0⟩]⟩
  | .monStep1 => ⟨0x20080108, [⟨0x1000000, 2⟩, ⟨0x10, 64⟩], [⟨0, 16, .rw, 0x8001⟩, ⟨16, 16, .rw, 0x7fff⟩]⟩
  | .monResult => ⟨0x20080800, [⟨0x1000000, 2⟩, ⟨0x8, 64⟩], [⟨0, 16, .ro, 0⟩, ⟨16, 1, .ro, 0⟩, ⟨17, 1, .ro, 0⟩, ⟨18, 2, .ro, 0⟩, ⟨20, 8, .ro, 0⟩, ⟨32, 16, .ro, 0⟩]⟩
  | .dirWord0 => ⟨0x40000000, [⟨0x10, 32768⟩], [⟨0, 4, .rw, 0⟩, ⟨4, 2, .rw, 0⟩, ⟨8, 1, .rw, 0⟩, ⟨9, 5, .rw, 0⟩, ⟨14, 1, .rw, 0⟩, ⟨16, 16, .rw, 0⟩, ⟨32, 19, .rw, 0⟩]⟩
  | .dirWord1 => ⟨0x40000008, [⟨0x10, 32768⟩], [⟨0, 32, .rw, 0⟩]⟩
  | .dirStatus => ⟨0x40080000, [], [⟨0, 16, .ro, 0⟩, ⟨16, 15, .ro, 0⟩, ⟨63, 1, .wo, 0⟩]⟩
  | .pdcTable => ⟨0x41000000, [⟨0x8, 32768⟩], [⟨0, 8, .rw, 0⟩, ⟨8, 1, .rw, 0⟩]⟩
  | .pdcCfg => ⟨0x41080000, [], [⟨0, 1, .rw, 0⟩, ⟨1, 6, .rws, 0⟩]⟩
  | .pdcStatus => ⟨0x41080008, [], [⟨0, 1, .w1c, 0⟩, ⟨1, 1, .w1c, 0⟩, ⟨32, 32, .ro, 0⟩]⟩
  | .pdcCounts => ⟨0x41080010, [], [⟨0, 16, .ro, 0⟩, ⟨16, 16, .ro, 0⟩, ⟨32, 16, .ro, 0⟩, ⟨48, 15, .ro, 0⟩, ⟨63, 1, .wo, 0⟩]⟩
  | .pdcAnc => ⟨0x41081000, [⟨0x8, 192⟩], [⟨0, 12, .rw, 0⟩, ⟨12, 5, .rw, 0⟩, ⟨17, 1, .rw, 0⟩, ⟨18, 1, .rw, 0⟩]⟩
  | .patchCfg => ⟨0x41082000, [⟨0x40, 64⟩], [⟨0, 1, .rw, 0⟩, ⟨4, 4, .rw, 1⟩, ⟨8, 15, .rw, 0⟩, ⟨23, 1, .rw, 0⟩, ⟨24, 2, .rw, 0⟩, ⟨28, 3, .rw, 0⟩, ⟨32, 4, .rw, 0⟩, ⟨36, 1, .rw, 0⟩, ⟨40, 12, .rw, 0⟩, ⟨52, 11, .rw, 0⟩]⟩
  | .patchIn => ⟨0x41082008, [⟨0x40, 64⟩, ⟨0x8, 4⟩], [⟨0, 8, .rw, 0⟩, ⟨8, 1, .rw, 0⟩, ⟨16, 8, .rw, 0⟩, ⟨24, 1, .rw, 0⟩, ⟨32, 8, .rw, 0⟩, ⟨40, 1, .rw, 0⟩, ⟨48, 8, .rw, 0⟩, ⟨56, 1, .rw, 0⟩]⟩
  | .patchTgt => ⟨0x41082028, [⟨0x40, 64⟩, ⟨0x8, 2⟩], [⟨0, 9, .rw, 0⟩, ⟨9, 1, .rw, 0⟩, ⟨15, 1, .rw, 0⟩, ⟨16, 9, .rw, 0⟩, ⟨25, 1, .rw, 0⟩, ⟨31, 1, .rw, 0⟩, ⟨32, 9, .rw, 0⟩, ⟨41, 1, .rw, 0⟩, ⟨47, 1, .rw, 0⟩, ⟨48, 9, .rw, 0⟩, ⟨57, 1, .rw, 0⟩, ⟨63, 1, .rw, 0⟩]⟩
  | .patchRound => ⟨0x41082038, [⟨0x40, 64⟩], [⟨0, 32, .ro, 0⟩]⟩
  | .rxMap => ⟨0x41084000, [⟨0x8, 16⟩], [⟨0, 11, .rw, 0⟩, ⟨16, 6, .rw, 0⟩, ⟨24, 12, .rw, 0⟩, ⟨36, 1, .rw, 0⟩]⟩
  | .decSrc => ⟨0x42000000, [⟨0xC0, 16⟩, ⟨0x8, 24⟩], [⟨0, 12, .rw, 0⟩, ⟨12, 1, .rw, 1⟩, ⟨13, 1, .rw, 0⟩, ⟨14, 5, .rw, 0⟩, ⟨19, 1, .rw, 0⟩]⟩
  | .decSlot => ⟨0x42010000, [⟨0x8, 4096⟩], [⟨0, 9, .rw, 0⟩, ⟨9, 1, .rw, 0⟩, ⟨10, 1, .rw, 0⟩]⟩
  | .decTack => ⟨0x42020000, [⟨0x8, 64⟩], [⟨0, 12, .rw, 0⟩, ⟨12, 1, .rw, 0⟩]⟩
  | .frameBasis => ⟨0x42030000, [⟨0x8, 6⟩], [⟨0, 64, .rw, 0⟩]⟩
  | .decCfg => ⟨0x42040000, [], [⟨0, 16, .rw, 0⟩]⟩
  | .decClear => ⟨0x42040008, [], [⟨0, 12, .wo, 0⟩, ⟨16, 12, .wo, 0⟩]⟩
  | .decCounts => ⟨0x42040010, [], [⟨0, 16, .ro, 0⟩, ⟨16, 16, .ro, 0⟩, ⟨32, 16, .ro, 0⟩, ⟨63, 1, .wo, 0⟩]⟩
  | .decWord => ⟨0x42080000, [⟨0x8, 4096⟩], [⟨0, 64, .ro, 0⟩]⟩

/-- A part of the list of all register arrays. -/
def RegName.part0 : List RegName := [.globalId, .globalLock, .globalBoot, .globalBootCfg, .domainTiles, .pwr, .dieStatus, .modeRdo, .modeKernel, .modeDec, .modeFlux, .modeBias, .modeReplay, .modeThrottle, .timeStatus, .refCfg, .xtalTrim, .xtalAccum, .syncCtrl, .syncLoad, .syncStamp, .syncStat, .skew, .skewCal, .timeNow, .ptpCfg, .ptpNs, .ptpFrac, .ptpIncr, .ptpStep, .ptpAsym, .latchCtrl, .latchFt, .latchPtpNs, .latchPtpFrac, .eswId, .eswStatus, .laneCfg, .laneStatus, .laneEq]

/-- A part of the list of all register arrays. -/
def RegName.part1 : List RegName := [.laneCounts0, .laneCounts1, .laneCounts2, .routeGrove, .routeMember, .txr, .eswExp0, .eswExp1, .eswExp2, .eswBar, .rxr0, .rxr1, .linkMac, .linkIp, .linkIp6Hi, .linkIp6Lo, .linkCounts, .port, .portStatus, .kenMCfg, .kenMStatus, .acl0, .acl1, .acl2, .qpCtrl, .qpPsn, .qpGidHi, .qpGidLo, .qpDmac, .qpErr, .cmdCfg, .cmdBase, .cmdShadow, .cmdIdx, .cplCfg, .cplBase, .cplShadow, .cplIdx, .resCfg, .resBase]

/-- A part of the list of all register arrays. -/
def RegName.part2 : List RegName := [.resShadow, .resIdx, .ptprCfg, .ptprBase, .ptprShadow, .ptprIdx, .kenEvt, .kenDb, .kenDbBase, .ptpPeer, .kenCounts, .seamStatus, .seamCh, .srcOwn, .tack0, .tack1, .tmrCfg, .tmrTime, .tmrOrigin, .claimMk, .claimTmr, .claimTdc, .claimLog, .seamTask, .logData, .logStatus, .intCfg, .intCounts, .intCounts2, .intLast, .intLastTick, .canopyCfg, .canopyStatus, .sensBad, .plate, .canopyCounts, .devPolicy, .hostPolicy, .sensor, .diode]

/-- A part of the list of all register arrays. -/
def RegName.part3 : List RegName := [.node, .cryoCfg, .cryoStage0, .cryoStage1, .cryoStage2, .cryoStage3, .cryoLine, .cryoLpower, .tdcIn, .tdcCal, .calOrigin, .tdcCfg, .tdcCounts, .tdcQData, .tdcQStatus, .statCtrl, .statMean, .statSd, .statMinmax, .hwCtrl, .hwStatus, .flashCtrl, .flashAddr, .hwRec, .flashBuf, .ndlStatus, .barMap, .thrCfg, .trigSrc, .thrState, .thrCounts, .thrTc, .thrCtrl, .synCfg, .clipCount, .clipFirst, .synCounts, .toneFreq, .tonePhase, .toneVz]

/-- A part of the list of all register arrays. -/
def RegName.part4 : List RegName := [.synMark, .bobCfg, .bobLoopMark, .bobLoopEnd, .bobLoop, .bobWp, .bobRp, .bobStatus, .adcCfg, .adcStatus, .adcCorr, .ovrCount, .corrActive, .corrStage, .corrEst, .acqCfg, .acqDfreq, .acqDphase, .acqDelay, .acqBoxw, .acqDisc0, .acqDisc1, .acqGuard, .acqCtrl, .acqStatus, .acqCounts, .trainCtrl, .trainMean, .traceCtrl, .traceT0, .kernel, .fluxCtrl, .fluxChain, .fluxSec, .fluxLvl, .fluxClip, .fluxIsat, .fluxFir, .fitCtrl, .fitResid]

/-- A part of the list of all register arrays. -/
def RegName.part5 : List RegName := [.fitDelay, .bind, .rqCfg, .rqStatus, .rqCounts, .rqData, .rqCtrl, .bdieCtrl, .bdieStatus, .bdieApply, .biasCfg, .biasCode, .biasPark, .biasStatus, .monCtrl, .monStatus, .monUrgent, .monUrgResult, .monStep0, .monStep1, .monResult, .dirWord0, .dirWord1, .dirStatus, .pdcTable, .pdcCfg, .pdcStatus, .pdcCounts, .pdcAnc, .patchCfg, .patchIn, .patchTgt, .patchRound, .rxMap, .decSrc, .decSlot, .decTack, .frameBasis, .decCfg, .decClear]

/-- A part of the list of all register arrays. -/
def RegName.part6 : List RegName := [.decCounts, .decWord]

/-- Every register array of the map. -/
def RegName.all : List RegName :=
  RegName.part0 ++ RegName.part1 ++ RegName.part2 ++ RegName.part3 ++ RegName.part4 ++ RegName.part5 ++ RegName.part6

/-- The address of an index list from a base. -/
def Dim.offset : List Dim → Nat → Nat → Nat → Nat
  | [], _, _, _ => 0
  | d :: ds, a, b, c => d.stride * a + Dim.offset ds b c 0

/-- The Kenper-M byte address of a register (R8, R28). -/
def Reg.addr (r : Reg) : Nat :=
  r.name.info.base + Dim.offset r.name.info.dims r.i r.j r.k

/-- Whether the indices lie inside their arrays; unused indices are 0. -/
def Dim.inRange : List Dim → Nat → Nat → Nat → Bool
  | [], a, b, c => a == 0 && b == 0 && c == 0
  | d :: ds, a, b, c => decide (a < d.count) && Dim.inRange ds b c 0

/-- Whether the register exists: its indices are in range, and a drive channel's tone index is
below 8 (R1: 8 tones per drive channel, 24 per probe channel). -/
def Reg.exists (r : Reg) : Bool :=
  Dim.inRange r.name.info.dims r.i r.j r.k &&
    match r.name with
    | .toneFreq | .tonePhase | .toneVz => decide (r.j = 3 ∨ r.k < 8)
    | _ => true

/-- The indices of the register at an offset from an array's base. -/
def Dim.decode : List Dim → Nat → Option (List Nat)
  | [], off => if off = 0 then some [] else none
  | d :: ds, off =>
      if off / d.stride < d.count then
        (Dim.decode ds (off % d.stride)).map (fun l => off / d.stride :: l)
      else none

/-- The register of an array at an address. -/
def RegName.at (n : RegName) (addr : Nat) : Option Reg :=
  if n.info.base ≤ addr then
    match Dim.decode n.info.dims (addr - n.info.base) with
    | none => none
    | some l =>
        let r : Reg := ⟨n, l.getD 0 0, l.getD 1 0, l.getD 2 0⟩
        if r.exists then some r else none
  else none

/-- The register at a Kenper-M address, if one is defined there (R28). -/
def Reg.ofAddr (addr : Nat) : Option Reg :=
  RegName.all.findSome? (fun n => n.at addr)

/-- The reset value the table rows give a register. -/
def FieldDesc.resetNat (fs : List FieldDesc) : Nat :=
  fs.foldl (fun acc f => acc + f.reset * 2 ^ f.lo) 0

/-- The reset value of a register where the tables state it by index (R2, R3, R101, R254, R289,
R312, R359; 06_decisions for the decision slot map and the empty word). -/
def Reg.resetNat (r : Reg) : Nat :=
  match r.name with
  | .acl0 => if r.i = 0 then 1 + 2 ^ 19 else 0
  | .seamCh => FieldDesc.resetNat r.name.info.fields + (if r.i < 32 then 2 ^ 39 else 0)
  | .devPolicy | .hostPolicy =>
      (0x1900 + 0x60 * r.i) + 0xC0 * 2 ^ 16 + (if r.i < 7 then 2 ^ (r.i + 1) else 255) * 2 ^ 24
  | .fluxFir => if r.k = 0 then 0x4000 else 0
  | .bind => FieldDesc.resetNat r.name.info.fields + r.j * (1 + 2 ^ 8 + 2 ^ 16 + 2 ^ 24)
  | .decSrc => FieldDesc.resetNat r.name.info.fields + (24 * r.i + r.j)
  | .decSlot => FieldDesc.resetNat r.name.info.fields + (if r.i < 384 then r.i + 2 ^ 9 else 0)
  | .decWord => 0x0000600000000000
  | n => FieldDesc.resetNat n.info.fields

/-- The value of a register right after power-on reset or RST_N (R11). -/
def Reg.reset (r : Reg) : Word := BitVec.ofNat 64 r.resetNat

end Sys2Proof.Machine
end

