-- ==== Sys2Proof/Machine/Fields.lean ====
section
/-! DEFINITION. A name for every field of the register map, `<register>_<FIELD>`, transcribed from
the register tables of spec/ (the table of each register is named in INVENTORY.md). -/

namespace Sys2Proof.Machine.Fld

/-! GLOBAL.ID -/
abbrev globalId_PART : RField := ⟨⟨.globalId, 0, 0, 0⟩, 0, 16⟩
abbrev globalId_REV : RField := ⟨⟨.globalId, 0, 0, 0⟩, 16, 8⟩
abbrev globalId_SERIAL : RField := ⟨⟨.globalId, 0, 0, 0⟩, 32, 32⟩
/-! GLOBAL.LOCK -/
abbrev globalLock_LOCK : RField := ⟨⟨.globalLock, 0, 0, 0⟩, 0, 1⟩
abbrev globalLock_LOCKED : RField := ⟨⟨.globalLock, 0, 0, 0⟩, 1, 1⟩
/-! GLOBAL.BOOT -/
abbrev globalBoot_STAGE : RField := ⟨⟨.globalBoot, 0, 0, 0⟩, 0, 4⟩
abbrev globalBoot_SLOT : RField := ⟨⟨.globalBoot, 0, 0, 0⟩, 4, 1⟩
abbrev globalBoot_ERR_A : RField := ⟨⟨.globalBoot, 0, 0, 0⟩, 8, 4⟩
abbrev globalBoot_ERR_B : RField := ⟨⟨.globalBoot, 0, 0, 0⟩, 12, 4⟩
abbrev globalBoot_BOOT_MS : RField := ⟨⟨.globalBoot, 0, 0, 0⟩, 16, 16⟩
abbrev globalBoot_SVN : RField := ⟨⟨.globalBoot, 0, 0, 0⟩, 32, 16⟩
abbrev globalBoot_CAUSE : RField := ⟨⟨.globalBoot, 0, 0, 0⟩, 48, 2⟩
abbrev globalBoot_BIAS_POR : RField := ⟨⟨.globalBoot, 0, 0, 0⟩, 50, 1⟩
abbrev globalBoot_REBOOT : RField := ⟨⟨.globalBoot, 0, 0, 0⟩, 63, 1⟩
/-! GLOBAL.BOOT_CFG -/
abbrev globalBootCfg_PREF_SLOT : RField := ⟨⟨.globalBootCfg, 0, 0, 0⟩, 0, 1⟩
/-! GLOBAL.DOMAIN_TILES[d] -/
abbrev domainTiles_TILES (i : Nat) : RField := ⟨⟨.domainTiles, i, 0, 0⟩, 0, 16⟩
/-! GLOBAL.PWR -/
abbrev pwr_REQ : RField := ⟨⟨.pwr, 0, 0, 0⟩, 0, 2⟩
abbrev pwr_CUR : RField := ⟨⟨.pwr, 0, 0, 0⟩, 8, 2⟩
abbrev pwr_BUSY : RField := ⟨⟨.pwr, 0, 0, 0⟩, 12, 1⟩
abbrev pwr_CRIT_HOLD : RField := ⟨⟨.pwr, 0, 0, 0⟩, 16, 1⟩
abbrev pwr_LAST_CAUSE : RField := ⟨⟨.pwr, 0, 0, 0⟩, 20, 4⟩
/-! GLOBAL.DIE_STATUS -/
abbrev dieStatus_QREADY : RField := ⟨⟨.dieStatus, 0, 0, 0⟩, 0, 4⟩
abbrev dieStatus_BREADY : RField := ⟨⟨.dieStatus, 0, 0, 0⟩, 4, 2⟩
abbrev dieStatus_BLINK_ERR : RField := ⟨⟨.dieStatus, 0, 0, 0⟩, 8, 2⟩
abbrev dieStatus_QRES_ERR : RField := ⟨⟨.dieStatus, 0, 0, 0⟩, 16, 4⟩
/-! GLOBAL.MODE_RDO -/
abbrev modeRdo_DISC_RAW : RField := ⟨⟨.modeRdo, 0, 0, 0⟩, 0, 16⟩
abbrev modeRdo_CORR_HOST : RField := ⟨⟨.modeRdo, 0, 0, 0⟩, 16, 16⟩
/-! GLOBAL.MODE_KERNEL[t] -/
abbrev modeKernel_HOST (i : Nat) : RField := ⟨⟨.modeKernel, i, 0, 0⟩, 0, 24⟩
/-! GLOBAL.MODE_DEC -/
abbrev modeDec_DEC : RField := ⟨⟨.modeDec, 0, 0, 0⟩, 0, 2⟩
/-! GLOBAL.MODE_FLUX -/
abbrev modeFlux_FIT_HOST : RField := ⟨⟨.modeFlux, 0, 0, 0⟩, 0, 16⟩
/-! GLOBAL.MODE_BIAS[i] -/
abbrev modeBias_HOST (i : Nat) : RField := ⟨⟨.modeBias, i, 0, 0⟩, 0, 64⟩
/-! GLOBAL.MODE_REPLAY -/
abbrev modeReplay_HOST : RField := ⟨⟨.modeReplay, 0, 0, 0⟩, 0, 1⟩
/-! GLOBAL.MODE_THROTTLE -/
abbrev modeThrottle_HOST : RField := ⟨⟨.modeThrottle, 0, 0, 0⟩, 0, 1⟩
/-! TIME.STATUS -/
abbrev timeStatus_PLL_LOCK : RField := ⟨⟨.timeStatus, 0, 0, 0⟩, 0, 1⟩
abbrev timeStatus_REF_OK : RField := ⟨⟨.timeStatus, 0, 0, 0⟩, 1, 1⟩
abbrev timeStatus_HOLDOVER : RField := ⟨⟨.timeStatus, 0, 0, 0⟩, 2, 1⟩
abbrev timeStatus_LINEAGE : RField := ⟨⟨.timeStatus, 0, 0, 0⟩, 3, 1⟩
abbrev timeStatus_FT_VALID : RField := ⟨⟨.timeStatus, 0, 0, 0⟩, 4, 1⟩
abbrev timeStatus_PTP_LOCK : RField := ⟨⟨.timeStatus, 0, 0, 0⟩, 5, 1⟩
abbrev timeStatus_CFG_REFUSED : RField := ⟨⟨.timeStatus, 0, 0, 0⟩, 6, 1⟩
/-! TIME.REF_CFG -/
abbrev refCfg_SRC : RField := ⟨⟨.refCfg, 0, 0, 0⟩, 0, 1⟩
abbrev refCfg_FREQ : RField := ⟨⟨.refCfg, 0, 0, 0⟩, 1, 1⟩
abbrev refCfg_RELOCK : RField := ⟨⟨.refCfg, 0, 0, 0⟩, 2, 1⟩
/-! TIME.XTAL_TRIM -/
abbrev xtalTrim_STATIC : RField := ⟨⟨.xtalTrim, 0, 0, 0⟩, 0, 24⟩
abbrev xtalTrim_AGE_RATE : RField := ⟨⟨.xtalTrim, 0, 0, 0⟩, 32, 16⟩
/-! TIME.XTAL_ACCUM -/
abbrev xtalAccum_ACCUM : RField := ⟨⟨.xtalAccum, 0, 0, 0⟩, 0, 32⟩
/-! TIME.SYNC_CTRL -/
abbrev syncCtrl_ARM : RField := ⟨⟨.syncCtrl, 0, 0, 0⟩, 0, 1⟩
abbrev syncCtrl_MODE : RField := ⟨⟨.syncCtrl, 0, 0, 0⟩, 1, 1⟩
abbrev syncCtrl_LOAD_DELAY : RField := ⟨⟨.syncCtrl, 0, 0, 0⟩, 8, 8⟩
abbrev syncCtrl_GUARD : RField := ⟨⟨.syncCtrl, 0, 0, 0⟩, 16, 8⟩
/-! TIME.SYNC_LOAD -/
abbrev syncLoad_VALUE : RField := ⟨⟨.syncLoad, 0, 0, 0⟩, 0, 64⟩
/-! TIME.SYNC_STAMP -/
abbrev syncStamp_VALUE : RField := ⟨⟨.syncStamp, 0, 0, 0⟩, 0, 64⟩
/-! TIME.SYNC_STAT -/
abbrev syncStat_LAST_MARGIN : RField := ⟨⟨.syncStat, 0, 0, 0⟩, 0, 16⟩
abbrev syncStat_MARGIN_REJ : RField := ⟨⟨.syncStat, 0, 0, 0⟩, 16, 8⟩
abbrev syncStat_GLITCH_REJ : RField := ⟨⟨.syncStat, 0, 0, 0⟩, 24, 8⟩
abbrev syncStat_IGNORED : RField := ⟨⟨.syncStat, 0, 0, 0⟩, 32, 8⟩
abbrev syncStat_ARM_REFUSED : RField := ⟨⟨.syncStat, 0, 0, 0⟩, 40, 8⟩
abbrev syncStat_STAMP_NEW : RField := ⟨⟨.syncStat, 0, 0, 0⟩, 48, 1⟩
abbrev syncStat_CLR : RField := ⟨⟨.syncStat, 0, 0, 0⟩, 63, 1⟩
/-! TIME.SKEW -/
abbrev skew_CORR : RField := ⟨⟨.skew, 0, 0, 0⟩, 0, 24⟩
/-! TIME.SKEW_CAL -/
abbrev skewCal_START : RField := ⟨⟨.skewCal, 0, 0, 0⟩, 0, 1⟩
abbrev skewCal_ROOT : RField := ⟨⟨.skewCal, 0, 0, 0⟩, 1, 1⟩
abbrev skewCal_AUTO_APPLY : RField := ⟨⟨.skewCal, 0, 0, 0⟩, 2, 1⟩
abbrev skewCal_BUSY : RField := ⟨⟨.skewCal, 0, 0, 0⟩, 3, 1⟩
abbrev skewCal_DONE : RField := ⟨⟨.skewCal, 0, 0, 0⟩, 4, 1⟩
abbrev skewCal_ERR : RField := ⟨⟨.skewCal, 0, 0, 0⟩, 5, 1⟩
abbrev skewCal_PARENT_LANE : RField := ⟨⟨.skewCal, 0, 0, 0⟩, 8, 5⟩
abbrev skewCal_LOG2N : RField := ⟨⟨.skewCal, 0, 0, 0⟩, 16, 5⟩
abbrev skewCal_HOPS : RField := ⟨⟨.skewCal, 0, 0, 0⟩, 21, 3⟩
abbrev skewCal_DELTA : RField := ⟨⟨.skewCal, 0, 0, 0⟩, 32, 24⟩
/-! TIME.NOW -/
abbrev timeNow_VALUE : RField := ⟨⟨.timeNow, 0, 0, 0⟩, 0, 64⟩
/-! TIME.PTP_CFG -/
abbrev ptpCfg_ENABLE : RField := ⟨⟨.ptpCfg, 0, 0, 0⟩, 0, 1⟩
abbrev ptpCfg_PORT : RField := ⟨⟨.ptpCfg, 0, 0, 0⟩, 1, 1⟩
abbrev ptpCfg_TRANSPORT : RField := ⟨⟨.ptpCfg, 0, 0, 0⟩, 2, 2⟩
abbrev ptpCfg_DELAY_MECH : RField := ⟨⟨.ptpCfg, 0, 0, 0⟩, 4, 1⟩
abbrev ptpCfg_ROLE : RField := ⟨⟨.ptpCfg, 0, 0, 0⟩, 5, 2⟩
abbrev ptpCfg_SERVO : RField := ⟨⟨.ptpCfg, 0, 0, 0⟩, 7, 1⟩
abbrev ptpCfg_DOMAIN : RField := ⟨⟨.ptpCfg, 0, 0, 0⟩, 8, 8⟩
abbrev ptpCfg_LOG_SYNC : RField := ⟨⟨.ptpCfg, 0, 0, 0⟩, 16, 4⟩
abbrev ptpCfg_UNICAST : RField := ⟨⟨.ptpCfg, 0, 0, 0⟩, 24, 1⟩
abbrev ptpCfg_PRIORITY1 : RField := ⟨⟨.ptpCfg, 0, 0, 0⟩, 32, 8⟩
abbrev ptpCfg_PRIORITY2 : RField := ⟨⟨.ptpCfg, 0, 0, 0⟩, 40, 8⟩
/-! TIME.PTP_NS -/
abbrev ptpNs_NS : RField := ⟨⟨.ptpNs, 0, 0, 0⟩, 0, 64⟩
/-! TIME.PTP_FRAC -/
abbrev ptpFrac_FRAC : RField := ⟨⟨.ptpFrac, 0, 0, 0⟩, 0, 32⟩
/-! TIME.PTP_INCR -/
abbrev ptpIncr_INCR : RField := ⟨⟨.ptpIncr, 0, 0, 0⟩, 0, 40⟩
abbrev ptpIncr_CLAMP_COUNT : RField := ⟨⟨.ptpIncr, 0, 0, 0⟩, 48, 16⟩
/-! TIME.PTP_STEP -/
abbrev ptpStep_STEP : RField := ⟨⟨.ptpStep, 0, 0, 0⟩, 0, 64⟩
/-! TIME.PTP_ASYM -/
abbrev ptpAsym_ASYM : RField := ⟨⟨.ptpAsym, 0, 0, 0⟩, 0, 32⟩
/-! TIME.LATCH_CTRL -/
abbrev latchCtrl_GO : RField := ⟨⟨.latchCtrl, 0, 0, 0⟩, 0, 1⟩
abbrev latchCtrl_DONE : RField := ⟨⟨.latchCtrl, 0, 0, 0⟩, 1, 1⟩
abbrev latchCtrl_OVERWRITE : RField := ⟨⟨.latchCtrl, 0, 0, 0⟩, 2, 1⟩
abbrev latchCtrl_ON_SYNC : RField := ⟨⟨.latchCtrl, 0, 0, 0⟩, 3, 1⟩
abbrev latchCtrl_SEAM_CH : RField := ⟨⟨.latchCtrl, 0, 0, 0⟩, 8, 8⟩
abbrev latchCtrl_SEAM_EN : RField := ⟨⟨.latchCtrl, 0, 0, 0⟩, 16, 1⟩
/-! TIME.LATCH_FT -/
abbrev latchFt_VALUE : RField := ⟨⟨.latchFt, 0, 0, 0⟩, 0, 64⟩
/-! TIME.LATCH_PTP_NS -/
abbrev latchPtpNs_VALUE : RField := ⟨⟨.latchPtpNs, 0, 0, 0⟩, 0, 64⟩
/-! TIME.LATCH_PTP_FRAC -/
abbrev latchPtpFrac_VALUE : RField := ⟨⟨.latchPtpFrac, 0, 0, 0⟩, 0, 32⟩
/-! ESW.ID -/
abbrev eswId_DEV : RField := ⟨⟨.eswId, 0, 0, 0⟩, 0, 11⟩
/-! ESW.STATUS -/
abbrev eswStatus_ACTIVE : RField := ⟨⟨.eswStatus, 0, 0, 0⟩, 0, 32⟩
abbrev eswStatus_CFG_REFUSED : RField := ⟨⟨.eswStatus, 0, 0, 0⟩, 32, 1⟩
/-! ESW.LANE[l].CFG -/
abbrev laneCfg_EN (i : Nat) : RField := ⟨⟨.laneCfg, i, 0, 0⟩, 0, 1⟩
abbrev laneCfg_MODE (i : Nat) : RField := ⟨⟨.laneCfg, i, 0, 0⟩, 1, 2⟩
abbrev laneCfg_BUDDY (i : Nat) : RField := ⟨⟨.laneCfg, i, 0, 0⟩, 3, 5⟩
abbrev laneCfg_CHECK (i : Nat) : RField := ⟨⟨.laneCfg, i, 0, 0⟩, 8, 1⟩
abbrev laneCfg_EXP_DEV (i : Nat) : RField := ⟨⟨.laneCfg, i, 0, 0⟩, 16, 11⟩
abbrev laneCfg_EXP_LANE (i : Nat) : RField := ⟨⟨.laneCfg, i, 0, 0⟩, 27, 5⟩
/-! ESW.LANE[l].STATUS -/
abbrev laneStatus_STATE (i : Nat) : RField := ⟨⟨.laneStatus, i, 0, 0⟩, 0, 3⟩
abbrev laneStatus_QUIET_REASON (i : Nat) : RField := ⟨⟨.laneStatus, i, 0, 0⟩, 3, 4⟩
abbrev laneStatus_LOST (i : Nat) : RField := ⟨⟨.laneStatus, i, 0, 0⟩, 7, 1⟩
abbrev laneStatus_PARTNER_DEV (i : Nat) : RField := ⟨⟨.laneStatus, i, 0, 0⟩, 8, 11⟩
abbrev laneStatus_PARTNER_LANE (i : Nat) : RField := ⟨⟨.laneStatus, i, 0, 0⟩, 19, 5⟩
abbrev laneStatus_LAT (i : Nat) : RField := ⟨⟨.laneStatus, i, 0, 0⟩, 24, 8⟩
abbrev laneStatus_FLIGHT (i : Nat) : RField := ⟨⟨.laneStatus, i, 0, 0⟩, 32, 16⟩
abbrev laneStatus_DOWN_DEVS (i : Nat) : RField := ⟨⟨.laneStatus, i, 0, 0⟩, 48, 8⟩
/-! ESW.LANE[l].EQ -/
abbrev laneEq_CTLE (i : Nat) : RField := ⟨⟨.laneEq, i, 0, 0⟩, 0, 4⟩
abbrev laneEq_PRESET (i : Nat) : RField := ⟨⟨.laneEq, i, 0, 0⟩, 4, 3⟩
abbrev laneEq_FROZEN (i : Nat) : RField := ⟨⟨.laneEq, i, 0, 0⟩, 7, 1⟩
abbrev laneEq_DENS_MIN (i : Nat) : RField := ⟨⟨.laneEq, i, 0, 0⟩, 8, 8⟩
abbrev laneEq_EXC_MIN (i : Nat) : RField := ⟨⟨.laneEq, i, 0, 0⟩, 16, 16⟩
abbrev laneEq_DRIFT_LIM (i : Nat) : RField := ⟨⟨.laneEq, i, 0, 0⟩, 32, 8⟩
abbrev laneEq_FREEZE_DIS (i : Nat) : RField := ⟨⟨.laneEq, i, 0, 0⟩, 40, 1⟩
abbrev laneEq_GUARD_DIS (i : Nat) : RField := ⟨⟨.laneEq, i, 0, 0⟩, 41, 1⟩
/-! ESW.LANE[l].COUNTS0 -/
abbrev laneCounts0_CORR_BITS (i : Nat) : RField := ⟨⟨.laneCounts0, i, 0, 0⟩, 0, 32⟩
abbrev laneCounts0_UNCORR (i : Nat) : RField := ⟨⟨.laneCounts0, i, 0, 0⟩, 32, 16⟩
abbrev laneCounts0_CRC_ERR (i : Nat) : RField := ⟨⟨.laneCounts0, i, 0, 0⟩, 48, 15⟩
abbrev laneCounts0_CLR (i : Nat) : RField := ⟨⟨.laneCounts0, i, 0, 0⟩, 63, 1⟩
/-! ESW.LANE[l].COUNTS1 -/
abbrev laneCounts1_MISSING (i : Nat) : RField := ⟨⟨.laneCounts1, i, 0, 0⟩, 0, 16⟩
abbrev laneCounts1_RETRIES (i : Nat) : RField := ⟨⟨.laneCounts1, i, 0, 0⟩, 16, 16⟩
abbrev laneCounts1_EXHAUST (i : Nat) : RField := ⟨⟨.laneCounts1, i, 0, 0⟩, 32, 8⟩
abbrev laneCounts1_MISTIME (i : Nat) : RField := ⟨⟨.laneCounts1, i, 0, 0⟩, 40, 8⟩
abbrev laneCounts1_OVERFLOW (i : Nat) : RField := ⟨⟨.laneCounts1, i, 0, 0⟩, 48, 8⟩
abbrev laneCounts1_RESTORES (i : Nat) : RField := ⟨⟨.laneCounts1, i, 0, 0⟩, 56, 7⟩
abbrev laneCounts1_CLR (i : Nat) : RField := ⟨⟨.laneCounts1, i, 0, 0⟩, 63, 1⟩
/-! ESW.LANE[l].COUNTS2 -/
abbrev laneCounts2_NOROUTE (i : Nat) : RField := ⟨⟨.laneCounts2, i, 0, 0⟩, 0, 16⟩
abbrev laneCounts2_NOSHOW (i : Nat) : RField := ⟨⟨.laneCounts2, i, 0, 0⟩, 16, 16⟩
abbrev laneCounts2_FT_MISMATCH (i : Nat) : RField := ⟨⟨.laneCounts2, i, 0, 0⟩, 32, 8⟩
abbrev laneCounts2_MARKER_ERR (i : Nat) : RField := ⟨⟨.laneCounts2, i, 0, 0⟩, 40, 8⟩
abbrev laneCounts2_CLR (i : Nat) : RField := ⟨⟨.laneCounts2, i, 0, 0⟩, 63, 1⟩
/-! ESW.ROUTE_GROVE[g] -/
abbrev routeGrove_LANE (i : Nat) : RField := ⟨⟨.routeGrove, i, 0, 0⟩, 0, 5⟩
abbrev routeGrove_EN (i : Nat) : RField := ⟨⟨.routeGrove, i, 0, 0⟩, 5, 1⟩
/-! ESW.ROUTE_MEMBER[m] -/
abbrev routeMember_LANE (i : Nat) : RField := ⟨⟨.routeMember, i, 0, 0⟩, 0, 5⟩
abbrev routeMember_EN (i : Nat) : RField := ⟨⟨.routeMember, i, 0, 0⟩, 5, 1⟩
/-! ESW.TXR[i] -/
abbrev txr_SLOT (i : Nat) : RField := ⟨⟨.txr, i, 0, 0⟩, 0, 12⟩
abbrev txr_LANE (i : Nat) : RField := ⟨⟨.txr, i, 0, 0⟩, 12, 5⟩
abbrev txr_ROUTE (i : Nat) : RField := ⟨⟨.txr, i, 0, 0⟩, 17, 9⟩
abbrev txr_EN (i : Nat) : RField := ⟨⟨.txr, i, 0, 0⟩, 26, 1⟩
/-! ESW.EXP[e] +0x00 -/
abbrev eswExp0_ORIGIN (i : Nat) : RField := ⟨⟨.eswExp0, i, 0, 0⟩, 0, 48⟩
/-! ESW.EXP[e] +0x08 -/
abbrev eswExp1_PERIOD (i : Nat) : RField := ⟨⟨.eswExp1, i, 0, 0⟩, 0, 24⟩
abbrev eswExp1_COUNT (i : Nat) : RField := ⟨⟨.eswExp1, i, 0, 0⟩, 24, 16⟩
abbrev eswExp1_ANC_T (i : Nat) : RField := ⟨⟨.eswExp1, i, 0, 0⟩, 40, 4⟩
abbrev eswExp1_ANC_H (i : Nat) : RField := ⟨⟨.eswExp1, i, 0, 0⟩, 44, 3⟩
abbrev eswExp1_EN (i : Nat) : RField := ⟨⟨.eswExp1, i, 0, 0⟩, 47, 1⟩
/-! ESW.EXP[e] +0x10 -/
abbrev eswExp2_NEXT (i : Nat) : RField := ⟨⟨.eswExp2, i, 0, 0⟩, 0, 48⟩
abbrev eswExp2_DONE (i : Nat) : RField := ⟨⟨.eswExp2, i, 0, 0⟩, 48, 16⟩
/-! ESW.BAR[b] -/
abbrev eswBar_EN (i : Nat) : RField := ⟨⟨.eswBar, i, 0, 0⟩, 0, 1⟩
abbrev eswBar_ROOT (i : Nat) : RField := ⟨⟨.eswBar, i, 0, 0⟩, 1, 1⟩
abbrev eswBar_UP_LANE (i : Nat) : RField := ⟨⟨.eswBar, i, 0, 0⟩, 2, 5⟩
abbrev eswBar_DOWN_LANES (i : Nat) : RField := ⟨⟨.eswBar, i, 0, 0⟩, 8, 32⟩
abbrev eswBar_SPAN (i : Nat) : RField := ⟨⟨.eswBar, i, 0, 0⟩, 40, 10⟩
abbrev eswBar_GEN (i : Nat) : RField := ⟨⟨.eswBar, i, 0, 0⟩, 52, 4⟩
/-! ESW.RXR[l][r] word 0 -/
abbrev rxr0_SLOT (i j : Nat) : RField := ⟨⟨.rxr0, i, j, 0⟩, 0, 12⟩
abbrev rxr0_DLV (i j : Nat) : RField := ⟨⟨.rxr0, i, j, 0⟩, 12, 1⟩
abbrev rxr0_FWD (i j : Nat) : RField := ⟨⟨.rxr0, i, j, 0⟩, 13, 1⟩
abbrev rxr0_OUT_LANE (i j : Nat) : RField := ⟨⟨.rxr0, i, j, 0⟩, 14, 5⟩
abbrev rxr0_OUT_ROUTE (i j : Nat) : RField := ⟨⟨.rxr0, i, j, 0⟩, 19, 9⟩
abbrev rxr0_SRC_DEV (i j : Nat) : RField := ⟨⟨.rxr0, i, j, 0⟩, 28, 11⟩
abbrev rxr0_SRC_TILE (i j : Nat) : RField := ⟨⟨.rxr0, i, j, 0⟩, 39, 4⟩
abbrev rxr0_KIND (i j : Nat) : RField := ⟨⟨.rxr0, i, j, 0⟩, 43, 2⟩
abbrev rxr0_VIA (i j : Nat) : RField := ⟨⟨.rxr0, i, j, 0⟩, 45, 1⟩
abbrev rxr0_EN (i j : Nat) : RField := ⟨⟨.rxr0, i, j, 0⟩, 46, 1⟩
/-! ESW.RXR[l][r] word 1 -/
abbrev rxr1_PRE (i j : Nat) : RField := ⟨⟨.rxr1, i, j, 0⟩, 0, 10⟩
abbrev rxr1_EXP (i j : Nat) : RField := ⟨⟨.rxr1, i, j, 0⟩, 10, 2⟩
abbrev rxr1_EXP_SEL (i j : Nat) : RField := ⟨⟨.rxr1, i, j, 0⟩, 12, 6⟩
abbrev rxr1_EXP_OFF (i j : Nat) : RField := ⟨⟨.rxr1, i, j, 0⟩, 18, 10⟩
/-! KEN.LINK[L] +0x00 -/
abbrev linkMac_MAC (i : Nat) : RField := ⟨⟨.linkMac, i, 0, 0⟩, 0, 48⟩
/-! KEN.LINK[L] +0x08 -/
abbrev linkIp_IPV4 (i : Nat) : RField := ⟨⟨.linkIp, i, 0, 0⟩, 0, 32⟩
abbrev linkIp_VLAN (i : Nat) : RField := ⟨⟨.linkIp, i, 0, 0⟩, 32, 12⟩
abbrev linkIp_VLAN_EN (i : Nat) : RField := ⟨⟨.linkIp, i, 0, 0⟩, 44, 1⟩
abbrev linkIp_PCP (i : Nat) : RField := ⟨⟨.linkIp, i, 0, 0⟩, 45, 3⟩
/-! KEN.LINK[L] +0x10 -/
abbrev linkIp6Hi_IPV6_HI (i : Nat) : RField := ⟨⟨.linkIp6Hi, i, 0, 0⟩, 0, 64⟩
/-! KEN.LINK[L] +0x18 -/
abbrev linkIp6Lo_IPV6_LO (i : Nat) : RField := ⟨⟨.linkIp6Lo, i, 0, 0⟩, 0, 64⟩
/-! KEN.LINK[L] +0x20 -/
abbrev linkCounts_RX_BAD (i : Nat) : RField := ⟨⟨.linkCounts, i, 0, 0⟩, 0, 16⟩
abbrev linkCounts_ICRC_ERR (i : Nat) : RField := ⟨⟨.linkCounts, i, 0, 0⟩, 16, 16⟩
abbrev linkCounts_CNP_TX (i : Nat) : RField := ⟨⟨.linkCounts, i, 0, 0⟩, 32, 16⟩
abbrev linkCounts_CNP_RX (i : Nat) : RField := ⟨⟨.linkCounts, i, 0, 0⟩, 48, 16⟩
/-! KEN.PORT[p] -/
abbrev port_EN (i : Nat) : RField := ⟨⟨.port, i, 0, 0⟩, 0, 1⟩
abbrev port_MODE (i : Nat) : RField := ⟨⟨.port, i, 0, 0⟩, 1, 2⟩
abbrev port_FEC (i : Nat) : RField := ⟨⟨.port, i, 0, 0⟩, 3, 2⟩
abbrev port_AN (i : Nat) : RField := ⟨⟨.port, i, 0, 0⟩, 5, 1⟩
abbrev port_PFC_EN (i : Nat) : RField := ⟨⟨.port, i, 0, 0⟩, 6, 1⟩
abbrev port_PFC_PRIO (i : Nat) : RField := ⟨⟨.port, i, 0, 0⟩, 7, 3⟩
abbrev port_CFG_REFUSED (i : Nat) : RField := ⟨⟨.port, i, 0, 0⟩, 10, 1⟩
/-! KEN.PORT_STATUS[p] -/
abbrev portStatus_UP (i : Nat) : RField := ⟨⟨.portStatus, i, 0, 0⟩, 0, 4⟩
abbrev portStatus_FEC_CORR (i : Nat) : RField := ⟨⟨.portStatus, i, 0, 0⟩, 16, 32⟩
abbrev portStatus_FEC_UNCORR (i : Nat) : RField := ⟨⟨.portStatus, i, 0, 0⟩, 48, 16⟩
/-! KEN.M.CFG -/
abbrev kenMCfg_UDP_PORT : RField := ⟨⟨.kenMCfg, 0, 0, 0⟩, 0, 16⟩
abbrev kenMCfg_EN : RField := ⟨⟨.kenMCfg, 0, 0, 0⟩, 16, 1⟩
/-! KEN.M.STATUS -/
abbrev kenMStatus_DISCARD_ACL : RField := ⟨⟨.kenMStatus, 0, 0, 0⟩, 0, 16⟩
abbrev kenMStatus_MALFORMED : RField := ⟨⟨.kenMStatus, 0, 0, 0⟩, 16, 16⟩
abbrev kenMStatus_DUP_HITS : RField := ⟨⟨.kenMStatus, 0, 0, 0⟩, 32, 16⟩
abbrev kenMStatus_OVERRUN : RField := ⟨⟨.kenMStatus, 0, 0, 0⟩, 48, 16⟩
/-! KEN.M.ACL[i] +0x00 -/
abbrev acl0_EN (i : Nat) : RField := ⟨⟨.acl0, i, 0, 0⟩, 0, 1⟩
abbrev acl0_V6 (i : Nat) : RField := ⟨⟨.acl0, i, 0, 0⟩, 1, 1⟩
abbrev acl0_PREFIX (i : Nat) : RField := ⟨⟨.acl0, i, 0, 0⟩, 8, 8⟩
abbrev acl0_DOMAIN (i : Nat) : RField := ⟨⟨.acl0, i, 0, 0⟩, 16, 3⟩
abbrev acl0_SECURE (i : Nat) : RField := ⟨⟨.acl0, i, 0, 0⟩, 19, 1⟩
/-! KEN.M.ACL[i] +0x08 -/
abbrev acl1_ADDR_HI (i : Nat) : RField := ⟨⟨.acl1, i, 0, 0⟩, 0, 64⟩
/-! KEN.M.ACL[i] +0x10 -/
abbrev acl2_ADDR_LO (i : Nat) : RField := ⟨⟨.acl2, i, 0, 0⟩, 0, 64⟩
/-! KEN.QP[q].CTRL -/
abbrev qpCtrl_STATE (i : Nat) : RField := ⟨⟨.qpCtrl, i, 0, 0⟩, 0, 3⟩
abbrev qpCtrl_LINK (i : Nat) : RField := ⟨⟨.qpCtrl, i, 0, 0⟩, 3, 3⟩
abbrev qpCtrl_DOMAIN (i : Nat) : RField := ⟨⟨.qpCtrl, i, 0, 0⟩, 6, 3⟩
abbrev qpCtrl_SECURE (i : Nat) : RField := ⟨⟨.qpCtrl, i, 0, 0⟩, 9, 1⟩
abbrev qpCtrl_DSCP (i : Nat) : RField := ⟨⟨.qpCtrl, i, 0, 0⟩, 10, 6⟩
abbrev qpCtrl_MAX_RD (i : Nat) : RField := ⟨⟨.qpCtrl, i, 0, 0⟩, 16, 7⟩
abbrev qpCtrl_DEST_QPN (i : Nat) : RField := ⟨⟨.qpCtrl, i, 0, 0⟩, 24, 24⟩
abbrev qpCtrl_RETRY_CNT (i : Nat) : RField := ⟨⟨.qpCtrl, i, 0, 0⟩, 48, 3⟩
abbrev qpCtrl_RNR_RETRY (i : Nat) : RField := ⟨⟨.qpCtrl, i, 0, 0⟩, 51, 3⟩
abbrev qpCtrl_ACK_TIMEOUT (i : Nat) : RField := ⟨⟨.qpCtrl, i, 0, 0⟩, 54, 5⟩
/-! KEN.QP[q] +0x08 -/
abbrev qpPsn_SQ_PSN (i : Nat) : RField := ⟨⟨.qpPsn, i, 0, 0⟩, 0, 24⟩
abbrev qpPsn_RQ_PSN (i : Nat) : RField := ⟨⟨.qpPsn, i, 0, 0⟩, 32, 24⟩
/-! KEN.QP[q] +0x10 -/
abbrev qpGidHi_DGID_HI (i : Nat) : RField := ⟨⟨.qpGidHi, i, 0, 0⟩, 0, 64⟩
/-! KEN.QP[q] +0x18 -/
abbrev qpGidLo_DGID_LO (i : Nat) : RField := ⟨⟨.qpGidLo, i, 0, 0⟩, 0, 64⟩
/-! KEN.QP[q] +0x20 -/
abbrev qpDmac_DMAC (i : Nat) : RField := ⟨⟨.qpDmac, i, 0, 0⟩, 0, 48⟩
/-! KEN.QP[q] +0x28 -/
abbrev qpErr_ERR_CAUSE (i : Nat) : RField := ⟨⟨.qpErr, i, 0, 0⟩, 0, 4⟩
abbrev qpErr_RETRANSMITS (i : Nat) : RField := ⟨⟨.qpErr, i, 0, 0⟩, 16, 16⟩
abbrev qpErr_SEQ_ERR (i : Nat) : RField := ⟨⟨.qpErr, i, 0, 0⟩, 32, 16⟩
/-! KEN.CMD[r] +0x00 -/
abbrev cmdCfg_EN (i : Nat) : RField := ⟨⟨.cmdCfg, i, 0, 0⟩, 0, 1⟩
abbrev cmdCfg_INLINE (i : Nat) : RField := ⟨⟨.cmdCfg, i, 0, 0⟩, 1, 1⟩
abbrev cmdCfg_PRIO (i : Nat) : RField := ⟨⟨.cmdCfg, i, 0, 0⟩, 2, 1⟩
abbrev cmdCfg_LOG2SIZE (i : Nat) : RField := ⟨⟨.cmdCfg, i, 0, 0⟩, 3, 5⟩
abbrev cmdCfg_QP (i : Nat) : RField := ⟨⟨.cmdCfg, i, 0, 0⟩, 8, 6⟩
abbrev cmdCfg_CRING (i : Nat) : RField := ⟨⟨.cmdCfg, i, 0, 0⟩, 14, 6⟩
abbrev cmdCfg_RKEY (i : Nat) : RField := ⟨⟨.cmdCfg, i, 0, 0⟩, 32, 32⟩
/-! KEN.CMD[r] +0x08 -/
abbrev cmdBase_BASE (i : Nat) : RField := ⟨⟨.cmdBase, i, 0, 0⟩, 0, 64⟩
/-! KEN.CMD[r] +0x10 -/
abbrev cmdShadow_SHADOW (i : Nat) : RField := ⟨⟨.cmdShadow, i, 0, 0⟩, 0, 64⟩
/-! KEN.CMD[r] +0x18 -/
abbrev cmdIdx_PI (i : Nat) : RField := ⟨⟨.cmdIdx, i, 0, 0⟩, 0, 32⟩
abbrev cmdIdx_CI (i : Nat) : RField := ⟨⟨.cmdIdx, i, 0, 0⟩, 32, 32⟩
/-! KEN.CPL[r] +0x00 -/
abbrev cplCfg_EN (i : Nat) : RField := ⟨⟨.cplCfg, i, 0, 0⟩, 0, 1⟩
abbrev cplCfg_LOG2SIZE (i : Nat) : RField := ⟨⟨.cplCfg, i, 0, 0⟩, 3, 5⟩
abbrev cplCfg_QP (i : Nat) : RField := ⟨⟨.cplCfg, i, 0, 0⟩, 8, 6⟩
abbrev cplCfg_CRING (i : Nat) : RField := ⟨⟨.cplCfg, i, 0, 0⟩, 14, 6⟩
abbrev cplCfg_RKEY (i : Nat) : RField := ⟨⟨.cplCfg, i, 0, 0⟩, 32, 32⟩
/-! KEN.CPL[r] +0x08 -/
abbrev cplBase_BASE (i : Nat) : RField := ⟨⟨.cplBase, i, 0, 0⟩, 0, 64⟩
/-! KEN.CPL[r] +0x10 -/
abbrev cplShadow_SHADOW (i : Nat) : RField := ⟨⟨.cplShadow, i, 0, 0⟩, 0, 64⟩
/-! KEN.CPL[r] +0x18 -/
abbrev cplIdx_PI (i : Nat) : RField := ⟨⟨.cplIdx, i, 0, 0⟩, 0, 32⟩
abbrev cplIdx_CI (i : Nat) : RField := ⟨⟨.cplIdx, i, 0, 0⟩, 32, 32⟩
/-! KEN.RES[r] +0x00 -/
abbrev resCfg_EN (i : Nat) : RField := ⟨⟨.resCfg, i, 0, 0⟩, 0, 1⟩
abbrev resCfg_PRIO (i : Nat) : RField := ⟨⟨.resCfg, i, 0, 0⟩, 2, 1⟩
abbrev resCfg_LOG2SIZE (i : Nat) : RField := ⟨⟨.resCfg, i, 0, 0⟩, 3, 5⟩
abbrev resCfg_QP (i : Nat) : RField := ⟨⟨.resCfg, i, 0, 0⟩, 8, 6⟩
abbrev resCfg_CRING (i : Nat) : RField := ⟨⟨.resCfg, i, 0, 0⟩, 14, 6⟩
abbrev resCfg_COALESCE (i : Nat) : RField := ⟨⟨.resCfg, i, 0, 0⟩, 20, 8⟩
abbrev resCfg_HOLDOFF (i : Nat) : RField := ⟨⟨.resCfg, i, 0, 0⟩, 28, 4⟩
abbrev resCfg_RKEY (i : Nat) : RField := ⟨⟨.resCfg, i, 0, 0⟩, 32, 32⟩
/-! KEN.RES[r] +0x08 -/
abbrev resBase_BASE (i : Nat) : RField := ⟨⟨.resBase, i, 0, 0⟩, 0, 64⟩
/-! KEN.RES[r] +0x10 -/
abbrev resShadow_SHADOW (i : Nat) : RField := ⟨⟨.resShadow, i, 0, 0⟩, 0, 64⟩
/-! KEN.RES[r] +0x18 -/
abbrev resIdx_PI (i : Nat) : RField := ⟨⟨.resIdx, i, 0, 0⟩, 0, 32⟩
abbrev resIdx_CI (i : Nat) : RField := ⟨⟨.resIdx, i, 0, 0⟩, 32, 32⟩
/-! KEN.PTPR +0x00 -/
abbrev ptprCfg_EN : RField := ⟨⟨.ptprCfg, 0, 0, 0⟩, 0, 1⟩
abbrev ptprCfg_LOG2SIZE : RField := ⟨⟨.ptprCfg, 0, 0, 0⟩, 3, 5⟩
abbrev ptprCfg_QP : RField := ⟨⟨.ptprCfg, 0, 0, 0⟩, 8, 6⟩
abbrev ptprCfg_CRING : RField := ⟨⟨.ptprCfg, 0, 0, 0⟩, 14, 6⟩
abbrev ptprCfg_RKEY : RField := ⟨⟨.ptprCfg, 0, 0, 0⟩, 32, 32⟩
/-! KEN.PTPR +0x08 -/
abbrev ptprBase_BASE : RField := ⟨⟨.ptprBase, 0, 0, 0⟩, 0, 64⟩
/-! KEN.PTPR +0x10 -/
abbrev ptprShadow_SHADOW : RField := ⟨⟨.ptprShadow, 0, 0, 0⟩, 0, 64⟩
/-! KEN.PTPR +0x18 -/
abbrev ptprIdx_PI : RField := ⟨⟨.ptprIdx, 0, 0, 0⟩, 0, 32⟩
abbrev ptprIdx_CI : RField := ⟨⟨.ptprIdx, 0, 0, 0⟩, 32, 32⟩
/-! KEN.EVT -/
abbrev kenEvt_CRING : RField := ⟨⟨.kenEvt, 0, 0, 0⟩, 0, 6⟩
abbrev kenEvt_EN : RField := ⟨⟨.kenEvt, 0, 0, 0⟩, 6, 1⟩
/-! KEN.DB -/
abbrev kenDb_RKEY : RField := ⟨⟨.kenDb, 0, 0, 0⟩, 0, 32⟩
/-! KEN.DB_BASE -/
abbrev kenDbBase_BASE : RField := ⟨⟨.kenDbBase, 0, 0, 0⟩, 0, 64⟩
/-! KEN.PTP_PEER[i] word w -/
abbrev ptpPeer_ADDR (i j : Nat) : RField := ⟨⟨.ptpPeer, i, j, 0⟩, 0, 64⟩
/-! KEN.COUNTS -/
abbrev kenCounts_DB_BAD : RField := ⟨⟨.kenCounts, 0, 0, 0⟩, 0, 16⟩
abbrev kenCounts_DB_DENIED : RField := ⟨⟨.kenCounts, 0, 0, 0⟩, 16, 16⟩
abbrev kenCounts_CPL_DISCARD : RField := ⟨⟨.kenCounts, 0, 0, 0⟩, 32, 16⟩
abbrev kenCounts_PTP_DROP : RField := ⟨⟨.kenCounts, 0, 0, 0⟩, 48, 8⟩
abbrev kenCounts_CFG_REFUSED : RField := ⟨⟨.kenCounts, 0, 0, 0⟩, 56, 7⟩
abbrev kenCounts_CLR : RField := ⟨⟨.kenCounts, 0, 0, 0⟩, 63, 1⟩
/-! SEAM.STATUS -/
abbrev seamStatus_DENIED : RField := ⟨⟨.seamStatus, 0, 0, 0⟩, 0, 16⟩
abbrev seamStatus_CLAIM_DENIED : RField := ⟨⟨.seamStatus, 0, 0, 0⟩, 16, 16⟩
abbrev seamStatus_CFG_REFUSED : RField := ⟨⟨.seamStatus, 0, 0, 0⟩, 32, 1⟩
abbrev seamStatus_CLR : RField := ⟨⟨.seamStatus, 0, 0, 0⟩, 63, 1⟩
/-! SEAM.CH[n] -/
abbrev seamCh_SRC (i : Nat) : RField := ⟨⟨.seamCh, i, 0, 0⟩, 0, 9⟩
abbrev seamCh_SRC2_EN (i : Nat) : RField := ⟨⟨.seamCh, i, 0, 0⟩, 9, 1⟩
abbrev seamCh_SRC2 (i : Nat) : RField := ⟨⟨.seamCh, i, 0, 0⟩, 16, 9⟩
abbrev seamCh_EN (i : Nat) : RField := ⟨⟨.seamCh, i, 0, 0⟩, 32, 1⟩
abbrev seamCh_LOG (i : Nat) : RField := ⟨⟨.seamCh, i, 0, 0⟩, 33, 1⟩
abbrev seamCh_OWNER (i : Nat) : RField := ⟨⟨.seamCh, i, 0, 0⟩, 35, 3⟩
abbrev seamCh_SECURE (i : Nat) : RField := ⟨⟨.seamCh, i, 0, 0⟩, 38, 1⟩
abbrev seamCh_ASYNC (i : Nat) : RField := ⟨⟨.seamCh, i, 0, 0⟩, 39, 1⟩
abbrev seamCh_MERGED (i : Nat) : RField := ⟨⟨.seamCh, i, 0, 0⟩, 48, 16⟩
/-! SEAM.SRC_OWN[i] -/
abbrev srcOwn_OWN_0 (i : Nat) : RField := ⟨⟨.srcOwn, i, 0, 0⟩, 0, 3⟩
abbrev srcOwn_OWN_1 (i : Nat) : RField := ⟨⟨.srcOwn, i, 0, 0⟩, 4, 3⟩
abbrev srcOwn_OWN_2 (i : Nat) : RField := ⟨⟨.srcOwn, i, 0, 0⟩, 8, 3⟩
abbrev srcOwn_OWN_3 (i : Nat) : RField := ⟨⟨.srcOwn, i, 0, 0⟩, 12, 3⟩
abbrev srcOwn_OWN_4 (i : Nat) : RField := ⟨⟨.srcOwn, i, 0, 0⟩, 16, 3⟩
abbrev srcOwn_OWN_5 (i : Nat) : RField := ⟨⟨.srcOwn, i, 0, 0⟩, 20, 3⟩
abbrev srcOwn_OWN_6 (i : Nat) : RField := ⟨⟨.srcOwn, i, 0, 0⟩, 24, 3⟩
abbrev srcOwn_OWN_7 (i : Nat) : RField := ⟨⟨.srcOwn, i, 0, 0⟩, 28, 3⟩
abbrev srcOwn_OWN_8 (i : Nat) : RField := ⟨⟨.srcOwn, i, 0, 0⟩, 32, 3⟩
abbrev srcOwn_OWN_9 (i : Nat) : RField := ⟨⟨.srcOwn, i, 0, 0⟩, 36, 3⟩
abbrev srcOwn_OWN_10 (i : Nat) : RField := ⟨⟨.srcOwn, i, 0, 0⟩, 40, 3⟩
abbrev srcOwn_OWN_11 (i : Nat) : RField := ⟨⟨.srcOwn, i, 0, 0⟩, 44, 3⟩
abbrev srcOwn_OWN_12 (i : Nat) : RField := ⟨⟨.srcOwn, i, 0, 0⟩, 48, 3⟩
abbrev srcOwn_OWN_13 (i : Nat) : RField := ⟨⟨.srcOwn, i, 0, 0⟩, 52, 3⟩
abbrev srcOwn_OWN_14 (i : Nat) : RField := ⟨⟨.srcOwn, i, 0, 0⟩, 56, 3⟩
abbrev srcOwn_OWN_15 (i : Nat) : RField := ⟨⟨.srcOwn, i, 0, 0⟩, 60, 3⟩
/-! SEAM.TACK[n] word 0 -/
abbrev tack0_LUT (i : Nat) : RField := ⟨⟨.tack0, i, 0, 0⟩, 0, 16⟩
abbrev tack0_FF_EN (i : Nat) : RField := ⟨⟨.tack0, i, 0, 0⟩, 16, 1⟩
abbrev tack0_INIT (i : Nat) : RField := ⟨⟨.tack0, i, 0, 0⟩, 17, 1⟩
abbrev tack0_FILT (i : Nat) : RField := ⟨⟨.tack0, i, 0, 0⟩, 24, 8⟩
abbrev tack0_OWNER (i : Nat) : RField := ⟨⟨.tack0, i, 0, 0⟩, 32, 3⟩
abbrev tack0_EN (i : Nat) : RField := ⟨⟨.tack0, i, 0, 0⟩, 36, 1⟩
/-! SEAM.TACK[n] word 1 -/
abbrev tack1_IN0 (i : Nat) : RField := ⟨⟨.tack1, i, 0, 0⟩, 0, 9⟩
abbrev tack1_IN1 (i : Nat) : RField := ⟨⟨.tack1, i, 0, 0⟩, 16, 9⟩
abbrev tack1_IN2 (i : Nat) : RField := ⟨⟨.tack1, i, 0, 0⟩, 32, 9⟩
abbrev tack1_IN3 (i : Nat) : RField := ⟨⟨.tack1, i, 0, 0⟩, 48, 9⟩
/-! SEAM.TMR[k].CFG -/
abbrev tmrCfg_GO (i : Nat) : RField := ⟨⟨.tmrCfg, i, 0, 0⟩, 0, 1⟩
abbrev tmrCfg_STOP (i : Nat) : RField := ⟨⟨.tmrCfg, i, 0, 0⟩, 1, 1⟩
abbrev tmrCfg_RUNNING (i : Nat) : RField := ⟨⟨.tmrCfg, i, 0, 0⟩, 2, 1⟩
abbrev tmrCfg_MODE (i : Nat) : RField := ⟨⟨.tmrCfg, i, 0, 0⟩, 3, 2⟩
abbrev tmrCfg_START_EN (i : Nat) : RField := ⟨⟨.tmrCfg, i, 0, 0⟩, 5, 1⟩
abbrev tmrCfg_STOP_EN (i : Nat) : RField := ⟨⟨.tmrCfg, i, 0, 0⟩, 6, 1⟩
abbrev tmrCfg_ORIGIN_EN (i : Nat) : RField := ⟨⟨.tmrCfg, i, 0, 0⟩, 7, 1⟩
abbrev tmrCfg_START_CH (i : Nat) : RField := ⟨⟨.tmrCfg, i, 0, 0⟩, 8, 8⟩
abbrev tmrCfg_STOP_CH (i : Nat) : RField := ⟨⟨.tmrCfg, i, 0, 0⟩, 16, 8⟩
abbrev tmrCfg_IGN (i : Nat) : RField := ⟨⟨.tmrCfg, i, 0, 0⟩, 32, 16⟩
/-! SEAM.TMR[k].TIME -/
abbrev tmrTime_PERIOD (i : Nat) : RField := ⟨⟨.tmrTime, i, 0, 0⟩, 0, 32⟩
abbrev tmrTime_COMPARE (i : Nat) : RField := ⟨⟨.tmrTime, i, 0, 0⟩, 32, 32⟩
/-! SEAM.TMR[k].ORIGIN -/
abbrev tmrOrigin_VALUE (i : Nat) : RField := ⟨⟨.tmrOrigin, i, 0, 0⟩, 0, 64⟩
/-! SEAM.CLAIM_MK[m] -/
abbrev claimMk_HOLDER (i : Nat) : RField := ⟨⟨.claimMk, i, 0, 0⟩, 0, 5⟩
abbrev claimMk_CH (i : Nat) : RField := ⟨⟨.claimMk, i, 0, 0⟩, 8, 8⟩
abbrev claimMk_POL (i : Nat) : RField := ⟨⟨.claimMk, i, 0, 0⟩, 16, 1⟩
abbrev claimMk_DOMAIN (i : Nat) : RField := ⟨⟨.claimMk, i, 0, 0⟩, 17, 3⟩
/-! SEAM.CLAIM_TMR[k] -/
abbrev claimTmr_HOLDER (i : Nat) : RField := ⟨⟨.claimTmr, i, 0, 0⟩, 0, 3⟩
abbrev claimTmr_DOMAIN (i : Nat) : RField := ⟨⟨.claimTmr, i, 0, 0⟩, 3, 3⟩
/-! SEAM.CLAIM_TDC[u] -/
abbrev claimTdc_HOLDER (i : Nat) : RField := ⟨⟨.claimTdc, i, 0, 0⟩, 0, 3⟩
abbrev claimTdc_DOMAIN (i : Nat) : RField := ⟨⟨.claimTdc, i, 0, 0⟩, 3, 3⟩
/-! SEAM.CLAIM_LOG -/
abbrev claimLog_HOLDER : RField := ⟨⟨.claimLog, 0, 0, 0⟩, 0, 3⟩
abbrev claimLog_DOMAIN : RField := ⟨⟨.claimLog, 0, 0, 0⟩, 3, 3⟩
/-! SEAM.TASK -/
abbrev seamTask_MON0_CH : RField := ⟨⟨.seamTask, 0, 0, 0⟩, 0, 8⟩
abbrev seamTask_MON0_EN : RField := ⟨⟨.seamTask, 0, 0, 0⟩, 8, 1⟩
abbrev seamTask_MON1_CH : RField := ⟨⟨.seamTask, 0, 0, 0⟩, 16, 8⟩
abbrev seamTask_MON1_EN : RField := ⟨⟨.seamTask, 0, 0, 0⟩, 24, 1⟩
abbrev seamTask_WAKE : RField := ⟨⟨.seamTask, 0, 0, 0⟩, 32, 32⟩
/-! SEAM.LOG_DATA -/
abbrev logData_DATA : RField := ⟨⟨.logData, 0, 0, 0⟩, 0, 64⟩
/-! SEAM.LOG_STATUS -/
abbrev logStatus_LEVEL : RField := ⟨⟨.logStatus, 0, 0, 0⟩, 0, 11⟩
abbrev logStatus_UNDERRUN : RField := ⟨⟨.logStatus, 0, 0, 0⟩, 11, 1⟩
abbrev logStatus_POISON : RField := ⟨⟨.logStatus, 0, 0, 0⟩, 12, 1⟩
abbrev logStatus_FLUSH : RField := ⟨⟨.logStatus, 0, 0, 0⟩, 13, 1⟩
abbrev logStatus_POISON_COUNT : RField := ⟨⟨.logStatus, 0, 0, 0⟩, 16, 16⟩
/-! INT.CFG -/
abbrev intCfg_BUDGET : RField := ⟨⟨.intCfg, 0, 0, 0⟩, 0, 3⟩
abbrev intCfg_LOST_REPLAY : RField := ⟨⟨.intCfg, 0, 0, 0⟩, 3, 1⟩
abbrev intCfg_SCRUB_DIV : RField := ⟨⟨.intCfg, 0, 0, 0⟩, 8, 8⟩
abbrev intCfg_USPAN : RField := ⟨⟨.intCfg, 0, 0, 0⟩, 16, 16⟩
/-! INT.COUNTS -/
abbrev intCounts_CORRECTED : RField := ⟨⟨.intCounts, 0, 0, 0⟩, 0, 32⟩
abbrev intCounts_UNCORR : RField := ⟨⟨.intCounts, 0, 0, 0⟩, 32, 16⟩
abbrev intCounts_RESIDUE : RField := ⟨⟨.intCounts, 0, 0, 0⟩, 48, 15⟩
abbrev intCounts_CLR : RField := ⟨⟨.intCounts, 0, 0, 0⟩, 63, 1⟩
/-! INT.COUNTS2 -/
abbrev intCounts2_UNPICKS : RField := ⟨⟨.intCounts2, 0, 0, 0⟩, 0, 16⟩
abbrev intCounts2_POISON_RD : RField := ⟨⟨.intCounts2, 0, 0, 0⟩, 16, 8⟩
abbrev intCounts2_LOST : RField := ⟨⟨.intCounts2, 0, 0, 0⟩, 24, 8⟩
abbrev intCounts2_LATE : RField := ⟨⟨.intCounts2, 0, 0, 0⟩, 32, 8⟩
abbrev intCounts2_OVERRUN : RField := ⟨⟨.intCounts2, 0, 0, 0⟩, 40, 8⟩
abbrev intCounts2_EXHAUST : RField := ⟨⟨.intCounts2, 0, 0, 0⟩, 48, 8⟩
abbrev intCounts2_LATE_UNPICK : RField := ⟨⟨.intCounts2, 0, 0, 0⟩, 56, 7⟩
abbrev intCounts2_CLR : RField := ⟨⟨.intCounts2, 0, 0, 0⟩, 63, 1⟩
/-! INT.LAST -/
abbrev intLast_CLASS : RField := ⟨⟨.intLast, 0, 0, 0⟩, 0, 8⟩
abbrev intLast_LOCUS : RField := ⟨⟨.intLast, 0, 0, 0⟩, 8, 8⟩
abbrev intLast_TILE : RField := ⟨⟨.intLast, 0, 0, 0⟩, 16, 4⟩
abbrev intLast_THREAD : RField := ⟨⟨.intLast, 0, 0, 0⟩, 20, 3⟩
abbrev intLast_ATTRIB : RField := ⟨⟨.intLast, 0, 0, 0⟩, 23, 1⟩
abbrev intLast_REPLAYED : RField := ⟨⟨.intLast, 0, 0, 0⟩, 24, 1⟩
abbrev intLast_ADDR : RField := ⟨⟨.intLast, 0, 0, 0⟩, 32, 32⟩
/-! INT.LAST_TICK -/
abbrev intLastTick_VALUE : RField := ⟨⟨.intLastTick, 0, 0, 0⟩, 0, 64⟩
/-! CANOPY.CFG -/
abbrev canopyCfg_PLATE_SRC : RField := ⟨⟨.canopyCfg, 0, 0, 0⟩, 0, 1⟩
abbrev canopyCfg_HOST_FLOOR : RField := ⟨⟨.canopyCfg, 0, 0, 0⟩, 8, 4⟩
abbrev canopyCfg_PLATE_HOST : RField := ⟨⟨.canopyCfg, 0, 0, 0⟩, 16, 16⟩
abbrev canopyCfg_PLATE_FAIL : RField := ⟨⟨.canopyCfg, 0, 0, 0⟩, 32, 16⟩
abbrev canopyCfg_CRIT_REL : RField := ⟨⟨.canopyCfg, 0, 0, 0⟩, 48, 16⟩
/-! CANOPY.STATUS -/
abbrev canopyStatus_LEVEL : RField := ⟨⟨.canopyStatus, 0, 0, 0⟩, 0, 4⟩
abbrev canopyStatus_CANOPY_LEVEL : RField := ⟨⟨.canopyStatus, 0, 0, 0⟩, 4, 4⟩
abbrev canopyStatus_CRYO_LEVEL : RField := ⟨⟨.canopyStatus, 0, 0, 0⟩, 8, 4⟩
abbrev canopyStatus_MODEL_VALID : RField := ⟨⟨.canopyStatus, 0, 0, 0⟩, 12, 1⟩
abbrev canopyStatus_CRIT_HOLD : RField := ⟨⟨.canopyStatus, 0, 0, 0⟩, 13, 1⟩
abbrev canopyStatus_PLATE_FAILED : RField := ⟨⟨.canopyStatus, 0, 0, 0⟩, 14, 1⟩
abbrev canopyStatus_TJ_MAX : RField := ⟨⟨.canopyStatus, 0, 0, 0⟩, 16, 16⟩
abbrev canopyStatus_HOT_NODE : RField := ⟨⟨.canopyStatus, 0, 0, 0⟩, 32, 7⟩
abbrev canopyStatus_TJ_MIN : RField := ⟨⟨.canopyStatus, 0, 0, 0⟩, 40, 16⟩
/-! CANOPY.SENS_BAD -/
abbrev sensBad_BAD : RField := ⟨⟨.sensBad, 0, 0, 0⟩, 0, 24⟩
abbrev sensBad_LAST_CAUSE : RField := ⟨⟨.sensBad, 0, 0, 0⟩, 32, 3⟩
abbrev sensBad_LAST_SENSOR : RField := ⟨⟨.sensBad, 0, 0, 0⟩, 35, 5⟩
/-! CANOPY.PLATE -/
abbrev plate_ESTIMATE : RField := ⟨⟨.plate, 0, 0, 0⟩, 0, 16⟩
abbrev plate_IN_USE : RField := ⟨⟨.plate, 0, 0, 0⟩, 16, 16⟩
/-! CANOPY.COUNTS -/
abbrev canopyCounts_PAUSES : RField := ⟨⟨.canopyCounts, 0, 0, 0⟩, 0, 16⟩
abbrev canopyCounts_PAUSE_LATE : RField := ⟨⟨.canopyCounts, 0, 0, 0⟩, 16, 16⟩
abbrev canopyCounts_CRIT : RField := ⟨⟨.canopyCounts, 0, 0, 0⟩, 32, 8⟩
abbrev canopyCounts_REPLACED : RField := ⟨⟨.canopyCounts, 0, 0, 0⟩, 40, 8⟩
abbrev canopyCounts_HW_REJECT : RField := ⟨⟨.canopyCounts, 0, 0, 0⟩, 48, 8⟩
abbrev canopyCounts_CLR : RField := ⟨⟨.canopyCounts, 0, 0, 0⟩, 63, 1⟩
/-! CANOPY.DEV_POLICY[L] -/
abbrev devPolicy_ENTRY (i : Nat) : RField := ⟨⟨.devPolicy, i, 0, 0⟩, 0, 16⟩
abbrev devPolicy_HYST (i : Nat) : RField := ⟨⟨.devPolicy, i, 0, 0⟩, 16, 8⟩
abbrev devPolicy_STRETCH (i : Nat) : RField := ⟨⟨.devPolicy, i, 0, 0⟩, 24, 8⟩
/-! CANOPY.HOST_POLICY[L] -/
abbrev hostPolicy_ENTRY (i : Nat) : RField := ⟨⟨.hostPolicy, i, 0, 0⟩, 0, 16⟩
abbrev hostPolicy_HYST (i : Nat) : RField := ⟨⟨.hostPolicy, i, 0, 0⟩, 16, 8⟩
abbrev hostPolicy_STRETCH (i : Nat) : RField := ⟨⟨.hostPolicy, i, 0, 0⟩, 24, 8⟩
/-! CANOPY.SENSOR[s] -/
abbrev sensor_P (i : Nat) : RField := ⟨⟨.sensor, i, 0, 0⟩, 0, 16⟩
abbrev sensor_PMAX (i : Nat) : RField := ⟨⟨.sensor, i, 0, 0⟩, 16, 16⟩
abbrev sensor_BAD (i : Nat) : RField := ⟨⟨.sensor, i, 0, 0⟩, 32, 1⟩
/-! CANOPY.DIODE[d] -/
abbrev diode_READING (i : Nat) : RField := ⟨⟨.diode, i, 0, 0⟩, 0, 16⟩
abbrev diode_NODE (i : Nat) : RField := ⟨⟨.diode, i, 0, 0⟩, 16, 7⟩
abbrev diode_SENSOR (i : Nat) : RField := ⟨⟨.diode, i, 0, 0⟩, 24, 5⟩
abbrev diode_DIODE_BAD (i : Nat) : RField := ⟨⟨.diode, i, 0, 0⟩, 29, 1⟩
abbrev diode_DIFF (i : Nat) : RField := ⟨⟨.diode, i, 0, 0⟩, 32, 16⟩
/-! CANOPY.NODE[n] -/
abbrev node_TEMP (i : Nat) : RField := ⟨⟨.node, i, 0, 0⟩, 0, 16⟩
/-! CRYO.CFG -/
abbrev cryoCfg_EN : RField := ⟨⟨.cryoCfg, 0, 0, 0⟩, 0, 1⟩
abbrev cryoCfg_DWELL : RField := ⟨⟨.cryoCfg, 0, 0, 0⟩, 8, 8⟩
abbrev cryoCfg_DOWN_FRAC : RField := ⟨⟨.cryoCfg, 0, 0, 0⟩, 16, 8⟩
/-! CRYO.STAGE[s] +0x00 -/
abbrev cryoStage0_G1 (i : Nat) : RField := ⟨⟨.cryoStage0, i, 0, 0⟩, 0, 16⟩
abbrev cryoStage0_TAU1 (i : Nat) : RField := ⟨⟨.cryoStage0, i, 0, 0⟩, 16, 32⟩
/-! CRYO.STAGE[s] +0x08 -/
abbrev cryoStage1_G2 (i : Nat) : RField := ⟨⟨.cryoStage1, i, 0, 0⟩, 0, 16⟩
abbrev cryoStage1_TAU2 (i : Nat) : RField := ⟨⟨.cryoStage1, i, 0, 0⟩, 16, 32⟩
/-! CRYO.STAGE[s] +0x10 -/
abbrev cryoStage2_BUDGET (i : Nat) : RField := ⟨⟨.cryoStage2, i, 0, 0⟩, 0, 32⟩
abbrev cryoStage2_EN (i : Nat) : RField := ⟨⟨.cryoStage2, i, 0, 0⟩, 32, 1⟩
/-! CRYO.STAGE[s] +0x18 -/
abbrev cryoStage3_RISE (i : Nat) : RField := ⟨⟨.cryoStage3, i, 0, 0⟩, 0, 32⟩
abbrev cryoStage3_POWER (i : Nat) : RField := ⟨⟨.cryoStage3, i, 0, 0⟩, 32, 32⟩
/-! CRYO.LINE[l] -/
abbrev cryoLine_W0 (i : Nat) : RField := ⟨⟨.cryoLine, i, 0, 0⟩, 0, 16⟩
abbrev cryoLine_W1 (i : Nat) : RField := ⟨⟨.cryoLine, i, 0, 0⟩, 16, 16⟩
abbrev cryoLine_W2 (i : Nat) : RField := ⟨⟨.cryoLine, i, 0, 0⟩, 32, 16⟩
abbrev cryoLine_W3 (i : Nat) : RField := ⟨⟨.cryoLine, i, 0, 0⟩, 48, 16⟩
/-! CRYO.LPOWER[l] -/
abbrev cryoLpower_P (i : Nat) : RField := ⟨⟨.cryoLpower, i, 0, 0⟩, 0, 32⟩
abbrev cryoLpower_FSP (i : Nat) : RField := ⟨⟨.cryoLpower, i, 0, 0⟩, 32, 32⟩
/-! TDC.IN[i] -/
abbrev tdcIn_EN (i : Nat) : RField := ⟨⟨.tdcIn, i, 0, 0⟩, 0, 1⟩
abbrev tdcIn_SLOPE (i : Nat) : RField := ⟨⟨.tdcIn, i, 0, 0⟩, 1, 1⟩
abbrev tdcIn_THRESH (i : Nat) : RField := ⟨⟨.tdcIn, i, 0, 0⟩, 4, 12⟩
abbrev tdcIn_OFFSET (i : Nat) : RField := ⟨⟨.tdcIn, i, 0, 0⟩, 32, 16⟩
/-! TDC.CAL -/
abbrev tdcCal_EN : RField := ⟨⟨.tdcCal, 0, 0, 0⟩, 0, 1⟩
abbrev tdcCal_FINE : RField := ⟨⟨.tdcCal, 0, 0, 0⟩, 8, 4⟩
abbrev tdcCal_PERIOD : RField := ⟨⟨.tdcCal, 0, 0, 0⟩, 16, 24⟩
abbrev tdcCal_WIDTH : RField := ⟨⟨.tdcCal, 0, 0, 0⟩, 40, 16⟩
/-! TDC.CAL_ORIGIN -/
abbrev calOrigin_VALUE : RField := ⟨⟨.calOrigin, 0, 0, 0⟩, 0, 64⟩
/-! TDC unit u CFG -/
abbrev tdcCfg_EN (i : Nat) : RField := ⟨⟨.tdcCfg, i, 0, 0⟩, 0, 1⟩
abbrev tdcCfg_MODE (i : Nat) : RField := ⟨⟨.tdcCfg, i, 0, 0⟩, 1, 2⟩
abbrev tdcCfg_CFG_REFUSED (i : Nat) : RField := ⟨⟨.tdcCfg, i, 0, 0⟩, 3, 1⟩
abbrev tdcCfg_START_SRC (i : Nat) : RField := ⟨⟨.tdcCfg, i, 0, 0⟩, 8, 5⟩
abbrev tdcCfg_STOP_SRC (i : Nat) : RField := ⟨⟨.tdcCfg, i, 0, 0⟩, 16, 5⟩
abbrev tdcCfg_WINDOW (i : Nat) : RField := ⟨⟨.tdcCfg, i, 0, 0⟩, 24, 20⟩
abbrev tdcCfg_Q_THRESH (i : Nat) : RField := ⟨⟨.tdcCfg, i, 0, 0⟩, 48, 4⟩
abbrev tdcCfg_NOQ (i : Nat) : RField := ⟨⟨.tdcCfg, i, 0, 0⟩, 52, 1⟩
/-! TDC unit u COUNTS -/
abbrev tdcCounts_NOSTOP (i : Nat) : RField := ⟨⟨.tdcCounts, i, 0, 0⟩, 0, 16⟩
abbrev tdcCounts_IGN_START (i : Nat) : RField := ⟨⟨.tdcCounts, i, 0, 0⟩, 16, 16⟩
abbrev tdcCounts_IGN_STOP (i : Nat) : RField := ⟨⟨.tdcCounts, i, 0, 0⟩, 32, 16⟩
abbrev tdcCounts_DROPPED (i : Nat) : RField := ⟨⟨.tdcCounts, i, 0, 0⟩, 48, 15⟩
abbrev tdcCounts_CLR (i : Nat) : RField := ⟨⟨.tdcCounts, i, 0, 0⟩, 63, 1⟩
/-! TDC unit u Q_DATA -/
abbrev tdcQData_DATA (i : Nat) : RField := ⟨⟨.tdcQData, i, 0, 0⟩, 0, 64⟩
/-! TDC unit u Q_STATUS -/
abbrev tdcQStatus_LEVEL (i : Nat) : RField := ⟨⟨.tdcQStatus, i, 0, 0⟩, 0, 10⟩
abbrev tdcQStatus_UNDERRUN (i : Nat) : RField := ⟨⟨.tdcQStatus, i, 0, 0⟩, 10, 1⟩
abbrev tdcQStatus_POISON (i : Nat) : RField := ⟨⟨.tdcQStatus, i, 0, 0⟩, 11, 1⟩
abbrev tdcQStatus_FLUSH (i : Nat) : RField := ⟨⟨.tdcQStatus, i, 0, 0⟩, 12, 1⟩
abbrev tdcQStatus_POISON_COUNT (i : Nat) : RField := ⟨⟨.tdcQStatus, i, 0, 0⟩, 16, 16⟩
/-! TDC unit 8+u STAT_CTRL -/
abbrev statCtrl_GO (i : Nat) : RField := ⟨⟨.statCtrl, i, 0, 0⟩, 0, 1⟩
abbrev statCtrl_BUSY (i : Nat) : RField := ⟨⟨.statCtrl, i, 0, 0⟩, 1, 1⟩
abbrev statCtrl_DONE (i : Nat) : RField := ⟨⟨.statCtrl, i, 0, 0⟩, 2, 1⟩
abbrev statCtrl_REFUSED (i : Nat) : RField := ⟨⟨.statCtrl, i, 0, 0⟩, 3, 1⟩
abbrev statCtrl_LOG2N (i : Nat) : RField := ⟨⟨.statCtrl, i, 0, 0⟩, 8, 5⟩
/-! TDC unit 8+u STAT_MEAN -/
abbrev statMean_VALUE (i : Nat) : RField := ⟨⟨.statMean, i, 0, 0⟩, 0, 64⟩
/-! TDC unit 8+u STAT_SD -/
abbrev statSd_VALUE (i : Nat) : RField := ⟨⟨.statSd, i, 0, 0⟩, 0, 48⟩
/-! TDC unit 8+u STAT_MINMAX -/
abbrev statMinmax_MIN (i : Nat) : RField := ⟨⟨.statMinmax, i, 0, 0⟩, 0, 32⟩
abbrev statMinmax_MAX (i : Nat) : RField := ⟨⟨.statMinmax, i, 0, 0⟩, 32, 32⟩
/-! HW.CTRL -/
abbrev hwCtrl_SAVE : RField := ⟨⟨.hwCtrl, 0, 0, 0⟩, 0, 1⟩
abbrev hwCtrl_TYPE : RField := ⟨⟨.hwCtrl, 0, 0, 0⟩, 8, 8⟩
/-! HW.STATUS -/
abbrev hwStatus_BUSY : RField := ⟨⟨.hwStatus, 0, 0, 0⟩, 0, 1⟩
abbrev hwStatus_PENDING : RField := ⟨⟨.hwStatus, 0, 0, 0⟩, 4, 4⟩
abbrev hwStatus_LAST_TYPE : RField := ⟨⟨.hwStatus, 0, 0, 0⟩, 8, 8⟩
abbrev hwStatus_LAST_RESULT : RField := ⟨⟨.hwStatus, 0, 0, 0⟩, 16, 4⟩
abbrev hwStatus_FALLBACK : RField := ⟨⟨.hwStatus, 0, 0, 0⟩, 20, 1⟩
abbrev hwStatus_WRITES : RField := ⟨⟨.hwStatus, 0, 0, 0⟩, 32, 16⟩
abbrev hwStatus_ABANDONED : RField := ⟨⟨.hwStatus, 0, 0, 0⟩, 48, 16⟩
/-! FLASH.CTRL -/
abbrev flashCtrl_PROGRAM : RField := ⟨⟨.flashCtrl, 0, 0, 0⟩, 0, 1⟩
abbrev flashCtrl_ERASE : RField := ⟨⟨.flashCtrl, 0, 0, 0⟩, 1, 1⟩
abbrev flashCtrl_BUSY : RField := ⟨⟨.flashCtrl, 0, 0, 0⟩, 2, 1⟩
abbrev flashCtrl_ERR : RField := ⟨⟨.flashCtrl, 0, 0, 0⟩, 3, 1⟩
/-! FLASH.ADDR -/
abbrev flashAddr_ADDR : RField := ⟨⟨.flashAddr, 0, 0, 0⟩, 0, 25⟩
/-! HW.REC[i] -/
abbrev hwRec_SEQ (i : Nat) : RField := ⟨⟨.hwRec, i, 0, 0⟩, 0, 32⟩
abbrev hwRec_SOURCE (i : Nat) : RField := ⟨⟨.hwRec, i, 0, 0⟩, 32, 2⟩
abbrev hwRec_OTHER_VALID (i : Nat) : RField := ⟨⟨.hwRec, i, 0, 0⟩, 34, 1⟩
/-! FLASH page buffer word i -/
abbrev flashBuf_DATA (i : Nat) : RField := ⟨⟨.flashBuf, i, 0, 0⟩, 0, 64⟩
/-! TILE[t].NDL.STATUS -/
abbrev ndlStatus_IMG_STATE (i : Nat) : RField := ⟨⟨.ndlStatus, i, 0, 0⟩, 0, 2⟩
abbrev ndlStatus_CFG_REFUSED (i : Nat) : RField := ⟨⟨.ndlStatus, i, 0, 0⟩, 2, 1⟩
abbrev ndlStatus_RUNNING (i : Nat) : RField := ⟨⟨.ndlStatus, i, 0, 0⟩, 8, 8⟩
abbrev ndlStatus_FAULTED (i : Nat) : RField := ⟨⟨.ndlStatus, i, 0, 0⟩, 16, 8⟩
/-! TILE[t].NDL.BARMAP[i] -/
abbrev barMap_MASK_0 (i j : Nat) : RField := ⟨⟨.barMap, i, j, 0⟩, 0, 8⟩
abbrev barMap_MASK_1 (i j : Nat) : RField := ⟨⟨.barMap, i, j, 0⟩, 8, 8⟩
abbrev barMap_MASK_2 (i j : Nat) : RField := ⟨⟨.barMap, i, j, 0⟩, 16, 8⟩
abbrev barMap_MASK_3 (i j : Nat) : RField := ⟨⟨.barMap, i, j, 0⟩, 24, 8⟩
abbrev barMap_MASK_4 (i j : Nat) : RField := ⟨⟨.barMap, i, j, 0⟩, 32, 8⟩
abbrev barMap_MASK_5 (i j : Nat) : RField := ⟨⟨.barMap, i, j, 0⟩, 40, 8⟩
abbrev barMap_MASK_6 (i j : Nat) : RField := ⟨⟨.barMap, i, j, 0⟩, 48, 8⟩
abbrev barMap_MASK_7 (i j : Nat) : RField := ⟨⟨.barMap, i, j, 0⟩, 56, 8⟩
/-! TILE[t].THR[h].CFG -/
abbrev thrCfg_TRIG_MODE (i j : Nat) : RField := ⟨⟨.thrCfg, i, j, 0⟩, 0, 8⟩
abbrev thrCfg_TRIG_EN (i j : Nat) : RField := ⟨⟨.thrCfg, i, j, 0⟩, 8, 8⟩
abbrev thrCfg_START_LEAD (i j : Nat) : RField := ⟨⟨.thrCfg, i, j, 0⟩, 16, 16⟩
abbrev thrCfg_JOINT_TMO (i j : Nat) : RField := ⟨⟨.thrCfg, i, j, 0⟩, 32, 16⟩
/-! TILE[t].THR[h].TRIG_SRC -/
abbrev trigSrc_CH_0 (i j : Nat) : RField := ⟨⟨.trigSrc, i, j, 0⟩, 0, 8⟩
abbrev trigSrc_CH_1 (i j : Nat) : RField := ⟨⟨.trigSrc, i, j, 0⟩, 8, 8⟩
abbrev trigSrc_CH_2 (i j : Nat) : RField := ⟨⟨.trigSrc, i, j, 0⟩, 16, 8⟩
abbrev trigSrc_CH_3 (i j : Nat) : RField := ⟨⟨.trigSrc, i, j, 0⟩, 24, 8⟩
abbrev trigSrc_CH_4 (i j : Nat) : RField := ⟨⟨.trigSrc, i, j, 0⟩, 32, 8⟩
abbrev trigSrc_CH_5 (i j : Nat) : RField := ⟨⟨.trigSrc, i, j, 0⟩, 40, 8⟩
abbrev trigSrc_CH_6 (i j : Nat) : RField := ⟨⟨.trigSrc, i, j, 0⟩, 48, 8⟩
abbrev trigSrc_CH_7 (i j : Nat) : RField := ⟨⟨.trigSrc, i, j, 0⟩, 56, 8⟩
/-! TILE[t].THR[h].STATE -/
abbrev thrState_STATE (i j : Nat) : RField := ⟨⟨.thrState, i, j, 0⟩, 0, 4⟩
abbrev thrState_WAIT_KIND (i j : Nat) : RField := ⟨⟨.thrState, i, j, 0⟩, 4, 3⟩
abbrev thrState_QDEPTH (i j : Nat) : RField := ⟨⟨.thrState, i, j, 0⟩, 8, 7⟩
abbrev thrState_IN_SHOT (i j : Nat) : RField := ⟨⟨.thrState, i, j, 0⟩, 15, 1⟩
abbrev thrState_REPLAYS (i j : Nat) : RField := ⟨⟨.thrState, i, j, 0⟩, 16, 3⟩
abbrev thrState_PC (i j : Nat) : RField := ⟨⟨.thrState, i, j, 0⟩, 24, 17⟩
abbrev thrState_LQ_DEPTH (i j : Nat) : RField := ⟨⟨.thrState, i, j, 0⟩, 43, 3⟩
abbrev thrState_FAULT_CODE (i j : Nat) : RField := ⟨⟨.thrState, i, j, 0⟩, 48, 8⟩
/-! TILE[t].THR[h].COUNTS -/
abbrev thrCounts_LATE (i j : Nat) : RField := ⟨⟨.thrCounts, i, j, 0⟩, 0, 16⟩
abbrev thrCounts_TRIG_IGN (i j : Nat) : RField := ⟨⟨.thrCounts, i, j, 0⟩, 16, 16⟩
abbrev thrCounts_TRIG_OVF (i j : Nat) : RField := ⟨⟨.thrCounts, i, j, 0⟩, 32, 16⟩
abbrev thrCounts_CLR (i j : Nat) : RField := ⟨⟨.thrCounts, i, j, 0⟩, 63, 1⟩
/-! TILE[t].THR[h].TC -/
abbrev thrTc_TC (i j : Nat) : RField := ⟨⟨.thrTc, i, j, 0⟩, 0, 64⟩
/-! TILE[t].THR[h].CTRL -/
abbrev thrCtrl_STOP (i j : Nat) : RField := ⟨⟨.thrCtrl, i, j, 0⟩, 0, 1⟩
abbrev thrCtrl_FLUSH_LQ (i j : Nat) : RField := ⟨⟨.thrCtrl, i, j, 0⟩, 1, 1⟩
/-! TILE[t].SYN.CH[c].CFG -/
abbrev synCfg_ENABLE (i j : Nat) : RField := ⟨⟨.synCfg, i, j, 0⟩, 0, 1⟩
abbrev synCfg_ZONE (i j : Nat) : RField := ⟨⟨.synCfg, i, j, 0⟩, 1, 1⟩
abbrev synCfg_CFG_REFUSED (i j : Nat) : RField := ⟨⟨.synCfg, i, j, 0⟩, 2, 1⟩
abbrev synCfg_CLIPPED (i j : Nat) : RField := ⟨⟨.synCfg, i, j, 0⟩, 3, 1⟩
abbrev synCfg_GAIN (i j : Nat) : RField := ⟨⟨.synCfg, i, j, 0⟩, 16, 16⟩
/-! TILE[t].SYN.CH[c].CLIP_COUNT -/
abbrev clipCount_COUNT (i j : Nat) : RField := ⟨⟨.clipCount, i, j, 0⟩, 0, 48⟩
abbrev clipCount_CLR (i j : Nat) : RField := ⟨⟨.clipCount, i, j, 0⟩, 63, 1⟩
/-! TILE[t].SYN.CH[c].CLIP_FIRST -/
abbrev clipFirst_VALUE (i j : Nat) : RField := ⟨⟨.clipFirst, i, j, 0⟩, 0, 64⟩
/-! TILE[t].SYN.COUNTS -/
abbrev synCounts_NULL_PLAY (i : Nat) : RField := ⟨⟨.synCounts, i, 0, 0⟩, 0, 16⟩
abbrev synCounts_MK_IGN (i : Nat) : RField := ⟨⟨.synCounts, i, 0, 0⟩, 16, 16⟩
abbrev synCounts_JOIN_GAP (i : Nat) : RField := ⟨⟨.synCounts, i, 0, 0⟩, 32, 16⟩
abbrev synCounts_CLR (i : Nat) : RField := ⟨⟨.synCounts, i, 0, 0⟩, 63, 1⟩
/-! TILE[t].SYN.TONE[c][k] +0x00 -/
abbrev toneFreq_FREQ (i j k : Nat) : RField := ⟨⟨.toneFreq, i, j, k⟩, 0, 48⟩
/-! TILE[t].SYN.TONE[c][k] +0x08 -/
abbrev tonePhase_OFFSET (i j k : Nat) : RField := ⟨⟨.tonePhase, i, j, k⟩, 0, 32⟩
abbrev tonePhase_AMP (i j k : Nat) : RField := ⟨⟨.tonePhase, i, j, k⟩, 32, 16⟩
/-! TILE[t].SYN.TONE[c][k] +0x10 -/
abbrev toneVz_VZ (i j k : Nat) : RField := ⟨⟨.toneVz, i, j, k⟩, 0, 48⟩
/-! TILE[t].SYN.MARK[m] -/
abbrev synMark_EXT (i j : Nat) : RField := ⟨⟨.synMark, i, j, 0⟩, 0, 1⟩
abbrev synMark_POL (i j : Nat) : RField := ⟨⟨.synMark, i, j, 0⟩, 1, 1⟩
abbrev synMark_PS_MODE (i j : Nat) : RField := ⟨⟨.synMark, i, j, 0⟩, 2, 1⟩
abbrev synMark_DELAY (i j : Nat) : RField := ⟨⟨.synMark, i, j, 0⟩, 4, 8⟩
abbrev synMark_PRE (i j : Nat) : RField := ⟨⟨.synMark, i, j, 0⟩, 16, 8⟩
abbrev synMark_POST (i j : Nat) : RField := ⟨⟨.synMark, i, j, 0⟩, 24, 8⟩
abbrev synMark_PS_WIDTH (i j : Nat) : RField := ⟨⟨.synMark, i, j, 0⟩, 32, 16⟩
/-! TILE[t].SYN.BOB[b].CFG -/
abbrev bobCfg_ENABLE (i j : Nat) : RField := ⟨⟨.bobCfg, i, j, 0⟩, 0, 1⟩
abbrev bobCfg_RESET (i j : Nat) : RField := ⟨⟨.bobCfg, i, j, 0⟩, 1, 1⟩
abbrev bobCfg_CHUNK (i j : Nat) : RField := ⟨⟨.bobCfg, i, j, 0⟩, 4, 4⟩
abbrev bobCfg_BASE (i j : Nat) : RField := ⟨⟨.bobCfg, i, j, 0⟩, 16, 4⟩
abbrev bobCfg_SIZE (i j : Nat) : RField := ⟨⟨.bobCfg, i, j, 0⟩, 24, 5⟩
abbrev bobCfg_THRESH (i j : Nat) : RField := ⟨⟨.bobCfg, i, j, 0⟩, 32, 16⟩
abbrev bobCfg_PREFILL (i j : Nat) : RField := ⟨⟨.bobCfg, i, j, 0⟩, 48, 16⟩
/-! TILE[t].SYN.BOB[b].LOOP_MARK -/
abbrev bobLoopMark_VALUE (i j : Nat) : RField := ⟨⟨.bobLoopMark, i, j, 0⟩, 0, 64⟩
/-! TILE[t].SYN.BOB[b].LOOP_END -/
abbrev bobLoopEnd_VALUE (i j : Nat) : RField := ⟨⟨.bobLoopEnd, i, j, 0⟩, 0, 64⟩
/-! TILE[t].SYN.BOB[b].LOOP -/
abbrev bobLoop_LOOP_COUNT (i j : Nat) : RField := ⟨⟨.bobLoop, i, j, 0⟩, 0, 16⟩
abbrev bobLoop_LOOPS_LEFT (i j : Nat) : RField := ⟨⟨.bobLoop, i, j, 0⟩, 16, 16⟩
/-! TILE[t].SYN.BOB[b].WP -/
abbrev bobWp_VALUE (i j : Nat) : RField := ⟨⟨.bobWp, i, j, 0⟩, 0, 64⟩
/-! TILE[t].SYN.BOB[b].RP -/
abbrev bobRp_VALUE (i j : Nat) : RField := ⟨⟨.bobRp, i, j, 0⟩, 0, 64⟩
/-! TILE[t].SYN.BOB[b].STATUS -/
abbrev bobStatus_STATE (i j : Nat) : RField := ⟨⟨.bobStatus, i, j, 0⟩, 0, 3⟩
abbrev bobStatus_READY (i j : Nat) : RField := ⟨⟨.bobStatus, i, j, 0⟩, 3, 1⟩
abbrev bobStatus_FEED_DRY (i j : Nat) : RField := ⟨⟨.bobStatus, i, j, 0⟩, 4, 1⟩
abbrev bobStatus_CFG_REFUSED (i j : Nat) : RField := ⟨⟨.bobStatus, i, j, 0⟩, 5, 1⟩
abbrev bobStatus_OVERRUNS (i j : Nat) : RField := ⟨⟨.bobStatus, i, j, 0⟩, 8, 8⟩
abbrev bobStatus_UNDERRUNS (i j : Nat) : RField := ⟨⟨.bobStatus, i, j, 0⟩, 16, 16⟩
abbrev bobStatus_SKIPPED (i j : Nat) : RField := ⟨⟨.bobStatus, i, j, 0⟩, 32, 32⟩
/-! TILE[t].ADC.CFG -/
abbrev adcCfg_EN (i : Nat) : RField := ⟨⟨.adcCfg, i, 0, 0⟩, 0, 1⟩
abbrev adcCfg_BAND (i : Nat) : RField := ⟨⟨.adcCfg, i, 0, 0⟩, 1, 1⟩
abbrev adcCfg_CFG_REFUSED (i : Nat) : RField := ⟨⟨.adcCfg, i, 0, 0⟩, 2, 1⟩
abbrev adcCfg_OVR_LEVEL (i : Nat) : RField := ⟨⟨.adcCfg, i, 0, 0⟩, 4, 8⟩
/-! TILE[t].ADC.STATUS -/
abbrev adcStatus_READY (i : Nat) : RField := ⟨⟨.adcStatus, i, 0, 0⟩, 0, 1⟩
abbrev adcStatus_OVR_SEEN (i : Nat) : RField := ⟨⟨.adcStatus, i, 0, 0⟩, 16, 16⟩
abbrev adcStatus_CODE_CLIPS (i : Nat) : RField := ⟨⟨.adcStatus, i, 0, 0⟩, 32, 32⟩
/-! TILE[t].ADC.CORR -/
abbrev adcCorr_COMMIT (i : Nat) : RField := ⟨⟨.adcCorr, i, 0, 0⟩, 0, 1⟩
abbrev adcCorr_FORCE (i : Nat) : RField := ⟨⟨.adcCorr, i, 0, 0⟩, 1, 1⟩
abbrev adcCorr_PEND (i : Nat) : RField := ⟨⟨.adcCorr, i, 0, 0⟩, 2, 1⟩
abbrev adcCorr_CLIP_CLR (i : Nat) : RField := ⟨⟨.adcCorr, i, 0, 0⟩, 3, 1⟩
abbrev adcCorr_PERIOD (i : Nat) : RField := ⟨⟨.adcCorr, i, 0, 0⟩, 8, 8⟩
abbrev adcCorr_PEND_AGE (i : Nat) : RField := ⟨⟨.adcCorr, i, 0, 0⟩, 16, 16⟩
abbrev adcCorr_APPLIED (i : Nat) : RField := ⟨⟨.adcCorr, i, 0, 0⟩, 32, 32⟩
/-! TILE[t].ADC.OVR_COUNT[s] -/
abbrev ovrCount_COUNT (i j : Nat) : RField := ⟨⟨.ovrCount, i, j, 0⟩, 0, 32⟩
abbrev ovrCount_CLR (i j : Nat) : RField := ⟨⟨.ovrCount, i, j, 0⟩, 63, 1⟩
/-! TILE[t].ADC ACTIVE of slice s -/
abbrev corrActive_OFFSET (i j : Nat) : RField := ⟨⟨.corrActive, i, j, 0⟩, 0, 16⟩
abbrev corrActive_GAIN (i j : Nat) : RField := ⟨⟨.corrActive, i, j, 0⟩, 16, 16⟩
abbrev corrActive_SKEW (i j : Nat) : RField := ⟨⟨.corrActive, i, j, 0⟩, 32, 16⟩
abbrev corrActive_BW (i j : Nat) : RField := ⟨⟨.corrActive, i, j, 0⟩, 48, 16⟩
/-! TILE[t].ADC STAGE of slice s -/
abbrev corrStage_OFFSET (i j : Nat) : RField := ⟨⟨.corrStage, i, j, 0⟩, 0, 16⟩
abbrev corrStage_GAIN (i j : Nat) : RField := ⟨⟨.corrStage, i, j, 0⟩, 16, 16⟩
abbrev corrStage_SKEW (i j : Nat) : RField := ⟨⟨.corrStage, i, j, 0⟩, 32, 16⟩
abbrev corrStage_BW (i j : Nat) : RField := ⟨⟨.corrStage, i, j, 0⟩, 48, 16⟩
/-! TILE[t].ADC EST of slice s -/
abbrev corrEst_OFFSET (i j : Nat) : RField := ⟨⟨.corrEst, i, j, 0⟩, 0, 16⟩
abbrev corrEst_GAIN (i j : Nat) : RField := ⟨⟨.corrEst, i, j, 0⟩, 16, 16⟩
abbrev corrEst_SKEW (i j : Nat) : RField := ⟨⟨.corrEst, i, j, 0⟩, 32, 16⟩
abbrev corrEst_BW (i j : Nat) : RField := ⟨⟨.corrEst, i, j, 0⟩, 48, 16⟩
/-! TILE[t].ACQ[c].CFG -/
abbrev acqCfg_EN (i j : Nat) : RField := ⟨⟨.acqCfg, i, j, 0⟩, 0, 1⟩
abbrev acqCfg_THREE (i j : Nat) : RField := ⟨⟨.acqCfg, i, j, 0⟩, 1, 1⟩
abbrev acqCfg_BIN (i j : Nat) : RField := ⟨⟨.acqCfg, i, j, 0⟩, 8, 6⟩
abbrev acqCfg_SHIFT (i j : Nat) : RField := ⟨⟨.acqCfg, i, j, 0⟩, 16, 4⟩
abbrev acqCfg_KLEN (i j : Nat) : RField := ⟨⟨.acqCfg, i, j, 0⟩, 32, 10⟩
/-! TILE[t].ACQ[c].DFREQ -/
abbrev acqDfreq_VALUE (i j : Nat) : RField := ⟨⟨.acqDfreq, i, j, 0⟩, 0, 48⟩
/-! TILE[t].ACQ[c].DPHASE -/
abbrev acqDphase_VALUE (i j : Nat) : RField := ⟨⟨.acqDphase, i, j, 0⟩, 0, 32⟩
/-! TILE[t].ACQ[c].DELAY -/
abbrev acqDelay_VALUE (i j : Nat) : RField := ⟨⟨.acqDelay, i, j, 0⟩, 0, 16⟩
/-! TILE[t].ACQ[c].BOXW -/
abbrev acqBoxw_I (i j : Nat) : RField := ⟨⟨.acqBoxw, i, j, 0⟩, 0, 16⟩
abbrev acqBoxw_Q (i j : Nat) : RField := ⟨⟨.acqBoxw, i, j, 0⟩, 16, 16⟩
/-! TILE[t].ACQ[c].DISC0 -/
abbrev acqDisc0_A (i j : Nat) : RField := ⟨⟨.acqDisc0, i, j, 0⟩, 0, 16⟩
abbrev acqDisc0_B (i j : Nat) : RField := ⟨⟨.acqDisc0, i, j, 0⟩, 16, 16⟩
abbrev acqDisc0_C (i j : Nat) : RField := ⟨⟨.acqDisc0, i, j, 0⟩, 32, 32⟩
/-! TILE[t].ACQ[c].DISC1 -/
abbrev acqDisc1_A (i j : Nat) : RField := ⟨⟨.acqDisc1, i, j, 0⟩, 0, 16⟩
abbrev acqDisc1_B (i j : Nat) : RField := ⟨⟨.acqDisc1, i, j, 0⟩, 16, 16⟩
abbrev acqDisc1_C (i j : Nat) : RField := ⟨⟨.acqDisc1, i, j, 0⟩, 32, 32⟩
/-! TILE[t].ACQ[c].GUARD -/
abbrev acqGuard_G0 (i j : Nat) : RField := ⟨⟨.acqGuard, i, j, 0⟩, 0, 24⟩
abbrev acqGuard_G1 (i j : Nat) : RField := ⟨⟨.acqGuard, i, j, 0⟩, 32, 24⟩
/-! TILE[t].ACQ[c].CTRL -/
abbrev acqCtrl_COMMIT (i j : Nat) : RField := ⟨⟨.acqCtrl, i, j, 0⟩, 0, 1⟩
/-! TILE[t].ACQ[c].STATUS -/
abbrev acqStatus_STATE (i j : Nat) : RField := ⟨⟨.acqStatus, i, j, 0⟩, 0, 2⟩
abbrev acqStatus_HELD (i j : Nat) : RField := ⟨⟨.acqStatus, i, j, 0⟩, 2, 2⟩
abbrev acqStatus_PEND (i j : Nat) : RField := ⟨⟨.acqStatus, i, j, 0⟩, 4, 1⟩
abbrev acqStatus_BANK_SEQ (i j : Nat) : RField := ⟨⟨.acqStatus, i, j, 0⟩, 16, 16⟩
/-! TILE[t].ACQ[c].COUNTS -/
abbrev acqCounts_DISPLACED (i j : Nat) : RField := ⟨⟨.acqCounts, i, j, 0⟩, 0, 16⟩
abbrev acqCounts_DROPPED (i j : Nat) : RField := ⟨⟨.acqCounts, i, j, 0⟩, 16, 16⟩
abbrev acqCounts_NOWIN (i j : Nat) : RField := ⟨⟨.acqCounts, i, j, 0⟩, 32, 16⟩
abbrev acqCounts_SAT (i j : Nat) : RField := ⟨⟨.acqCounts, i, j, 0⟩, 48, 15⟩
abbrev acqCounts_CLR (i j : Nat) : RField := ⟨⟨.acqCounts, i, j, 0⟩, 63, 1⟩
/-! TILE[t].ACQ_TRAIN.CTRL -/
abbrev trainCtrl_START (i : Nat) : RField := ⟨⟨.trainCtrl, i, 0, 0⟩, 0, 1⟩
abbrev trainCtrl_ABORT (i : Nat) : RField := ⟨⟨.trainCtrl, i, 0, 0⟩, 1, 1⟩
abbrev trainCtrl_BUSY (i : Nat) : RField := ⟨⟨.trainCtrl, i, 0, 0⟩, 2, 1⟩
abbrev trainCtrl_DONE (i : Nat) : RField := ⟨⟨.trainCtrl, i, 0, 0⟩, 3, 1⟩
abbrev trainCtrl_ERR (i : Nat) : RField := ⟨⟨.trainCtrl, i, 0, 0⟩, 4, 1⟩
abbrev trainCtrl_CH (i : Nat) : RField := ⟨⟨.trainCtrl, i, 0, 0⟩, 8, 5⟩
abbrev trainCtrl_NSTATES3 (i : Nat) : RField := ⟨⟨.trainCtrl, i, 0, 0⟩, 13, 1⟩
abbrev trainCtrl_LOG2N (i : Nat) : RField := ⟨⟨.trainCtrl, i, 0, 0⟩, 16, 5⟩
abbrev trainCtrl_TSHIFT (i : Nat) : RField := ⟨⟨.trainCtrl, i, 0, 0⟩, 21, 4⟩
abbrev trainCtrl_TLEN (i : Nat) : RField := ⟨⟨.trainCtrl, i, 0, 0⟩, 26, 10⟩
abbrev trainCtrl_EXCL (i : Nat) : RField := ⟨⟨.trainCtrl, i, 0, 0⟩, 48, 16⟩
/-! TILE[t].ACQ_TRAIN.MEAN[k] -/
abbrev trainMean_I (i j : Nat) : RField := ⟨⟨.trainMean, i, j, 0⟩, 0, 32⟩
abbrev trainMean_Q (i j : Nat) : RField := ⟨⟨.trainMean, i, j, 0⟩, 32, 32⟩
/-! TILE[t].TRACE.CTRL -/
abbrev traceCtrl_GO (i : Nat) : RField := ⟨⟨.traceCtrl, i, 0, 0⟩, 0, 1⟩
abbrev traceCtrl_BUSY (i : Nat) : RField := ⟨⟨.traceCtrl, i, 0, 0⟩, 1, 1⟩
abbrev traceCtrl_DONE (i : Nat) : RField := ⟨⟨.traceCtrl, i, 0, 0⟩, 2, 1⟩
abbrev traceCtrl_CORR_CHG (i : Nat) : RField := ⟨⟨.traceCtrl, i, 0, 0⟩, 3, 1⟩
abbrev traceCtrl_TRIG (i : Nat) : RField := ⟨⟨.traceCtrl, i, 0, 0⟩, 4, 2⟩
abbrev traceCtrl_CORR (i : Nat) : RField := ⟨⟨.traceCtrl, i, 0, 0⟩, 6, 1⟩
abbrev traceCtrl_TRIG_CH (i : Nat) : RField := ⟨⟨.traceCtrl, i, 0, 0⟩, 8, 5⟩
abbrev traceCtrl_SEAM_CH (i : Nat) : RField := ⟨⟨.traceCtrl, i, 0, 0⟩, 16, 8⟩
abbrev traceCtrl_PRE (i : Nat) : RField := ⟨⟨.traceCtrl, i, 0, 0⟩, 24, 7⟩
abbrev traceCtrl_GO_IGN (i : Nat) : RField := ⟨⟨.traceCtrl, i, 0, 0⟩, 32, 16⟩
/-! TILE[t].TRACE.T0 -/
abbrev traceT0_VALUE (i : Nat) : RField := ⟨⟨.traceT0, i, 0, 0⟩, 0, 64⟩
/-! TILE[t] kernel window channel c taps 2i, 2i+1 -/
abbrev kernel_I0 (i j k : Nat) : RField := ⟨⟨.kernel, i, j, k⟩, 0, 16⟩
abbrev kernel_Q0 (i j k : Nat) : RField := ⟨⟨.kernel, i, j, k⟩, 16, 16⟩
abbrev kernel_I1 (i j k : Nat) : RField := ⟨⟨.kernel, i, j, k⟩, 32, 16⟩
abbrev kernel_Q1 (i j k : Nat) : RField := ⟨⟨.kernel, i, j, k⟩, 48, 16⟩
/-! TILE[t].FLX[k].CTRL -/
abbrev fluxCtrl_ENABLE (i j : Nat) : RField := ⟨⟨.fluxCtrl, i, j, 0⟩, 0, 1⟩
abbrev fluxCtrl_COMMIT (i j : Nat) : RField := ⟨⟨.fluxCtrl, i, j, 0⟩, 1, 1⟩
abbrev fluxCtrl_PEND (i j : Nat) : RField := ⟨⟨.fluxCtrl, i, j, 0⟩, 2, 1⟩
abbrev fluxCtrl_CLIPPED (i j : Nat) : RField := ⟨⟨.fluxCtrl, i, j, 0⟩, 3, 1⟩
abbrev fluxCtrl_BANK_SEQ (i j : Nat) : RField := ⟨⟨.fluxCtrl, i, j, 0⟩, 16, 16⟩
/-! TILE[t].FLX[k].CHAIN -/
abbrev fluxChain_SEC_EN (i j : Nat) : RField := ⟨⟨.fluxChain, i, j, 0⟩, 0, 4⟩
abbrev fluxChain_SEC_MODE (i j : Nat) : RField := ⟨⟨.fluxChain, i, j, 0⟩, 4, 4⟩
abbrev fluxChain_FIR_EN (i j : Nat) : RField := ⟨⟨.fluxChain, i, j, 0⟩, 8, 1⟩
abbrev fluxChain_GAIN (i j : Nat) : RField := ⟨⟨.fluxChain, i, j, 0⟩, 16, 16⟩
abbrev fluxChain_OFFSET (i j : Nat) : RField := ⟨⟨.fluxChain, i, j, 0⟩, 32, 16⟩
/-! TILE[t].FLX[k].SEC[i] -/
abbrev fluxSec_ALPHA (i j k : Nat) : RField := ⟨⟨.fluxSec, i, j, k⟩, 0, 32⟩
abbrev fluxSec_BETA (i j k : Nat) : RField := ⟨⟨.fluxSec, i, j, k⟩, 32, 32⟩
/-! TILE[t].FLX[k].LVL -/
abbrev fluxLvl_LVL (i j : Nat) : RField := ⟨⟨.fluxLvl, i, j, 0⟩, 0, 16⟩
/-! TILE[t].FLX[k].CLIP -/
abbrev fluxClip_COUNT (i j : Nat) : RField := ⟨⟨.fluxClip, i, j, 0⟩, 0, 48⟩
abbrev fluxClip_CLR (i j : Nat) : RField := ⟨⟨.fluxClip, i, j, 0⟩, 63, 1⟩
/-! TILE[t].FLX[k].ISAT -/
abbrev fluxIsat_COUNT (i j : Nat) : RField := ⟨⟨.fluxIsat, i, j, 0⟩, 0, 32⟩
abbrev fluxIsat_CLR (i j : Nat) : RField := ⟨⟨.fluxIsat, i, j, 0⟩, 63, 1⟩
/-! TILE[t].FLX[k] FIR word w -/
abbrev fluxFir_TAP0 (i j k : Nat) : RField := ⟨⟨.fluxFir, i, j, k⟩, 0, 16⟩
abbrev fluxFir_TAP1 (i j k : Nat) : RField := ⟨⟨.fluxFir, i, j, k⟩, 16, 16⟩
abbrev fluxFir_TAP2 (i j k : Nat) : RField := ⟨⟨.fluxFir, i, j, k⟩, 32, 16⟩
abbrev fluxFir_TAP3 (i j k : Nat) : RField := ⟨⟨.fluxFir, i, j, k⟩, 48, 16⟩
/-! TILE[t].FLX_FIT.CTRL -/
abbrev fitCtrl_START (i : Nat) : RField := ⟨⟨.fitCtrl, i, 0, 0⟩, 0, 1⟩
abbrev fitCtrl_ABORT (i : Nat) : RField := ⟨⟨.fitCtrl, i, 0, 0⟩, 1, 1⟩
abbrev fitCtrl_BUSY (i : Nat) : RField := ⟨⟨.fitCtrl, i, 0, 0⟩, 2, 1⟩
abbrev fitCtrl_DONE (i : Nat) : RField := ⟨⟨.fitCtrl, i, 0, 0⟩, 3, 1⟩
abbrev fitCtrl_ERR (i : Nat) : RField := ⟨⟨.fitCtrl, i, 0, 0⟩, 4, 1⟩
abbrev fitCtrl_CH (i : Nat) : RField := ⟨⟨.fitCtrl, i, 0, 0⟩, 8, 4⟩
abbrev fitCtrl_DCH (i : Nat) : RField := ⟨⟨.fitCtrl, i, 0, 0⟩, 16, 5⟩
abbrev fitCtrl_NPTS (i : Nat) : RField := ⟨⟨.fitCtrl, i, 0, 0⟩, 24, 8⟩
abbrev fitCtrl_LOG2N (i : Nat) : RField := ⟨⟨.fitCtrl, i, 0, 0⟩, 32, 4⟩
abbrev fitCtrl_NSEC (i : Nat) : RField := ⟨⟨.fitCtrl, i, 0, 0⟩, 36, 3⟩
abbrev fitCtrl_FIR_FIT (i : Nat) : RField := ⟨⟨.fitCtrl, i, 0, 0⟩, 39, 1⟩
abbrev fitCtrl_EXCL (i : Nat) : RField := ⟨⟨.fitCtrl, i, 0, 0⟩, 48, 16⟩
/-! TILE[t].FLX_FIT.RESID -/
abbrev fitResid_VALUE (i : Nat) : RField := ⟨⟨.fitResid, i, 0, 0⟩, 0, 32⟩
/-! TILE[t].FLX_FIT.DELAY points 2i, 2i+1 -/
abbrev fitDelay_D0 (i j : Nat) : RField := ⟨⟨.fitDelay, i, j, 0⟩, 0, 32⟩
abbrev fitDelay_D1 (i j : Nat) : RField := ⟨⟨.fitDelay, i, j, 0⟩, 32, 32⟩
/-! TILE[t].BIND[k] -/
abbrev bind_DRIVE (i j : Nat) : RField := ⟨⟨.bind, i, j, 0⟩, 0, 5⟩
abbrev bind_PROBE (i j : Nat) : RField := ⟨⟨.bind, i, j, 0⟩, 8, 5⟩
abbrev bind_DEMOD (i j : Nat) : RField := ⟨⟨.bind, i, j, 0⟩, 16, 5⟩
abbrev bind_BIAS (i j : Nat) : RField := ⟨⟨.bind, i, j, 0⟩, 24, 5⟩
abbrev bind_FLUX (i j : Nat) : RField := ⟨⟨.bind, i, j, 0⟩, 32, 4⟩
abbrev bind_FLUX_EN (i j : Nat) : RField := ⟨⟨.bind, i, j, 0⟩, 36, 1⟩
/-! TILE[t].RQ +0x00 -/
abbrev rqCfg_DELIVER (i : Nat) : RField := ⟨⟨.rqCfg, i, 0, 0⟩, 0, 1⟩
abbrev rqCfg_RING (i : Nat) : RField := ⟨⟨.rqCfg, i, 0, 0⟩, 1, 6⟩
/-! TILE[t].RQ +0x08 -/
abbrev rqStatus_WP (i : Nat) : RField := ⟨⟨.rqStatus, i, 0, 0⟩, 0, 13⟩
abbrev rqStatus_RP (i : Nat) : RField := ⟨⟨.rqStatus, i, 0, 0⟩, 16, 13⟩
abbrev rqStatus_UNDERRUN (i : Nat) : RField := ⟨⟨.rqStatus, i, 0, 0⟩, 32, 1⟩
abbrev rqStatus_POISON (i : Nat) : RField := ⟨⟨.rqStatus, i, 0, 0⟩, 33, 1⟩
abbrev rqStatus_HOLD_USED (i : Nat) : RField := ⟨⟨.rqStatus, i, 0, 0⟩, 36, 12⟩
/-! TILE[t].RQ +0x10 -/
abbrev rqCounts_TRUNC (i : Nat) : RField := ⟨⟨.rqCounts, i, 0, 0⟩, 0, 16⟩
abbrev rqCounts_SPILLS (i : Nat) : RField := ⟨⟨.rqCounts, i, 0, 0⟩, 16, 16⟩
abbrev rqCounts_HOLD_LOST (i : Nat) : RField := ⟨⟨.rqCounts, i, 0, 0⟩, 32, 16⟩
abbrev rqCounts_POISONED (i : Nat) : RField := ⟨⟨.rqCounts, i, 0, 0⟩, 48, 15⟩
abbrev rqCounts_CLR (i : Nat) : RField := ⟨⟨.rqCounts, i, 0, 0⟩, 63, 1⟩
/-! TILE[t].RQ +0x18 -/
abbrev rqData_DATA (i : Nat) : RField := ⟨⟨.rqData, i, 0, 0⟩, 0, 64⟩
/-! TILE[t].RQ +0x20 -/
abbrev rqCtrl_RESET (i : Nat) : RField := ⟨⟨.rqCtrl, i, 0, 0⟩, 0, 1⟩
/-! BDIE[d].CTRL -/
abbrev bdieCtrl_TRACK_PERIOD (i : Nat) : RField := ⟨⟨.bdieCtrl, i, 0, 0⟩, 8, 8⟩
/-! BDIE[d].STATUS -/
abbrev bdieStatus_READY (i : Nat) : RField := ⟨⟨.bdieStatus, i, 0, 0⟩, 0, 1⟩
abbrev bdieStatus_PARK_DEFAULT (i : Nat) : RField := ⟨⟨.bdieStatus, i, 0, 0⟩, 1, 1⟩
abbrev bdieStatus_CLR_ACTIVE (i : Nat) : RField := ⟨⟨.bdieStatus, i, 0, 0⟩, 2, 1⟩
abbrev bdieStatus_PARK_ORDER (i : Nat) : RField := ⟨⟨.bdieStatus, i, 0, 0⟩, 3, 1⟩
abbrev bdieStatus_DORMANT_HOLD (i : Nat) : RField := ⟨⟨.bdieStatus, i, 0, 0⟩, 4, 1⟩
abbrev bdieStatus_REFUSED (i : Nat) : RField := ⟨⟨.bdieStatus, i, 0, 0⟩, 16, 16⟩
abbrev bdieStatus_OPEN_COUNT (i : Nat) : RField := ⟨⟨.bdieStatus, i, 0, 0⟩, 32, 8⟩
/-! BDIE[d].APPLY -/
abbrev bdieApply_APPLY (i : Nat) : RField := ⟨⟨.bdieApply, i, 0, 0⟩, 0, 1⟩
/-! BDIE[d].OUT[b].CFG -/
abbrev biasCfg_RANGE (i j : Nat) : RField := ⟨⟨.biasCfg, i, j, 0⟩, 0, 2⟩
abbrev biasCfg_DGL_EN (i j : Nat) : RField := ⟨⟨.biasCfg, i, j, 0⟩, 2, 1⟩
abbrev biasCfg_SYNC (i j : Nat) : RField := ⟨⟨.biasCfg, i, j, 0⟩, 3, 1⟩
abbrev biasCfg_SLEW (i j : Nat) : RField := ⟨⟨.biasCfg, i, j, 0⟩, 32, 32⟩
/-! BDIE[d].OUT[b].CODE -/
abbrev biasCode_CODE (i j : Nat) : RField := ⟨⟨.biasCode, i, j, 0⟩, 0, 20⟩
abbrev biasCode_TRIM (i j : Nat) : RField := ⟨⟨.biasCode, i, j, 0⟩, 32, 13⟩
/-! BDIE[d].OUT[b].PARK -/
abbrev biasPark_PARK_CODE (i j : Nat) : RField := ⟨⟨.biasPark, i, j, 0⟩, 0, 20⟩
abbrev biasPark_PARK_RANGE (i j : Nat) : RField := ⟨⟨.biasPark, i, j, 0⟩, 20, 2⟩
abbrev biasPark_PARK_SLEW (i j : Nat) : RField := ⟨⟨.biasPark, i, j, 0⟩, 32, 32⟩
/-! BDIE[d].OUT[b].STATUS -/
abbrev biasStatus_DAC (i j : Nat) : RField := ⟨⟨.biasStatus, i, j, 0⟩, 0, 20⟩
abbrev biasStatus_CUR_RANGE (i j : Nat) : RField := ⟨⟨.biasStatus, i, j, 0⟩, 20, 2⟩
abbrev biasStatus_SLEWING (i j : Nat) : RField := ⟨⟨.biasStatus, i, j, 0⟩, 22, 1⟩
abbrev biasStatus_RANGING (i j : Nat) : RField := ⟨⟨.biasStatus, i, j, 0⟩, 23, 1⟩
abbrev biasStatus_PARKED (i j : Nat) : RField := ⟨⟨.biasStatus, i, j, 0⟩, 24, 1⟩
abbrev biasStatus_COMPL (i j : Nat) : RField := ⟨⟨.biasStatus, i, j, 0⟩, 25, 1⟩
abbrev biasStatus_OPEN (i j : Nat) : RField := ⟨⟨.biasStatus, i, j, 0⟩, 26, 1⟩
abbrev biasStatus_CLIM (i j : Nat) : RField := ⟨⟨.biasStatus, i, j, 0⟩, 27, 1⟩
abbrev biasStatus_CONNECTED (i j : Nat) : RField := ⟨⟨.biasStatus, i, j, 0⟩, 28, 1⟩
abbrev biasStatus_STAGED (i j : Nat) : RField := ⟨⟨.biasStatus, i, j, 0⟩, 29, 1⟩
abbrev biasStatus_TRIM_LIM (i j : Nat) : RField := ⟨⟨.biasStatus, i, j, 0⟩, 30, 1⟩
abbrev biasStatus_HOLDS (i j : Nat) : RField := ⟨⟨.biasStatus, i, j, 0⟩, 32, 16⟩
/-! BDIE[d].MON.CTRL -/
abbrev monCtrl_EN (i : Nat) : RField := ⟨⟨.monCtrl, i, 0, 0⟩, 0, 1⟩
abbrev monCtrl_START (i : Nat) : RField := ⟨⟨.monCtrl, i, 0, 0⟩, 1, 1⟩
abbrev monCtrl_TRIG (i : Nat) : RField := ⟨⟨.monCtrl, i, 0, 0⟩, 2, 2⟩
abbrev monCtrl_BUSY (i : Nat) : RField := ⟨⟨.monCtrl, i, 0, 0⟩, 4, 1⟩
abbrev monCtrl_DONE (i : Nat) : RField := ⟨⟨.monCtrl, i, 0, 0⟩, 5, 1⟩
abbrev monCtrl_LAST (i : Nat) : RField := ⟨⟨.monCtrl, i, 0, 0⟩, 8, 6⟩
abbrev monCtrl_PERIOD (i : Nat) : RField := ⟨⟨.monCtrl, i, 0, 0⟩, 16, 16⟩
abbrev monCtrl_DELAY (i : Nat) : RField := ⟨⟨.monCtrl, i, 0, 0⟩, 32, 16⟩
/-! BDIE[d].MON.STATUS -/
abbrev monStatus_RUNS (i : Nat) : RField := ⟨⟨.monStatus, i, 0, 0⟩, 0, 16⟩
abbrev monStatus_MISSED (i : Nat) : RField := ⟨⟨.monStatus, i, 0, 0⟩, 16, 16⟩
abbrev monStatus_LIMIT_HITS (i : Nat) : RField := ⟨⟨.monStatus, i, 0, 0⟩, 32, 16⟩
abbrev monStatus_CLR (i : Nat) : RField := ⟨⟨.monStatus, i, 0, 0⟩, 63, 1⟩
/-! BDIE[d].MON.URGENT -/
abbrev monUrgent_INPUT (i : Nat) : RField := ⟨⟨.monUrgent, i, 0, 0⟩, 0, 8⟩
abbrev monUrgent_AVG (i : Nat) : RField := ⟨⟨.monUrgent, i, 0, 0⟩, 8, 3⟩
abbrev monUrgent_GO (i : Nat) : RField := ⟨⟨.monUrgent, i, 0, 0⟩, 12, 1⟩
abbrev monUrgent_URG_DONE (i : Nat) : RField := ⟨⟨.monUrgent, i, 0, 0⟩, 13, 1⟩
abbrev monUrgent_URG_REFUSED (i : Nat) : RField := ⟨⟨.monUrgent, i, 0, 0⟩, 14, 1⟩
/-! BDIE[d].MON.URG_RESULT -/
abbrev monUrgResult_CODE (i : Nat) : RField := ⟨⟨.monUrgResult, i, 0, 0⟩, 0, 16⟩
abbrev monUrgResult_OVR (i : Nat) : RField := ⟨⟨.monUrgResult, i, 0, 0⟩, 16, 1⟩
abbrev monUrgResult_LIMIT (i : Nat) : RField := ⟨⟨.monUrgResult, i, 0, 0⟩, 17, 1⟩
abbrev monUrgResult_RANGE (i : Nat) : RField := ⟨⟨.monUrgResult, i, 0, 0⟩, 18, 2⟩
abbrev monUrgResult_INPUT (i : Nat) : RField := ⟨⟨.monUrgResult, i, 0, 0⟩, 20, 8⟩
abbrev monUrgResult_RUN (i : Nat) : RField := ⟨⟨.monUrgResult, i, 0, 0⟩, 32, 16⟩
/-! BDIE[d].MON.STEP[s] word 0 -/
abbrev monStep0_INPUT (i j : Nat) : RField := ⟨⟨.monStep0, i, j, 0⟩, 0, 8⟩
abbrev monStep0_AVG (i j : Nat) : RField := ⟨⟨.monStep0, i, j, 0⟩, 8, 3⟩
abbrev monStep0_LIM_EN (i j : Nat) : RField := ⟨⟨.monStep0, i, j, 0⟩, 11, 1⟩
abbrev monStep0_SETTLE (i j : Nat) : RField := ⟨⟨.monStep0, i, j, 0⟩, 12, 4⟩
/-! BDIE[d].MON.STEP[s] word 1 -/
abbrev monStep1_LO (i j : Nat) : RField := ⟨⟨.monStep1, i, j, 0⟩, 0, 16⟩
abbrev monStep1_HI (i j : Nat) : RField := ⟨⟨.monStep1, i, j, 0⟩, 16, 16⟩
/-! BDIE[d].MON.RESULT[s] -/
abbrev monResult_CODE (i j : Nat) : RField := ⟨⟨.monResult, i, j, 0⟩, 0, 16⟩
abbrev monResult_OVR (i j : Nat) : RField := ⟨⟨.monResult, i, j, 0⟩, 16, 1⟩
abbrev monResult_LIMIT (i j : Nat) : RField := ⟨⟨.monResult, i, j, 0⟩, 17, 1⟩
abbrev monResult_RANGE (i j : Nat) : RField := ⟨⟨.monResult, i, j, 0⟩, 18, 2⟩
abbrev monResult_INPUT (i j : Nat) : RField := ⟨⟨.monResult, i, j, 0⟩, 20, 8⟩
abbrev monResult_RUN (i j : Nat) : RField := ⟨⟨.monResult, i, j, 0⟩, 32, 16⟩
/-! pattern directory entry p word 0 -/
abbrev dirWord0_TILE (i : Nat) : RField := ⟨⟨.dirWord0, i, 0, 0⟩, 0, 4⟩
abbrev dirWord0_TYPE (i : Nat) : RField := ⟨⟨.dirWord0, i, 0, 0⟩, 4, 2⟩
abbrev dirWord0_MK_EN (i : Nat) : RField := ⟨⟨.dirWord0, i, 0, 0⟩, 8, 1⟩
abbrev dirWord0_MK (i : Nat) : RField := ⟨⟨.dirWord0, i, 0, 0⟩, 9, 5⟩
abbrev dirWord0_FLUX_HOLD (i : Nat) : RField := ⟨⟨.dirWord0, i, 0, 0⟩, 14, 1⟩
abbrev dirWord0_DEFAULT_SCALE (i : Nat) : RField := ⟨⟨.dirWord0, i, 0, 0⟩, 16, 16⟩
abbrev dirWord0_BASE (i : Nat) : RField := ⟨⟨.dirWord0, i, 0, 0⟩, 32, 19⟩
/-! pattern directory entry p word 1 -/
abbrev dirWord1_LENGTH (i : Nat) : RField := ⟨⟨.dirWord1, i, 0, 0⟩, 0, 32⟩
/-! DIR.STATUS -/
abbrev dirStatus_REJ : RField := ⟨⟨.dirStatus, 0, 0, 0⟩, 0, 16⟩
abbrev dirStatus_LAST_REJ : RField := ⟨⟨.dirStatus, 0, 0, 0⟩, 16, 15⟩
abbrev dirStatus_CLR : RField := ⟨⟨.dirStatus, 0, 0, 0⟩, 63, 1⟩
/-! pre-decoder table entry i -/
abbrev pdcTable_MASK (i : Nat) : RField := ⟨⟨.pdcTable, i, 0, 0⟩, 0, 8⟩
abbrev pdcTable_ESC (i : Nat) : RField := ⟨⟨.pdcTable, i, 0, 0⟩, 8, 1⟩
/-! PDC.CFG -/
abbrev pdcCfg_EN : RField := ⟨⟨.pdcCfg, 0, 0, 0⟩, 0, 1⟩
abbrev pdcCfg_REF_PATCH : RField := ⟨⟨.pdcCfg, 0, 0, 0⟩, 1, 6⟩
/-! PDC.STATUS -/
abbrev pdcStatus_CFG_REFUSED : RField := ⟨⟨.pdcStatus, 0, 0, 0⟩, 0, 1⟩
abbrev pdcStatus_ERR : RField := ⟨⟨.pdcStatus, 0, 0, 0⟩, 1, 1⟩
abbrev pdcStatus_ROUND : RField := ⟨⟨.pdcStatus, 0, 0, 0⟩, 32, 32⟩
/-! PDC.COUNTS -/
abbrev pdcCounts_ESCALATED : RField := ⟨⟨.pdcCounts, 0, 0, 0⟩, 0, 16⟩
abbrev pdcCounts_MISSING : RField := ⟨⟨.pdcCounts, 0, 0, 0⟩, 16, 16⟩
abbrev pdcCounts_OVERRUN_HIST : RField := ⟨⟨.pdcCounts, 0, 0, 0⟩, 32, 16⟩
abbrev pdcCounts_DROP_ESC : RField := ⟨⟨.pdcCounts, 0, 0, 0⟩, 48, 15⟩
abbrev pdcCounts_CLR : RField := ⟨⟨.pdcCounts, 0, 0, 0⟩, 63, 1⟩
/-! PDC.ANC[a] -/
abbrev pdcAnc_SLOT (i : Nat) : RField := ⟨⟨.pdcAnc, i, 0, 0⟩, 0, 12⟩
abbrev pdcAnc_BIT (i : Nat) : RField := ⟨⟨.pdcAnc, i, 0, 0⟩, 12, 5⟩
abbrev pdcAnc_DIFF (i : Nat) : RField := ⟨⟨.pdcAnc, i, 0, 0⟩, 17, 1⟩
abbrev pdcAnc_EN (i : Nat) : RField := ⟨⟨.pdcAnc, i, 0, 0⟩, 18, 1⟩
/-! PDC.PATCH[p].CFG -/
abbrev patchCfg_EN (i : Nat) : RField := ⟨⟨.patchCfg, i, 0, 0⟩, 0, 1⟩
abbrev patchCfg_NBITS (i : Nat) : RField := ⟨⟨.patchCfg, i, 0, 0⟩, 4, 4⟩
abbrev patchCfg_BASE (i : Nat) : RField := ⟨⟨.patchCfg, i, 0, 0⟩, 8, 15⟩
abbrev patchCfg_AMB_ESC (i : Nat) : RField := ⟨⟨.patchCfg, i, 0, 0⟩, 23, 1⟩
abbrev patchCfg_ESC_DEST (i : Nat) : RField := ⟨⟨.patchCfg, i, 0, 0⟩, 24, 2⟩
abbrev patchCfg_OWNER_H (i : Nat) : RField := ⟨⟨.patchCfg, i, 0, 0⟩, 28, 3⟩
abbrev patchCfg_OWNER_T (i : Nat) : RField := ⟨⟨.patchCfg, i, 0, 0⟩, 32, 4⟩
abbrev patchCfg_RES_EN (i : Nat) : RField := ⟨⟨.patchCfg, i, 0, 0⟩, 36, 1⟩
abbrev patchCfg_RES_SLOT (i : Nat) : RField := ⟨⟨.patchCfg, i, 0, 0⟩, 40, 12⟩
abbrev patchCfg_NDEV (i : Nat) : RField := ⟨⟨.patchCfg, i, 0, 0⟩, 52, 11⟩
/-! PDC.PATCH[p] input word w -/
abbrev patchIn_ANC0 (i j : Nat) : RField := ⟨⟨.patchIn, i, j, 0⟩, 0, 8⟩
abbrev patchIn_PREV0 (i j : Nat) : RField := ⟨⟨.patchIn, i, j, 0⟩, 8, 1⟩
abbrev patchIn_ANC1 (i j : Nat) : RField := ⟨⟨.patchIn, i, j, 0⟩, 16, 8⟩
abbrev patchIn_PREV1 (i j : Nat) : RField := ⟨⟨.patchIn, i, j, 0⟩, 24, 1⟩
abbrev patchIn_ANC2 (i j : Nat) : RField := ⟨⟨.patchIn, i, j, 0⟩, 32, 8⟩
abbrev patchIn_PREV2 (i j : Nat) : RField := ⟨⟨.patchIn, i, j, 0⟩, 40, 1⟩
abbrev patchIn_ANC3 (i j : Nat) : RField := ⟨⟨.patchIn, i, j, 0⟩, 48, 8⟩
abbrev patchIn_PREV3 (i j : Nat) : RField := ⟨⟨.patchIn, i, j, 0⟩, 56, 1⟩
/-! PDC.PATCH[p] target word w -/
abbrev patchTgt_QUBIT0 (i j : Nat) : RField := ⟨⟨.patchTgt, i, j, 0⟩, 0, 9⟩
abbrev patchTgt_Z0 (i j : Nat) : RField := ⟨⟨.patchTgt, i, j, 0⟩, 9, 1⟩
abbrev patchTgt_EN0 (i j : Nat) : RField := ⟨⟨.patchTgt, i, j, 0⟩, 15, 1⟩
abbrev patchTgt_QUBIT1 (i j : Nat) : RField := ⟨⟨.patchTgt, i, j, 0⟩, 16, 9⟩
abbrev patchTgt_Z1 (i j : Nat) : RField := ⟨⟨.patchTgt, i, j, 0⟩, 25, 1⟩
abbrev patchTgt_EN1 (i j : Nat) : RField := ⟨⟨.patchTgt, i, j, 0⟩, 31, 1⟩
abbrev patchTgt_QUBIT2 (i j : Nat) : RField := ⟨⟨.patchTgt, i, j, 0⟩, 32, 9⟩
abbrev patchTgt_Z2 (i j : Nat) : RField := ⟨⟨.patchTgt, i, j, 0⟩, 41, 1⟩
abbrev patchTgt_EN2 (i j : Nat) : RField := ⟨⟨.patchTgt, i, j, 0⟩, 47, 1⟩
abbrev patchTgt_QUBIT3 (i j : Nat) : RField := ⟨⟨.patchTgt, i, j, 0⟩, 48, 9⟩
abbrev patchTgt_Z3 (i j : Nat) : RField := ⟨⟨.patchTgt, i, j, 0⟩, 57, 1⟩
abbrev patchTgt_EN3 (i j : Nat) : RField := ⟨⟨.patchTgt, i, j, 0⟩, 63, 1⟩
/-! PDC.PATCH[p].ROUND -/
abbrev patchRound_ROUND (i : Nat) : RField := ⟨⟨.patchRound, i, 0, 0⟩, 0, 32⟩
/-! PDC.RXMAP[i] -/
abbrev rxMap_DEV (i : Nat) : RField := ⟨⟨.rxMap, i, 0, 0⟩, 0, 11⟩
abbrev rxMap_PATCH (i : Nat) : RField := ⟨⟨.rxMap, i, 0, 0⟩, 16, 6⟩
abbrev rxMap_SLOT (i : Nat) : RField := ⟨⟨.rxMap, i, 0, 0⟩, 24, 12⟩
abbrev rxMap_EN (i : Nat) : RField := ⟨⟨.rxMap, i, 0, 0⟩, 36, 1⟩
/-! DEC.SRC[t][c] -/
abbrev decSrc_SLOT (i j : Nat) : RField := ⟨⟨.decSrc, i, j, 0⟩, 0, 12⟩
abbrev decSrc_EN (i j : Nat) : RField := ⟨⟨.decSrc, i, j, 0⟩, 12, 1⟩
abbrev decSrc_PACK (i j : Nat) : RField := ⟨⟨.decSrc, i, j, 0⟩, 13, 1⟩
abbrev decSrc_POS (i j : Nat) : RField := ⟨⟨.decSrc, i, j, 0⟩, 14, 5⟩
abbrev decSrc_ADJ (i j : Nat) : RField := ⟨⟨.decSrc, i, j, 0⟩, 19, 1⟩
/-! DEC.SLOT[s] -/
abbrev decSlot_FQ (i : Nat) : RField := ⟨⟨.decSlot, i, 0, 0⟩, 0, 9⟩
abbrev decSlot_FQ_EN (i : Nat) : RField := ⟨⟨.decSlot, i, 0, 0⟩, 9, 1⟩
abbrev decSlot_EV (i : Nat) : RField := ⟨⟨.decSlot, i, 0, 0⟩, 10, 1⟩
/-! DEC.TACK[n] -/
abbrev decTack_SLOT (i : Nat) : RField := ⟨⟨.decTack, i, 0, 0⟩, 0, 12⟩
abbrev decTack_EN (i : Nat) : RField := ⟨⟨.decTack, i, 0, 0⟩, 12, 1⟩
/-! FRAME.BASIS[i] -/
abbrev frameBasis_BASIS (i : Nat) : RField := ⟨⟨.frameBasis, i, 0, 0⟩, 0, 64⟩
/-! DEC.CFG -/
abbrev decCfg_FRAME_RPT : RField := ⟨⟨.decCfg, 0, 0, 0⟩, 0, 16⟩
/-! DEC.CLEAR -/
abbrev decClear_FIRST : RField := ⟨⟨.decClear, 0, 0, 0⟩, 0, 12⟩
abbrev decClear_LAST : RField := ⟨⟨.decClear, 0, 0, 0⟩, 16, 12⟩
/-! DEC.COUNTS -/
abbrev decCounts_COLLIDE : RField := ⟨⟨.decCounts, 0, 0, 0⟩, 0, 16⟩
abbrev decCounts_ABSENT_RX : RField := ⟨⟨.decCounts, 0, 0, 0⟩, 16, 16⟩
abbrev decCounts_LOST_RX : RField := ⟨⟨.decCounts, 0, 0, 0⟩, 32, 16⟩
abbrev decCounts_CLR : RField := ⟨⟨.decCounts, 0, 0, 0⟩, 63, 1⟩
/-! DEC.WORD[s] -/
abbrev decWord_WORD (i : Nat) : RField := ⟨⟨.decWord, i, 0, 0⟩, 0, 64⟩

end Sys2Proof.Machine.Fld
end

