-- ==== Sys2Proof/Machine/Needle.lean ====
section
/-! DEFINITION. Plain-data types of the needles: threads, timed commands, waits, launches,
shot scopes (03_threads, 12_integrity). -/

namespace Sys2Proof.Machine

/-- A thread of the device: tile 0-15 and thread 0-7 (R1). -/
structure Thr where
  tile : Nat
  idx : Nat
  deriving DecidableEq, Repr

/-- The states of R70. -/
inductive ThState
  | idle | starting | running | waiting | full | held | draining | rewinding | faulted
  deriving DecidableEq, Repr

/-- What a timed command does at its stamp (R76 formats TP, TV, TA, TK, TE). -/
inductive TimedKind
  /-- `play`; no scale means the pattern's default scale (R79). -/
  | play (tgt : BitVec 8) (pat : Nat) (scale : Option (BitVec 16))
  | jseg (tgt : BitVec 8) (pat : Nat) (scale : Option (BitVec 16))
  | stage (tgt : BitVec 8) (pat : Nat)
  | setf (tgt : BitVec 8) (v : BitVec 48)
  | setp (tgt : BitVec 8) (v : BitVec 32)
  | vz (tgt : BitVec 8) (v : BitVec 48)
  | flux (k : Nat) (level : BitVec 16)
  | acq (mask : BitVec 24) (len : Nat)
  | mark (act : BitVec 2) (mk : Nat) (width : Nat)
  | emit (ev : Nat)
  deriving DecidableEq, Repr

/-- An entry of a timed queue (R65): the command, its stamp, the device tick at which it was
issued, and the shot whose scope it was issued in. -/
structure TimedCmd where
  kind : TimedKind
  stamp : Word
  fine : BitVec 4
  issued : Nat
  shot : Option Nat
  deriving DecidableEq, Repr

/-- A playback target after its qubit-slot binding is resolved (R78): tone k of channel c of a
tile (c = 3 is the probe channel), or a flux channel. -/
inductive Tgt
  | tone (t c k : Nat)
  | flux (t k : Nat)
  deriving DecidableEq, Repr

/-- Whether the target is a flux channel. -/
def Tgt.isFlux : Tgt → Bool
  | .flux .. => true
  | .tone .. => false

/-- The tile of a target. -/
def Tgt.tile : Tgt → Nat
  | .flux t _ => t
  | .tone t _ _ => t

/-- The instant at which a stamp takes effect on a target: flux samples lie at multiples of 8 fine
steps (08 R251). -/
def Tgt.instant (g : Tgt) (n : Nat) : Nat := if g.isFlux then (n + 7) / 8 * 8 else n

/-- One sample period of a target in fine steps. -/
def Tgt.period (g : Tgt) : Nat := if g.isFlux then 8 else 16

/-- What a dispatched play will play: the directory entry as read at dispatch (R109, R111), the
scale (R79), and for a bobbin entry its bobbin. -/
structure PlayBody where
  pat : Nat
  typ : Nat
  base : Nat
  len : Nat
  scale : BitVec 16
  mkEn : Bool
  marker : Nat
  fluxHold : Bool
  bob : Option Nat
  deriving DecidableEq, Repr

/-- A pattern playing on a target (R119).  Instants are counted in fine steps from device tick 0;
`ramp` is the instant from which the envelope ramps to zero (R135, R346). -/
structure Playing where
  tgt : Tgt
  body : PlayBody
  thr : Thr
  shot : Option Nat
  start : Nat
  last : Nat
  ramp : Option Nat := none
  deriving DecidableEq, Repr

/-- The envelope samples read for a play, each at its read tick (R107, R114): how many, and the last 64 of
them, newest first. -/
structure Fetched where
  n : Nat := 0
  recent : List (BitVec 32) := []
  /-- the instant from which the envelope ramps to zero, found before the play starts (R135, R136) -/
  ramp : Option Nat := none
  deriving DecidableEq, Repr

/-- Sample n, while it is kept. -/
def Fetched.at (f : Fetched) (n : Nat) : Option (BitVec 32) :=
  if n < f.n then f.recent[f.n - 1 - n]? else none

/-- One more sample. -/
def Fetched.push (f : Fetched) (w : BitVec 32) : Fetched :=
  { f with n := f.n + 1, recent := (w :: f.recent).take 64 }

/-- What a dispatched command does when its instant comes (R64). A play of nothing stops the
target all the same (R112). -/
inductive ActKind
  | play (tgt : Tgt) (body : Option PlayBody)
  /-- a pending join (R122, R123) -/
  | join (tgt : Tgt) (body : Option PlayBody)
  | stageFill (tgt : Tgt) (pat : Nat) (w0 w1 : Word)
  | setf (t c k : Nat) (v : BitVec 48)
  | setp (t c k : Nat) (v : BitVec 32)
  | vz (t c k : Nat) (v : BitVec 48)
  | flux (t k : Nat) (level : BitVec 16)
  | mark (act : BitVec 2) (mk width : Nat)
  | emit (ev : Nat)
  deriving DecidableEq, Repr

/-- A dispatched command whose effect has not come (R64, R416): its thread, the shot of its scope,
the forest time of its stamp, and the instant of its effect in fine steps of device time. -/
structure Act where
  thr : Thr
  shot : Option Nat
  stamp : Word
  at_ : Nat
  kind : ActKind
  deriving DecidableEq, Repr

/-- What a pattern start plays, and where. -/
def Act.pattern (a : Act) : Option (Tgt × Option PlayBody) :=
  match a.kind with
  | .play g b | .join g b => some (g, b)
  | _ => none

/-- Whether an act is a pending join. -/
def Act.isJoin (a : Act) : Bool :=
  match a.kind with
  | .join .. => true
  | _ => false

/-- Whether an act changes what a flux channel plays: those happen with the samples of their tick,
after the commands that land in it (08 R252). -/
def Act.isFlux (a : Act) : Bool :=
  match a.kind with
  | .play (.flux ..) _ | .join (.flux ..) _ | .flux .. => true
  | _ => false

/-- Whether an act changes a tone register: those happen at their DAC sample, after the register writes that
land in the tick, over which they stand (04 R115). -/
def Act.isTone (a : Act) : Bool :=
  match a.kind with
  | .setf .. | .setp .. | .vz .. => true
  | _ => false

/-- A filled or filling staging buffer (R121). -/
structure Staged where
  tgt : Tgt
  pat : Nat
  w0 : Word
  w1 : Word
  samples : List (BitVec 32)
  filled : Nat
  deriving DecidableEq, Repr

/-- A marker pulse or span in progress or scheduled, in fine steps of device time (R128). -/
structure MarkPulse where
  tile : Nat
  marker : Nat
  from_ : Nat
  until_ : Nat
  /-- for a span: the target of the play whose end ends it -/
  span : Option Tgt
  /-- the pattern start it belongs to: target and instant -/
  play : Option (Tgt × Nat) := none
  /-- POST and DELAY as scheduled, in fine steps -/
  tail : Nat := 0
  /-- EXT as scheduled, and the shot of the pattern start (R130) -/
  ext : Bool := false
  shot : Option Nat := none
  deriving DecidableEq, Repr

/-- A change of LEVEL that has been scheduled: its marker, whether it sets, its instant, its thread (R128,
R129). -/
structure MarkEdge where
  marker : Nat
  on : Bool
  at_ : Nat
  thr : Thr
  deriving DecidableEq, Repr

/-- The markers (R129): LEVEL of each as it stands at the start of a tick, the changes of it on their way, and
the pins at the end of the last tick. -/
structure MarkRun where
  level : BitVec 32 := 0
  edges : List MarkEdge := []
  pins : BitVec 32 := 0
  deriving DecidableEq, Repr

/-- The play that reads a bobbin (R132): its target, the instant of its sample 0, its length, the
next sample to read, and whether it has run dry or overrun. -/
structure BobReader where
  tgt : Tgt
  start : Nat
  len : Nat
  n : Nat
  thr : Thr
  shot : Option Nat
  dry : Bool
  deriving DecidableEq, Repr

/-- Data a bobbin holds beside its registers (R132-R138): positions requested, the captured loop
mark and end, whether a loop write is pending, and the play that reads it. -/
structure BobRun where
  requested : Nat := 0
  /-- device tick since which a refill request waits to be issued (11 R338) -/
  since : Option Nat := none
  mark : Nat := 0
  end_ : Nat := 0
  loopPending : Bool := false
  reader : Option BobReader := none
  deriving DecidableEq, Repr

/-- One trigger input (R81): the device tick since which it is armed, a counted trigger held
pending, and the latch; the last two hold the arrival tick. -/
structure TrigInput where
  armed : Option Nat := none
  pending : Option Word := none
  latch : Option Word := none
  deriving DecidableEq, Repr

/-- What a thread does when its barrier wait ends (R85, R91, R93). -/
inductive BarPurpose
  | wbar | shotBegin | shotEnd
  deriving DecidableEq, Repr

/-- The condition of a wait (R80-R86). -/
inductive WaitCond
  | trig (n : Nat)
  /-- `wdec`: destination register, slot, frame adjustment, reference tick. -/
  | dec (rd : BitVec 5) (slot : Nat) (f : Bool) (ref : Word)
  /-- barrier, the generation it waits for, whether the thread is a participant, what follows. -/
  | bar (b : Nat) (gen : Nat) (part : Bool) (why : BarPurpose)
  | ptp (ns : Word)
  | queue
  deriving DecidableEq, Repr

/-- A wait in progress: its condition, its timeout in forest time, and, once decided, the device
tick at which the thread issues again (R77). -/
structure Wait where
  cond : WaitCond
  timeout : Option Word
  wake : Option Nat := none
  deriving DecidableEq, Repr

/-- Why issue is held at a `shot.begin` (R24, R91, R96). -/
inductive HoldReason
  /-- the previous shot has not committed -/
  | commit
  /-- a throttling pause is pending or running -/
  | pause
  /-- a request to leave Active is pending -/
  | leave
  deriving DecidableEq, Repr

/-- The operands of a `shot.begin` (R89). -/
structure ShotArgs where
  rep : Bool
  joint : Bool
  blk : Bool
  bar : Nat
  reset : BitVec 32
  deriving DecidableEq, Repr

/-- Where a descriptor came from, and what its completion returns (R317, R325). -/
structure DescRef where
  ring : Nat
  index : Nat
  tag : BitVec 32
  cpl : Bool
  inl : Bool
  opcode : Nat
  deriving DecidableEq, Repr

/-- The start modes of R97. -/
inductive StartMode
  | now
  | at (t : Word)
  | trig (n : Nat)
  | ptp (ns : Word)
  deriving DecidableEq, Repr

/-- A launch (R97, R322). -/
structure Launch where
  desc : DescRef
  /-- index in the image's entry table -/
  entry : Nat
  mode : StartMode
  args : List Word
  deriving DecidableEq, Repr

/-- The checkpoint of a thread (R92). -/
structure Checkpoint where
  g : Vector Word 32
  pc : Nat
  tc : Word
  tcf : BitVec 4
  wt : Word
  ws : BitVec 2
  lc : Vector (BitVec 32) 4
  stack : List (BitVec 17)
  trigs : List TrigInput
  barGen : List (Nat × Nat)
  deriving DecidableEq, Repr

/-- A thread waiting out a rewind (R94, R346): the device tick at which it resumes, and the
address of the reset block it runs first, if any. -/
structure Rewind where
  resume : Nat
  block : Option (BitVec 17)
  beginPc : Nat
  deriving DecidableEq, Repr

/-- A PARAM descriptor held for a thread (R319). -/
structure HeldParam where
  desc : DescRef
  domain : Nat
  secure : Bool
  writes : List (Nat × Word)
  deriving DecidableEq, Repr

/-- The function modes in force for a thread, taken at its shot boundaries (R30). -/
structure Modes where
  /-- DISC_RAW of the thread's tile -/
  rdoRaw : Bool := false
  /-- FRAME_RPT of the thread's tile -/
  frameRpt : Bool := false
  /-- shot replay: host-assisted -/
  replayHost : Bool := false
  /-- CORR_HOST of the thread's tile -/
  corrHost : Bool := false
  /-- MODE_KERNEL of the thread's tile -/
  kernHost : BitVec 24 := 0
  /-- FIT_HOST of the thread's tile -/
  fitHost : Bool := false
  deriving DecidableEq, Repr

/-- Everything a thread holds (R65-R102). -/
structure Thread where
  st : ThState := .idle
  g : Vector Word 32 := Vector.replicate 32 0
  pc : Nat := 0
  tc : Word := 0
  tcf : BitVec 4 := 0
  wt : Word := 0
  ws : BitVec 2 := 0
  lc : Vector (BitVec 32) 4 := Vector.replicate 4 0
  stack : List (BitVec 17) := []
  launchTag : BitVec 32 := 0
  launch : Option Launch := none
  startedFt : Word := 0
  displaced : Bool := false
  recordsLost : Nat := 0
  launchReplays : Nat := 0
  queue : List TimedCmd := []
  lastDispatch : Word := 0
  dispTick : Nat := 0
  dispCount : Nat := 0
  lq : List Launch := []
  readyAt : Nat := 0
  prio : Nat := 0
  wait : Option Wait := none
  hold : Option HoldReason := none
  /-- the `shot.begin` held or waiting, to be completed when its hold or barrier ends -/
  opening : Option ShotArgs := none
  trigs : List TrigInput := List.replicate 8 {}
  trigMode : BitVec 8 := 0
  trigEn : BitVec 8 := 0
  startLead : Nat := 1000
  jointTmo : Nat := 100
  trigSrc : Word := 0
  binds : List Word := []
  modes : Modes := {}
  barGen : List (Nat × Nat) := []
  /-- the open shot whose scope the thread is in -/
  shot : Option Nat := none
  /-- the thread's last shot, ended and not yet committed -/
  prevShot : Option Nat := none
  /-- whether the launch running has opened a scope (R344) -/
  opened : Bool := false
  /-- shot scopes opened since the launch started, replays not counted (R164) -/
  scopes : Nat := 0
  /-- replays of the present shot, kept over a reset block (R348) -/
  replays : Nat := 0
  /-- the thread runs a reset block outside any scope; `shot.begin` re-issues (R94) -/
  inBlock : Bool := false
  rewind : Option Rewind := none
  params : List HeldParam := []
  /-- the latest end of effect of the timed commands issued in the present scope (R93) -/
  effectEnd : Nat := 0
  /-- TC at the last scope-opening checkpoint, or where Starting ended (13, Pausing between shots) -/
  pauseFrom : Word := 0
  /-- the throttling pause the thread is Held for: device tick of its end, and its length in ticks (13 R362) -/
  pause : Option (Nat × Nat) := none
  /-- results of acquisitions of the launch still awaited (R70) -/
  awaited : Nat := 0
  /-- the fault completion awaiting its write: its code, and the device tick by which it is due -/
  faultDue : Option (Nat × Nat) := none
  deriving DecidableEq, Repr

/-- The undo record of one tone in a shot (R118). -/
structure ToneUndo where
  tile : Nat
  c : Nat
  k : Nat
  /-- what FREQ and OFFSET return to: the value before the shot's first dispatched change, or a
  later value from outside the shot -/
  freq : Option (BitVec 48) := none
  offset : Option (BitVec 32) := none
  /-- sum of the shot's VZ increments since the last register write -/
  vz : BitVec 48 := 0
  deriving DecidableEq, Repr

/-- The undo record of one flux level in a shot (R258). -/
structure FluxUndo where
  tile : Nat
  k : Nat
  /-- what the level returns to -/
  before : BitVec 16
  /-- whose that level is -/
  owner : Option (Thr × Word) := none
  deriving DecidableEq, Repr

/-- The rollback position of a bobbin in a shot (R138). -/
structure BobUndo where
  tile : Nat
  b : Nat
  rp : Nat
  loopsLeft : Nat
  deriving DecidableEq, Repr

/-- One local participant of a shot. -/
structure ShotPart where
  thr : Thr
  ck : Checkpoint
  args : ShotArgs
  /-- the device tick of its `shot.end`, once issued -/
  ended : Option Nat := none
  /-- the end of the effect of its last timed command, and the arrival of its last result: C0 of R93
  is the later -/
  c0 : Nat := 0
  arr : Nat := 0
  deriving DecidableEq, Repr

end Sys2Proof.Machine
end

