-- ==== Sys2Proof/Machine/RdoTypes.lean ====
section
/-! DEFINITION. Plain-data types of the readout (05_readout). -/

namespace Sys2Proof.Machine

/-- A complex number with integer parts. -/
structure Cplx where
  i : Int
  q : Int
  deriving DecidableEq, Repr

/-- One bank of a demodulation channel's set-up values (R159): the words of CFG to GUARD, and the
256 words of the kernel (empty: all zero). -/
structure DemodBank where
  cfg : Word := 0
  dfreq : Word := 0
  dphase : Word := 0
  delay : Word := 0
  boxw : Word := 0x7FFF
  disc0 : Word := 0x7FFF
  disc1 : Word := 0x7FFF
  guard : Word := 0
  kernel : List Word := []
  deriving DecidableEq, Repr

/-- What one channel contributes to a record (R165, R166). -/
structure ChanResult where
  c : Nat
  state : Option (BitVec 2)
  amb : Bool := false
  ovr : Bool := false
  disp : Bool := false
  sat : Bool := false
  iq : Cplx := ⟨0, 0⟩
  deriving DecidableEq, Repr

/-- A window (R151-R157): its start and end in fine steps of device time, its flags, the bank in
force at its acceptance, whether it has opened, and, once it has ended, its point. -/
structure Window where
  tile : Nat
  c : Nat
  acq : Nat
  thr : Thr
  shot : Option Nat
  w : Nat
  e : Nat
  disp : Bool
  ovr : Bool := false
  bank : DemodBank
  opened : Bool := false
  ended : Bool := false
  /-- the mixed samples, from the end to the dump -/
  x : List Cplx := []
  dumped : Bool := false
  latched : Bool := false
  state : BitVec 2 := 0
  /-- the state the record reports (06 R184) -/
  report : BitVec 2 := 0
  amb : Bool := false
  sat : Bool := false
  iq : Cplx := ⟨0, 0⟩
  deriving DecidableEq, Repr

/-- An acquisition request whose record has not been formed (R158). -/
structure AcqReq where
  id : Nat
  tile : Nat
  thr : Thr
  shot : Option Nat
  /-- the value of the SHOT field (R164) -/
  shotNo : Nat
  ltag : BitVec 32
  /-- the start tick of the launch that issued it -/
  launch : Word
  stamp : Word
  mask : BitVec 24
  raw : Bool
  frameRpt : Bool
  results : List ChanResult
  /-- device tick at which the record forms, as far as known -/
  formAt : Nat
  deriving DecidableEq, Repr

/-- A kernel training run (R161): the device tick of its START, its channel and parameters, its
rotation position, and per label the windows added and the sums of the mixed samples. -/
structure TrainRun where
  at_ : Nat
  ch : Nat
  labels : Nat
  target : Nat
  tlen : Nat
  shift : Nat
  rot : Nat := 0
  counts : List Nat := [0, 0, 0]
  sums : List (List Cplx) := [[], [], []]
  deriving DecidableEq, Repr

/-- A trace capture (R163), in fine steps of device time: its trigger instant once known, and once
triggered the sample instant at the trigger and the pre-trigger time; whether it stores corrected samples. -/
structure TraceRun where
  start : Option Nat := none
  first : Option Nat := none
  pre : Nat := 0
  corr : Bool := false
  deriving DecidableEq, Repr

end Sys2Proof.Machine
end

