-- ==== Sys2Proof/Machine/DecTypes.lean ====
section
/-! DEFINITION. Plain-data types of decisions, the frame ledger and the pre-decoder
(06_decisions). -/

namespace Sys2Proof.Machine

/-- A decision slot (R167-R174): its word, the forest time and device tick of its last write, the
word as it stood before that tick, and whether the slot was already written in that tick.  FQ as it
stood at the write and the ledger entry at the write are kept for a `wdec` that ends on it (R180). -/
structure Slot where
  word : Word
  wrote : Option Word := none
  tick : Nat := 0
  old : Word
  rank : Nat := 0
  /-- a second source wrote the slot in that tick (R173) -/
  collided : Bool := false
  fq : Word := 0
  flip : Bool := false
  /-- the lane the word was delivered on, if it came over the fabric (12 R344) -/
  lane : Option Nat := none
  /-- the shot whose result the word is (12 R344) -/
  shot : Option Nat := none
  /-- SECDED has found the word uncorrectable (R340) -/
  bad : Bool := false
  deriving DecidableEq, Repr

/-- The empty word (R169). -/
def emptyWord : Word := 0x0000600000000000

/-- A slot after reset or after a clear (R169). -/
def Slot.empty : Slot := { word := emptyWord, old := emptyWord }

/-- The kinds of R168. -/
inductive DecSource
  | demod (rank : Nat)
  | tack (n : Nat)
  | patch (p : Nat)
  | fabric (lane : Nat)
  deriving DecidableEq, Repr

/-- One closed round of an ancilla (R187). -/
structure AncRound where
  n : Nat
  s : Bool
  valid : Bool
  amb : Bool
  deriving DecidableEq, Repr

/-- The history of an ancilla (R187): rounds closed, the raw bit of the last, the last three. -/
structure Anc where
  rounds : Nat := 0
  raw : Bool := false
  hist : List AncRound := []
  deriving DecidableEq, Repr

/-- An assembly on its way to A + 12 (R188-R193). -/
structure Assembly where
  patch : Nat
  n : Nat
  v : Nat
  mask : BitVec 8
  esc : Bool
  reason : Nat
  /-- device tick and forest time of A -/
  tick : Nat
  ft : Word
  mode : Nat
  /-- the owner's shot it is attributed to (R196), the number of that scope and the launch tag -/
  shot : Option Nat
  shotNo : Nat := 0xFFFF
  ltag : BitVec 32 := 0
  /-- its shot was unpicked in the tick A + 12 before the result was made (R186, R417) -/
  undone : Bool := false
  deriving DecidableEq, Repr

/-- The pre-decoder snapshot of a shot (R196). -/
structure PatchSnap where
  rounds : List (Nat × Nat)
  ancs : List (Nat × Anc)
  deriving DecidableEq, Repr

/-- What the decisions chapter remembers of the present tick: the ledger bits the host has set (R186), the
snapshots of the shots unpicked with their threads (R196, R417), and the map registers written, as they
stood before (DEC.SRC, DEC.SLOT, DEC.TACK and FRAME.BASIS apply in ticks after their write). -/
structure DecTick where
  set : BitVec 768 := 0
  snaps : List (Nat × List Thr × PatchSnap) := []
  maps : List (Reg × Word) := []
  deriving DecidableEq, Repr

/-- An operation of a FRAME descriptor (R323). -/
structure FrameOp where
  slot : Nat
  set : Bool
  z : Bool
  x : Bool
  deriving DecidableEq, Repr

/-- A member of a packed word: its channel, POS, state (none: no result), AMB and ANOM. -/
structure PackMember where
  c : Nat
  pos : Nat
  state : Option (BitVec 2)
  amb : Bool
  anom : Bool
  deriving DecidableEq, Repr

/-- The packed word of one `acq` and slot, while its members latch (R171): the latest E so far, in
fine steps of device time. -/
structure Pack where
  acq : Nat
  slot : Nat
  tile : Nat
  e : Nat
  members : List PackMember
  deriving DecidableEq, Repr

/-- An open shot on this device (R89-R94, R344-R349): its local participants, its checkpoint
tick, its flags, and what an unpick restores. A shot is open from its checkpoint to its commit. -/
structure Shot where
  id : Nat
  parts : List ShotPart
  joint : Bool
  bar : Nat
  gen : Nat
  k : Nat
  kFt : Word
  replays : Nat
  replayable : Bool
  /-- the tiles on which a sample clipped, a bobbin underran, coefficients were forced -/
  clip : List Nat := []
  starved : List Nat := []
  corr : List Nat := []
  /-- for a joint shot, the release tick of its `shot.end` barrier (R93) -/
  released : Option Nat := none
  undo : BitVec 768 := 0
  tones : List ToneUndo := []
  fluxes : List FluxUndo := []
  bobs : List BobUndo := []
  snap : PatchSnap := ⟨[], []⟩
  /-- acquisitions issued: tile and channels (05 R146, R160) -/
  acqs : List (Nat × BitVec 24) := []
  /-- flux channels on which a `flux`, a play or a join was dispatched (08 R257, R258) -/
  fluxUsed : List (Nat × Nat) := []
  /-- training runs as they stood at the checkpoint, by tile (05 R161) -/
  train : List (Nat × TrainRun) := []
  /-- the k of each expectation timer anchored on a participant (R226) -/
  expTimers : List (Nat × Nat) := []
  deriving DecidableEq, Repr

end Sys2Proof.Machine
end

