-- ==== Sys2Proof/Machine/FabTypes.lean ====
section
/-! DEFINITION. Plain-data types of the Eswen fabric and of barriers (07_eswen). -/

namespace Sys2Proof.Machine

/-- An entry that becomes ready at a transmitting lane (R208, R209): its class (0 control, 1 of
local origin, 2 forwarded), its order within the class, its ready tick in device ticks, its bits. -/
structure TxEntry where
  cls : Nat
  key : Nat
  ready : Nat
  bits : BitVec 56
  deriving DecidableEq, Repr

/-- One bulk data stitch of a message (R235). -/
structure BulkPart where
  first : Bool
  last : Bool
  mtype : Nat
  dest : Nat
  src : Nat
  data : BitVec 160
  deriving DecidableEq, Repr

/-- A bulk data stitch in the replay buffer (R236): its sequence number, the device tick of its
first transmission, the times it was resent, and whether it is to be resent. -/
structure SentPart where
  seq : BitVec 8
  part : BulkPart
  sent : Nat
  resent : Nat := 0
  again : Bool := false
  deriving DecidableEq, Repr

/-- What a lane holds beside its registers (R206-R237). -/
structure LaneRun where
  /-- CFG in force (R213) -/
  cfg : Word := 0
  /-- device tick at which the present state was entered -/
  since : Nat := 0
  /-- backoff of the next entry to Quiet, in ms (R211) -/
  backoff : Nat := 1
  /-- Lock timeouts in a row (R210) -/
  lockFails : Nat := 0
  /-- good markers in a row, in Align -/
  goodMarks : Nat := 0
  /-- bad markers in a row, in Active -/
  badMarks : Nat := 0
  /-- the group skew exceeded 16 ns in Align (R210) -/
  skewBad : Bool := false
  /-- slots in a row without a valid or correctable stitch (R228) -/
  missRun : Nat := 0
  /-- number of the next slot to be received, at the sender -/
  rxSlot : Nat := 0
  /-- the states of the PRBS at the transmitter and of the descrambler (R206; DESIGN CHOICE, log entry 16) -/
  txScr : BitVec 31 := 0x7FFFFFFF
  rxScr : BitVec 31 := 0x7FFFFFFF
  /-- sender slots whose stitch was invalid or incomplete (R227) -/
  bad : List Nat := []
  /-- sender slots of which a copy was taken (R221) -/
  got : List Nat := []
  /-- own slots to be sent with TYPE 0x2 (R225) -/
  force2 : List Nat := []
  ready : List TxEntry := []
  /-- devices marked down on the lane (R225) -/
  down : List Nat := []
  /-- ticks of the last DOWN or UP acted on, by device (R230) -/
  marks : List (Nat × Word) := []
  outq : List BulkPart := []
  replay : List SentPart := []
  txSeq : BitVec 8 := 0
  rxSeq : BitVec 8 := 0
  /-- a NAK is to be sent; a NAK has been received -/
  nakTx : Bool := false
  nakRx : Bool := false
  /-- parts of the message being received -/
  inq : List BulkPart := []
  /-- bits corrected since the last marker sent (R216) -/
  errCnt : Nat := 0
  /-- equaliser taps, their snapshot with the CTLE step, and whether act held and no bit was
  corrected since the last marker (R215) -/
  taps : Vector Int 12 := Vector.replicate 12 0
  snap : Vector Int 12 := Vector.replicate 12 0
  snapCtle : Nat := 0
  calm : Bool := true
  /-- the last good marker found the two ends' forest times more than one tick apart (R217) -/
  apart : Bool := false
  /-- identity and flight are known in Exchange (R218, R220, R221) -/
  measured : Bool := false
  /-- the DOWN entries sent when the lane last left Active: device and out lane (R225) -/
  told : List (Nat × Nat) := []
  deriving DecidableEq, Repr

/-- A scheduled delivery (R224): the device tick of its write, its arrival lane and receive entry,
its slot, and its word. -/
structure Delivery where
  tick : Nat
  lane : Nat
  entry : Nat
  slot : Nat
  word : Word
  deriving DecidableEq, Repr

/-- An expectation timer (R226): its origin as an absolute tick, its k, ticks yielded, and the device
tick of the last. -/
structure ExpRun where
  origin : Int := 0
  k : Nat := 0
  done : Nat := 0
  hit : Option Nat := none
  deriving DecidableEq, Repr

/-- One generation of a barrier on this device (R231): lanes that have sent ARRIVE, the device tick
at which the local arrival completes, whether ARRIVE or RELEASE has been sent on, the release tick
in device ticks and forest time, and the pause length in force (R363). -/
structure BarGen where
  /-- local participants that have arrived -/
  came : List Thr := []
  kids : List Nat := []
  localAt : Option Nat := none
  sent : Bool := false
  rel : Option (Nat × Word) := none
  pause : Nat := 0
  deriving DecidableEq, Repr

/-- A barrier (R85, R231): generations released, those in progress, the last unpick (the
generation reopened, the device tick at which the device acted, and the resume tick v if replayed;
R418), and the generations unpicked, each with the first U that a further unpick of it can have, if
any (R233). -/
structure BarRun where
  gen : Nat := 0
  gens : List (Nat × BarGen) := []
  cut : Option (Nat × Nat × Option Nat) := none
  unpicked : List (Nat × Option Nat) := []
  deriving DecidableEq, Repr

end Sys2Proof.Machine
end

