-- ==== Sys2Proof/Machine/HeatTypes.lean ====
section
/-! DEFINITION. Plain-data types of heat, boot and heartwood (13_heat, 14_startup). -/

namespace Sys2Proof.Machine

/-- What a rail current sensor gives at an update (R355, R358): the raw current code, the current in
1/10,000 of the sensor's full scale, the over-range flag, and the rail voltages in mV and currents in mA measured
over the interval. -/
structure SensorSample where
  code : Int
  share : Int
  beyond : Bool
  points : List (Nat × Int)
  deriving DecidableEq, Repr

/-- The canopy network's factory constants (R356), as they act in one step of 10 µs: the rise of a node per mW
of a sensor's power, the part of the difference to another node that crosses, and to the plate (DESIGN CHOICE, log
entry 24: the spec gives none of them). -/
structure CanopyNet where
  source : List ((Nat × Nat) × Rat) := []
  link : List ((Nat × Nat) × Rat) := []
  plate : List (Nat × Rat) := []
  deriving DecidableEq, Repr

/-- The heat ledger's two poles of a stage, in uK (R367). -/
structure StageRun where
  y1 : Rat := 0
  y2 : Rat := 0
  deriving DecidableEq, Repr

/-- The canopy model and the ledger beside their registers (R356-R369). -/
structure HeatRun where
  /-- device tick of the last model update -/
  updated : Nat := 0
  /-- device ticks of the last change of the canopy level and of the ledger level -/
  canopyAt : Option Nat := none
  cryoAt : Option Nat := none
  /-- device tick since which TJ_MAX has stayed at or below CRIT_REL -/
  coolFrom : Option Nat := none
  /-- the throttling mode in force (R369) -/
  host : Bool := false
  /-- per sensor: its last raw code, and how many updates in a row had it -/
  codes : List (Nat × Int × Nat) := []
  /-- per diode: consecutive readings that disagree with its node -/
  apart : List (Nat × Nat) := []
  /-- the filtered plate estimate in 1/64 degree, once there is one -/
  plate : Option Rat := none
  stages : List (Nat × StageRun) := []
  net : CanopyNet := {}
  /-- the temperatures of the 96 nodes in 1/64 degree, once initialised -/
  nodes : List Rat := []
  deriving DecidableEq, Repr

/-- One copy of a heartwood record (R382): its SEQ and the register values it holds. -/
structure HwCopy where
  seq : BitVec 32 := 0
  words : List (Reg × Word) := []
  deriving DecidableEq, Repr

/-- The copies of a record (R381, R382): those of banks A and B where valid, and the factory's. -/
structure HwRecord where
  a : Option HwCopy := none
  b : Option HwCopy := none
  factory : HwCopy := {}
  deriving DecidableEq, Repr

/-- A request for a record write (R370, R384): its TYPE and the device tick of the request. -/
structure HwRequest where
  typ : Nat
  at_ : Nat
  deriving DecidableEq, Repr

/-- A record write in progress (R383): the bank written, the copy, and the device tick it started. -/
structure HwWrite where
  typ : Nat
  bankB : Bool
  copy : HwCopy
  at_ : Nat
  deriving DecidableEq, Repr

/-- The one-time fuses (R379): key digests, revocations, the minimum SVN. -/
structure Fuses where
  keys : List (BitVec 384) := []
  revoked : BitVec 4 := 0
  minSvn : Nat := 0
  deriving DecidableEq, Repr

/-- What ROM finds in an image slot (R379): the header's fields, the digest of its PUBKEY, and
whether SIGNATURE is valid and the body has the digest the header gives. -/
structure FlashImage where
  magic : BitVec 32
  version : BitVec 16
  keySlot : BitVec 16
  length : BitVec 32
  svn : BitVec 32
  keyDigest : BitVec 384
  signed : Bool
  bodyOk : Bool
  deriving DecidableEq, Repr

/-- The rails of R371. -/
inductive Rail
  | core | conv | an | io | v33 | biasP | biasN
  deriving DecidableEq, Repr

/-- The voltages of the rails, in mV. -/
structure Rails where
  core : Int := 750
  conv : Int := 950
  an : Int := 1800
  io : Int := 1800
  v33 : Int := 3300
  biasP : Int := 6000
  biasN : Int := -6000
  deriving DecidableEq, Repr

/-- Where boot stands beside GLOBAL.BOOT (R371-R378): the anchor, whether RST_N is low, whether ROM
has read heartwood, the CAUSE the next boot reports, the bias dies whose supply is good, those that have received
a park table (08 R246), and whether the trunk's supply is good. -/
structure BootRun where
  anchor : Option Nat := none
  held : Bool := false
  started : Bool := false
  cause : Nat := 0
  biasGood : List Nat := []
  tables : List Nat := []
  supply : Bool := false
  /-- a record write was abandoned by the reset -/
  lost : Bool := false
  deriving DecidableEq, Repr

end Sys2Proof.Machine
end

