-- ==== Sys2Proof/Machine/TimeTypes.lean ====
section
/-! DEFINITION. Plain-data types of SYNC_IN, skew calibration and the PTP message exchange
(02_forest_time). -/

namespace Sys2Proof.Machine

/-- A load of forest time on its way (R41): the device tick of the load, and the LOAD_DELAY it was
placed by. -/
structure SyncLoad where
  at_ : Nat
  delay : Nat
  deriving DecidableEq, Repr

/-- A jump of forest time (R41): the device tick of the load, and what forest time would have been then. -/
structure FtJump where
  at_ : Nat
  was : Word
  deriving DecidableEq, Repr

/-- A skew calibration run (R45): the device tick of START, how many markers have come from the parent and
the sum of their t_r − t_s, how many have been sent and the sum of their u_s; times in 1/256 tick. -/
structure SkewRun where
  from_ : Nat := 0
  received : Nat := 0
  down : Int := 0
  sent : Nat := 0
  sends : Int := 0
  deriving DecidableEq, Repr

/-- A time on the PTP timescale, in whole nanoseconds and 2^-16 ns. -/
structure PtpTime where
  ns : Word := 0
  frac : BitVec 16 := 0
  deriving DecidableEq, Repr

/-- A PTP time in units of 2^-16 ns. -/
def PtpTime.count (t : PtpTime) : Int := (t.ns.toNat * 65536 + t.frac.toNat : Nat)

/-- The PTP time of a count of 2^-16 ns. -/
def PtpTime.of (n : Int) : PtpTime :=
  { ns := BitVec.ofInt 64 (n / 65536), frac := BitVec.ofInt 16 n }

/-- The contents of a PTP message (R52): origin and receipt timestamps, correctionField in 2^-16 ns. -/
inductive PtpBody
  | sync (seq : BitVec 16) (twoStep : Bool) (origin : PtpTime) (corr : Int)
  | followUp (seq : BitVec 16) (origin : PtpTime) (corr : Int)
  | delayReq (seq : BitVec 16) (corr : Int)
  | delayResp (seq : BitVec 16) (receipt : PtpTime) (corr : Int)
  | pdelayReq (seq : BitVec 16) (corr : Int)
  /-- a one-step response carries the turnaround in its correctionField and no receipt time -/
  | pdelayResp (seq : BitVec 16) (twoStep : Bool) (receipt : PtpTime) (corr : Int)
  | pdelayRespFollowUp (seq : BitVec 16) (origin : PtpTime) (corr : Int)
  /-- priority1, how the clock's class, accuracy and variance compare with this device's (negative: better),
  priority2, and whether its identity is the lower -/
  | announce (priority1 : BitVec 8) (quality : Int) (priority2 : BitVec 8) (lower : Bool)
  | management
  deriving DecidableEq, Repr

/-- A PTP message as it arrives: port, transport as `TIME.PTP_CFG.TRANSPORT` codes it, domainNumber, which
unicast partner sent it (none: multicast), and for an event message how long after the tick edge its
start-of-frame delimiter passed the MAC, in 2^-16 ns (R52, R53). -/
structure PtpMessage where
  port : BitVec 1
  transport : BitVec 2
  domain : BitVec 8
  peer : Option (BitVec 2)
  phase : BitVec 16
  body : PtpBody
  deriving DecidableEq, Repr

/-- A PTP message as it is sent: messageType, port, transport, domainNumber, the unicast partner (none:
multicast), sequenceId, the timestamp it carries, the two-step flag, logMessageInterval, and in an Announce
priority1 and priority2. -/
structure PtpSent where
  kind : Nat
  port : Nat
  transport : Nat
  domain : Nat
  peer : Option Nat
  seq : BitVec 16
  time : PtpTime
  twoStep : Bool := false
  interval : Int := 0
  priority1 : Nat := 0
  priority2 : Nat := 0
  deriving DecidableEq, Repr

/-- A Sync received (R53): its number, its times at the transmitter (once known) and here, its corrections,
whether it was two-step, and its sender. -/
structure PtpSync where
  seq : BitVec 16
  sent : Option PtpTime
  come : PtpTime
  corr : Int
  twoStep : Bool
  peer : Option (BitVec 2)
  deriving DecidableEq, Repr

/-- A delay request sent and its answer (R53): its number, when it left, when the peer received it, when the
peer's answer left and came, the corrections, and whether the answer was two-step. -/
structure PtpDelay where
  seq : BitVec 16
  left : PtpTime
  receipt : Option PtpTime := none
  back : Option PtpTime := none
  come : PtpTime := {}
  corr : Int := 0
  twoStep : Bool := false
  deriving DecidableEq, Repr

/-- A completed exchange (R56; 11 R331): its number, flags, the four timestamps at the balls, the sum of the
correctionFields applied, and the offset from the time transmitter in 2^-16 ns. -/
structure PtpExchange where
  seq : BitVec 16
  p2p : Bool
  twoStep : Bool
  t1 : PtpTime
  t2 : PtpTime
  t3 : PtpTime
  t4 : PtpTime
  correction : Int
  offset : Rat
  deriving DecidableEq, Repr

/-- The PTP exchange in progress (R52, R53): the next sequence numbers of Sync, Announce and requests, the
device ticks of the last Sync and Announce, when a better clock was heard, the Sync that waits for its path delay, and the request sent. -/
structure PtpRun where
  syncSeq : BitVec 16 := 0
  announceSeq : BitVec 16 := 0
  reqSeq : BitVec 16 := 0
  syncAt : Option Nat := none
  announceAt : Option Nat := none
  /-- device tick at which a better clock was last heard, or PTP was enabled -/
  heard : Option Nat := none
  sync : Option PtpSync := none
  delay : Option PtpDelay := none
  /-- records that wait for their queue pair (11 R331, R337) -/
  records : List (List Word) := []
  deriving DecidableEq, Repr

/-- The ageing accumulator beside its register (R38): what lies below 0.01 ppb, in units of 0.01/86400 ppb,
seconds of powered operation since ACCUM was last committed, and whether a commit to heartwood is requested. -/
structure XtalRun where
  frac : Int := 0
  seconds : Nat := 0
  commit : Bool := false
  deriving DecidableEq, Repr

/-- Power requests (01 R22-R26): one held while BUSY; of the transition in progress the state it enters, the
state requested where more than one transition leads to it, the device tick at which it began and its cause;
and the device tick of the last write of GLOBAL.PWR.REQ. -/
structure PwrRun where
  held : Option Nat := none
  target : Option Nat := none
  goal : Option Nat := none
  since : Nat := 0
  cause : Nat := 0
  wrote : Option Nat := none
  deriving DecidableEq, Repr

end Sys2Proof.Machine
end

