-- ==== Sys2Proof/Machine/KenTypes.lean ====
section
/-! DEFINITION. Plain-data types of the register access path and of the Kenper host interface
(11_kenper). -/

namespace Sys2Proof.Machine

/-- The domain and the secure attribute of a requester (R310). -/
structure Requester where
  domain : Nat
  secure : Bool
  deriving DecidableEq, Repr

/-- Which part of a register an access covers (R8). -/
inductive Half
  | whole | low | high
  deriving DecidableEq, Repr

/-- A register write as it lands: who made it, which part it covers, and its value (a 32-bit value
stands in the low 32 bits). -/
structure WriteOp where
  req : Requester
  half : Half
  value : Word
  deriving DecidableEq, Repr

/-- The statuses of R308. -/
inductive MStatus
  | ok | noRegister | badAccess | denied | locked | refused | link | skipped
  deriving DecidableEq, Repr

/-- One operation of a Kenper-M request (R307). -/
structure MOp where
  addr : Nat
  op : Nat
  data : Word
  deriving DecidableEq, Repr

/-- The answer to one operation. -/
structure MResult where
  status : MStatus
  data : Word
  deriving DecidableEq, Repr

/-- Source address (IPv6, or IPv4 in its low 32 bits) and port of a datagram. -/
structure MSource where
  v6 : Bool
  addr : Nat
  port : Nat
  deriving DecidableEq, Repr

/-- A Kenper-M request that waits, or executes (R309): the operations not yet executed, the
results so far, and how many times its response is to be sent. -/
structure MRequest where
  src : MSource
  seq : BitVec 32
  req : Requester
  stopOnError : Bool
  ops : List MOp
  results : List (MOp × MResult)
  sends : Nat
  deriving DecidableEq, Repr

/-- A kept response (R309): the bytes of its datagram. -/
structure KeptResponse where
  src : MSource
  seq : BitVec 32
  bytes : List Byte
  deriving DecidableEq, Repr

/-- A descriptor: where it came from, and its eight words (R317). -/
structure Desc where
  ref : DescRef
  fence : Bool
  w : List Word
  deriving DecidableEq, Repr

/-- A completion entry or a notice, before it is placed in a ring (R325). -/
structure Cpl where
  opcode : Nat
  status : Nat
  code : Nat := 0
  ring : Nat := 0
  source : Nat := 0
  tag : BitVec 32 := 0
  index : Nat := 0
  info32 : Nat := 0
  info64 : Word := 0
  tick : Nat := 0
  info15 : Nat := 0
  /-- the queue pair and PSN of the RDMA WRITE the entry reports, to be acknowledged first (R326) -/
  after : Option (Nat × BitVec 24) := none
  deriving DecidableEq, Repr

/-- What a read tag or an outstanding request of a queue pair is for (R337, R338). -/
inductive ReqKind
  | refill (tile b : Nat) (start len : Nat)
  | load (ref : DescRef)
  /-- n descriptors of a command ring (R315) -/
  | fetch (ring n : Nat)
  /-- a READ whose response is discarded: a fetch of a ring since disabled (R313) -/
  | gone
  | write
  deriving DecidableEq, Repr

/-- An outstanding RDMA request of a queue pair: for a READ, the PSN of the next response awaited;
for a WRITE, that of its last packet (R337). -/
structure OutReq where
  q : Nat
  psn : BitVec 24
  kind : ReqKind
  sent : Nat
  /-- bytes of a READ still awaited, or of a WRITE not acknowledged -/
  left : Nat := 0
  deriving DecidableEq, Repr

/-- The running state of a queue pair (R304-R306). -/
structure QpRun where
  sqPsn : BitVec 24 := 0
  rqPsn : BitVec 24 := 0
  retries : Nat := 0
  rnrRetries : Nat := 0
  /-- device tick of the RNR retry, while one is awaited -/
  rnrDue : Option Nat := none
  /-- send rate in kb/s; 0 stands for the link rate (R306) -/
  rate : Nat := 0
  /-- device tick of the last congestion notification received, or rate step -/
  rateTick : Nat := 0
  /-- device tick of the last congestion notification sent -/
  cnpSent : Option Nat := none
  /-- a congestion notification waits for 50 µs to pass since the last (R306) -/
  cnpOwed : Bool := false
  /-- a retransmission waits for the queue pair to send again (R305, R306) -/
  owed : Bool := false
  deriving DecidableEq, Repr

/-- A count to be written to a ring's shadow (R315, R326): queue pair, the PSN of the WRITE to be
acknowledged first, if one is, address, count. -/
structure ShadowWait where
  q : Nat
  after : Option (BitVec 24)
  rkey : Nat
  addr : Word
  count : Nat
  deriving DecidableEq, Repr

/-- A LOAD or SHARE in progress (R320, R321). -/
structure Transfer where
  ref : DescRef
  /-- the domain of the descriptor -/
  domain : Nat
  space : Nat
  tile : Nat
  offset : Nat
  length : Nat
  hostAddr : Word
  rkey : Nat
  /-- bytes requested of the host -/
  asked : Nat := 0
  /-- bytes received -/
  done : Nat := 0
  /-- directory entries rejected -/
  rejected : Nat := 0
  /-- for an image: the bytes received, for the header, the held sections and the CRC -/
  image : List Byte := []
  /-- for a SHARE: the destination -/
  dest : Option Nat := none
  /-- this device is loaded -/
  here : Bool := true
  /-- for a SHARE that loads this device too: the CODE with which its image was rejected -/
  refused : Option Nat := none
  deriving DecidableEq, Repr

/-- A message that travels for a SHARE (R321, R235): data for the device loaded, from byte `start` of the
transfer onward; or its answer, with a STATUS. -/
inductive ConfigMsg
  | data (ring index space tile offset length start : Nat) (bytes : List Byte)
  | ack (ring index status : Nat)
  deriving DecidableEq, Repr

/-- Of the Kenper engines (R302, R321, R338): the links paused by priority flow control, with the device tick
until which; the command ring that took the last read tag in turn; and the LOADs that SHAREs of other devices
make here, with the device. -/
structure KenRun where
  paused : List (Nat × Nat) := []
  turn : Nat := 63
  remotes : List (Nat × Transfer) := []
  deriving DecidableEq, Repr

/-- A READ that awaits the acknowledgement of its data (R321, R326): queue pair and last PSN of the
WRITE, and the STATUS, words and INFO64 of its completion. -/
structure ReadWait where
  ref : DescRef
  q : Nat
  psn : BitVec 24
  status : Nat
  words : Nat
  info : Word
  deriving DecidableEq, Repr

/-- A feed extent (R324). -/
structure Extent where
  ref : DescRef
  start : Nat
  count : Nat
  hostAddr : Word
  rkey : Nat
  deriving DecidableEq, Repr

/-- A record in a holding area (R332): its four words, its shot, and whether that has committed.
`bad` marks a word SECDED cannot correct (R343). -/
structure HoldRec where
  tile : Nat
  thr : Thr
  shot : Option Nat
  committed : Bool
  words : List Word
  bad : Bool := false
  deriving DecidableEq, Repr

/-- A word of a result queue with its parity good or bad (R333), whether it is a header, and the
device tick at which it entered. -/
structure RqWord where
  w : Word
  parityOk : Bool := true
  head : Bool
  at_ : Nat := 0
  deriving DecidableEq, Repr

/-- A tile's result queue (R333-R336). -/
structure Rq where
  wp : BitVec 13 := 0
  rp : BitVec 13 := 0
  words : List RqWord := []
  /-- words of the record being entered, one per tick (R334) -/
  entering : List RqWord := []
  lastPop : Word := 0
  /-- the word of its record that entered last, 1 to 4, and the device tick -/
  pos : Nat := 0
  posAt : Nat := 0
  deriving DecidableEq, Repr

/-- What the device has put on its wires and pins: plain data for an observer (DESIGN CHOICE, log entry 5). -/
inductive Out
  /-- a Kenper-M response: the bytes of its datagram -/
  | response (src : MSource) (bytes : List Byte)
  /-- bytes written to host memory by RDMA WRITE on a queue pair, with an R_Key -/
  | rdmaWrite (q rkey : Nat) (addr : Word) (bytes : List Byte)
  /-- an RDMA READ issued, with an R_Key -/
  | rdmaRead (q rkey : Nat) (addr : Word) (bytes : Nat)
  /-- an acknowledgement or NAK sent on a queue pair: 0 ack, 1 RNR, 2 invalid request, 3 remote
  access, 4 sequence error -/
  | ack (q : Nat) (kind : Nat)
  /-- a retransmission on a queue pair -/
  | retransmit (q : Nat)
  /-- a congestion notification packet -/
  | cnp (q : Nat)
  /-- an answer frame on a link: 0 ARP, 1 neighbour advertisement, 2 echo reply -/
  | frame (link kind : Nat)
  /-- a PTP message -/
  | ptp (m : PtpSent)
  /-- a 256-bit slot value on a lane -/
  | stitch (lane : Nat) (bits : BitVec 256)
  /-- a control entry made ready on a lane: kind, barrier or device, generation, value -/
  | control (lane kind a b : Nat) (v : Word)
  /-- a management processor is told that its message has been dropped: its device, the destination, MTYPE (07
  R236) -/
  | bulkLost (src dest mtype : Nat)
  /-- a command on the link of a bias die: register address and value -/
  | biasCmd (die addr : Nat) (v : Word)
  /-- a level or pulse on a marker: marker, level, device tick and fine position -/
  | marker (m : Nat) (level : Bool) (tick fine : Nat)
  /-- a park table sent to a bias die -/
  | parkTable (die : Nat) (table : List Word)
  /-- an operation on the flash: erase or program, byte address, and the page's words -/
  | flash (erase : Bool) (addr : Nat) (words : List Word)
  /-- an edge on PT_CAL: level, device tick and fine position (09 R274) -/
  | ptCal (level : Bool) (tick fine : Nat)
  deriving DecidableEq, Repr

end Sys2Proof.Machine
end

