-- ==== Sys2Proof/Machine/OutTypes.lean ====
section
/-! DEFINITION. Plain-data types of the fast-flux channels and the bias outputs (08_bias_flux). -/

namespace Sys2Proof.Machine

/-- One bank of a flux channel's chain values (R257): CHAIN, the four sections, the FIR words. -/
structure FluxBank where
  chain : Word := 0x80000000
  secs : List Word := [0, 0, 0, 0]
  fir : List Word := 0x4000 :: List.replicate 15 0
  deriving DecidableEq, Repr

/-- A flux channel (R252-R258): the bank in force and the pending one, the section states, the FIR
history (latest first, missing entries zero), the present x, the ramp after an unpick (samples made,
and the value it left), the codes of the present tick, and the sum of the squares of the codes since
the ledger last took it. -/
structure FluxRun where
  bank : FluxBank := {}
  pend : Option FluxBank := none
  secs : List Rat := [0, 0, 0, 0]
  hist : List Rat := []
  x : Rat := 0
  ramp : Option (Nat × Rat) := none
  codes : List Int := []
  sq : Nat := 0
  /-- the thread whose command set the level in effect, with the start of its launch (12 R343) -/
  owner : Option (Thr × Word) := none
  deriving DecidableEq, Repr

/-- A predistortion fitting run (R259): channel, demodulation channel, points, rotations to make,
terms, whether the FIR is fitted, the position in the rotation, the rotations made, the sums of the
points of B, R and each delay, and the windows completed since that may yet be unpicked, with those
behind them: the shot of each and its point. -/
structure FitRun where
  ch : Nat
  dch : Nat
  npts : Nat
  target : Nat
  nsec : Nat
  fir : Bool
  pos : Nat := 0
  rounds : Nat := 0
  sums : List Cplx := []
  later : List (Option Nat × Cplx) := []
  deriving DecidableEq, Repr

/-- The phases of a range change (R243). -/
inductive Ranging
  | none
  /-- slewing to code 0 -/
  | toZero
  /-- holding 0, with the updates that remain -/
  | hold (n : Nat)
  deriving DecidableEq, Repr

/-- A bias output (R240-R248): its accumulator in LSB of the range in use, the target taken at the
last update (code, range, slew rate), the phase of a range change, whether CODE or RANGE has been
written since park was last in force for want of a write, the staged values, consecutive updates
at compliance, whether the last update stood under a Dormant hold, and the code and range that the track-and-hold
keeps up to a device tick (R242). -/
structure BiasOut where
  acc : Rat := 0
  tgt : Int × Nat × Nat := (0, 0, 100)
  ranging : Ranging := .none
  written : Bool := false
  stCode : Option (BitVec 20) := none
  stRange : Option (BitVec 2) := none
  stuck : Nat := 0
  still : Bool := false
  kept : Option (Int × Nat × Nat) := none
  deriving DecidableEq, Repr

/-- What one bias output drives at an update (R244): its voltage in µV and its current in pA. -/
structure BiasLoad where
  out : Nat
  volts : Int
  amps : Int
  deriving DecidableEq, Repr

end Sys2Proof.Machine
end

