-- ==== Sys2Proof/Machine/UnitTypes.lean ====
section
/-! DEFINITION. Plain-data types of the edge timers, the monitor ADCs and the seam matrix
(09_tdc_monitor, 10_seams). -/

namespace Sys2Proof.Machine

/-- A word of an event queue, and whether its parity holds. -/
structure QWord where
  w : Word
  parityOk : Bool := true
  deriving DecidableEq, Repr

/-- An event queue or log: its words with their parity, words dropped since the last entered, and the
last word popped (09 R271, 10 R300). -/
structure EvQueue where
  words : List QWord := []
  dropped : Nat := 0
  lastPop : Word := 0
  deriving DecidableEq, Repr

/-- The states of a unit in an interval mode (R268); instants count 1/1,024 ticks of the device: of an Open unit
the start as stamped, of a Recovering one the end of the dead time (log entry 122). -/
inductive TdcPhase
  | off
  | armed
  | opened (start : Int)
  | recovering (until_ : Int)
  deriving DecidableEq, Repr

/-- A statistics collection in progress (R273). -/
structure StatRun where
  target : Nat
  n : Nat := 0
  sum : Int := 0
  squares : Int := 0
  least : Int := 0
  most : Int := 0
  deriving DecidableEq, Repr

/-- A measurement unit beside its registers (R263-R275): its phase, the latest stop not yet paired,
results since EN := 1, its queue, its collection, and the device tick of its last recalibration. -/
structure TdcUnit where
  phase : TdcPhase := .off
  held : Option Int := none
  seq : Nat := 0
  queue : EvQueue := {}
  stat : Option StatRun := none
  calAt : Nat := 0
  deriving DecidableEq, Repr

/-- An edge on its way to the units (R262, R274): the device tick at which its timestamp is formed,
its source value, its timestamp in forest time, and in 1/1,024 ticks of the device the crossing and the same
timestamp. -/
structure TdcEdge where
  due : Nat
  src : Nat
  time : Int
  real : Int
  inst : Int
  deriving DecidableEq, Repr

/-- A result on its way to its queue: the device tick of its entry, its unit, its word, and for an
interval its length. -/
structure TdcResult where
  due : Nat
  unit : Nat
  word : Word
  delta : Option Int
  deriving DecidableEq, Repr

/-- What a monitor ADC converts (R280). -/
inductive MonConv
  | urgent | track (out : Nat) | step
  deriving DecidableEq, Repr

/-- A monitor ADC beside its registers (R279-R281): the step of the running sequence, whether an
urgent request is pending, with its input and averaging, the conversion in progress, and per request the
codes summed, conversions made and over-range flag; the device tick at which the timer was selected; the device ticks at
which tracked outputs were last converted; the last readback for tracking (output and code) until it has been
compared; and whether the sequence stops with the conversion in progress. -/
structure MonRun where
  step : Option Nat := none
  urgent : Bool := false
  conv : Option MonConv := none
  sum : Int := 0
  made : Nat := 0
  beyond : Bool := false
  uInput : Nat := 0
  uAvg : Nat := 0
  uSum : Int := 0
  uMade : Nat := 0
  uOver : Bool := false
  timerFrom : Nat := 0
  tracked : List (Nat × Nat) := []
  readback : Option (Nat × Int) := none
  stopping : Bool := false
  deriving DecidableEq, Repr

/-- A tack cell (R292): its flip-flop, its filter output, the LUT output of the last tick and the
tick since which it has held, and its output in the last two ticks. -/
structure TackRun where
  ff : Bool := false
  filt : Bool := false
  lut : Bool := false
  since : Nat := 0
  out : Bool := false
  prev : Bool := false
  deriving DecidableEq, Repr

/-- A running timer (R294): the tick at which its present period began, the PERIOD and COMPARE of
that period, and its level. -/
structure TimerRun where
  from_ : Nat
  p : Nat
  c : Nat
  level : Bool
  deriving DecidableEq, Repr

/-- What the seam matrix remembers from tick to tick (10 R285-R287): level sources high in the last tick, channels that
a high level entered in it, and in the tick before it, which they show now; asynchronous channels with an event that
no tick edge has followed yet (R300); and the timers stopped in this tick (R295). -/
structure SeamLevels where
  src : List Nat := []
  ch1 : List Nat := []
  ch2 : List Nat := []
  late : List Nat := []
  stops : List Nat := []
  deriving DecidableEq, Repr

end Sys2Proof.Machine
end

