-- ==== Sys2Proof/Machine/CmdTypes.lean ====
section
/-! DEFINITION. Plain-data operands of the commands: what a sender supplies with a command because
the spec takes it from a pin, a wire or an analogue quantity. -/

namespace Sys2Proof.Machine

/-- Where a fault was found (R343). -/
inductive FaultSite
  | thread (q : Thr)
  | target (g : Tgt)
  /-- every play on synthesis channel c of the tile -/
  | channel (t c : Nat)
  /-- the window being integrated, dumped or discriminated on demodulation channel c -/
  | window (t c : Nat)
  /-- every window held on every channel of the tile that selects the bin -/
  | bin (t bin : Nat)
  | patch (p : Nat)
  | ledger
  /-- a record of a holding area, by its position there -/
  | holding (t i : Nat)
  | slot (n : Nat)
  | lane (l : Nat)
  | nowhere
  deriving DecidableEq, Repr

/-- A detected fault: class (R342), locus (R339), tile, address, site. -/
structure FaultReport where
  cls : Nat
  locus : Nat
  tile : Nat
  addr : Nat
  site : FaultSite
  deriving DecidableEq, Repr

/-- What happens at one SYNC_IN candidate edge E (R40, R44): SYNC_IN as sampled at the two edges
before E, at E and at the edge after E, the measured interval from the SYNC_IN rise to E in ps, and
the forest ticks since the tick aligned with E. -/
structure SyncEdge where
  before2 : Bool
  before1 : Bool
  atE : Bool
  after : Bool
  margin : Nat
  age : Nat
  deriving DecidableEq, Repr

/-- What MP3 fetches from the parent at the end of a skew calibration run (R45): whether the parent reports
that the run failed (its forest time is invalid), the sum of its arrival times u_r of this device's markers in
1/256 tick, its own θ to the root in 1/256 tick (numerator over denominator), and its hops. -/
structure SkewResult where
  failed : Bool
  arrivals : Int
  parentNum : Int
  parentDen : Nat
  parentHops : Nat
  deriving DecidableEq, Repr

/-- A received defect forward (R195, R235). -/
structure DefectForward where
  dev : BitVec 11
  patch : BitVec 6
  a : BitVec 32
  word2 : Word
  word3 : Word
  deriving DecidableEq, Repr

/-- The contents of a RoCE packet (R303). -/
inductive RoceBody
  | write (addr : Word) (rkey : BitVec 32) (bytes : List Byte)
  | send (bytes : List Byte)
  | readResponse (bytes : List Byte) (last : Bool)
  | ack
  /-- a NAK: 0 sequence error, 2 invalid request, 3 remote access, 4 remote operation -/
  | nak (kind : Nat)
  /-- an RNR NAK, with the code of the wait it asks for -/
  | rnrNak (timer : BitVec 5)
  | unsupported
  deriving DecidableEq, Repr

structure RocePacket where
  psn : BitVec 24
  icrcOk : Bool
  body : RoceBody
  deriving DecidableEq, Repr

/-- The kinds of ring (R313) and the PTP record buffer (R331). -/
inductive RingKind
  | cmd | cpl | res | ptpr
  deriving DecidableEq, Repr

/-- What a scrub read finds (R341). -/
inductive ScrubFinding
  | clean | corrected | uncorrectable
  deriving DecidableEq, Repr

/-- What a frame holds that is not RoCE, Kenper-M or PTP (R302). -/
inductive EthBody
  /-- an ARP request for an IPv4 address -/
  | arp (target : BitVec 32)
  /-- a neighbour solicitation for an IPv6 address -/
  | neighbour (target : BitVec 128)
  /-- an ICMP echo request to an IPv4 address -/
  | echo4 (dst : BitVec 32)
  /-- an ICMPv6 echo request to an IPv6 address -/
  | echo6 (dst : BitVec 128)
  /-- priority flow control: the priorities it names, and the quanta of each of the eight -/
  | pfc (enabled : BitVec 8) (quanta : Vector Nat 8)
  | ipFragment
  | ipv4Options
  | ipv6Extension
  | otherProtocol
  deriving DecidableEq, Repr

/-- A frame: destination MAC, IEEE 802.1Q tags (VLAN and priority), length in bytes, contents. -/
structure EthFrame where
  dest : BitVec 48
  tags : List (BitVec 12 × BitVec 3)
  length : Nat
  body : EthBody
  deriving DecidableEq, Repr

end Sys2Proof.Machine
end

