-- ==== Sys2Proof/Syntax.lean ====
section
/-! DEFINITION. The commands of the block: one constructor for every row of spec/opcode_table.json,
in the table's order, the register writes last. A needle instruction names its thread; a register
write names the requester, the half and the value. -/

namespace Sys2Proof

open Sys2Proof.Machine

/-- The commands (spec/opcode_table.json). -/
inductive Instr
  /-- NOP: Instruction nop issues and does nothing for one tick (R76) -/
  | nop (q : Thr)
  /-- ADD: Instruction add writes RA + RB to RD (R76) -/
  | add (q : Thr) (rd ra rb : BitVec 5)
  /-- SUB: Instruction sub writes RA − RB to RD (R76) -/
  | sub (q : Thr) (rd ra rb : BitVec 5)
  /-- AND: Instruction and writes the bitwise AND of RA and RB to RD (R76) -/
  | andR (q : Thr) (rd ra rb : BitVec 5)
  /-- OR: Instruction or writes the bitwise OR of RA and RB to RD (R76) -/
  | orR (q : Thr) (rd ra rb : BitVec 5)
  /-- XOR: Instruction xor writes the bitwise XOR of RA and RB to RD (R76) -/
  | xorR (q : Thr) (rd ra rb : BitVec 5)
  /-- SHL: Instruction shl shifts RA left by RB[5:0] (R76) -/
  | shl (q : Thr) (rd ra rb : BitVec 5)
  /-- SHR: Instruction shr shifts RA right logically by RB[5:0] (R76) -/
  | shr (q : Thr) (rd ra rb : BitVec 5)
  /-- SAR: Instruction sar shifts RA right arithmetically by RB[5:0] (R76) -/
  | sar (q : Thr) (rd ra rb : BitVec 5)
  /-- MUL: Instruction mul writes the low 64 bits of RA × RB, cost 3 (R76) -/
  | mul (q : Thr) (rd ra rb : BitVec 5)
  /-- MIN: Instruction min writes the signed minimum of RA and RB (R76) -/
  | minS (q : Thr) (rd ra rb : BitVec 5)
  /-- MAX: Instruction max writes the signed maximum of RA and RB (R76) -/
  | maxS (q : Thr) (rd ra rb : BitVec 5)
  /-- SLT: Instruction slt sets RD to 1 if RA < RB signed, else 0 (R76) -/
  | slt (q : Thr) (rd ra rb : BitVec 5)
  /-- SLTU: Instruction sltu sets RD to 1 if RA < RB unsigned, else 0 (R76) -/
  | sltu (q : Thr) (rd ra rb : BitVec 5)
  /-- ADDI: Instruction addi writes RA + IMM to RD (R76) -/
  | addi (q : Thr) (rd ra : BitVec 5) (imm : BitVec 32)
  /-- ANDI: Instruction andi ANDs RA with the sign-extended IMM (R76) -/
  | andi (q : Thr) (rd ra : BitVec 5) (imm : BitVec 32)
  /-- ORI: Instruction ori ORs RA with the sign-extended IMM (R76) -/
  | ori (q : Thr) (rd ra : BitVec 5) (imm : BitVec 32)
  /-- XORI: Instruction xori XORs RA with the sign-extended IMM (R76) -/
  | xori (q : Thr) (rd ra : BitVec 5) (imm : BitVec 32)
  /-- SHLI: Instruction shli shifts RA left by IMM[5:0] (R76) -/
  | shli (q : Thr) (rd ra : BitVec 5) (imm : BitVec 32)
  /-- SHRI: Instruction shri shifts RA right logically by IMM[5:0] (R76) -/
  | shri (q : Thr) (rd ra : BitVec 5) (imm : BitVec 32)
  /-- SARI: Instruction sari shifts RA right arithmetically by IMM[5:0] (R76) -/
  | sari (q : Thr) (rd ra : BitVec 5) (imm : BitVec 32)
  /-- MULI: Instruction muli writes the low 64 bits of RA × IMM, cost 3 (R76) -/
  | muli (q : Thr) (rd ra : BitVec 5) (imm : BitVec 32)
  /-- LDI: Instruction ldi loads the sign-extended IMM into RD (R76) -/
  | ldi (q : Thr) (rd : BitVec 5) (imm : BitVec 32)
  /-- LDIH: Instruction ldih loads IMM into RD[63:32], keeping RD[31:0] (R76) -/
  | ldih (q : Thr) (rd : BitVec 5) (imm : BitVec 32)
  /-- LD: Instruction ld loads a data memory word into RD (R76) -/
  | ld (q : Thr) (rd ra : BitVec 5) (off : BitVec 13)
  /-- ST: Instruction st stores RB into a data memory word (R76) -/
  | st (q : Thr) (ra rb : BitVec 5) (off : BitVec 13)
  /-- LDD: Instruction ldd loads a decision slot word without waiting, seeing the word as it stood before the present tick (R174) -/
  | ldd (q : Thr) (rd ra : BitVec 5) (off : BitVec 13)
  /-- LDF: Instruction ldf loads the frame ledger bits of a qubit slot as they stood before the present tick (R183) -/
  | ldf (q : Thr) (rd ra : BitVec 5) (off : BitVec 13)
  /-- MFS: Instruction mfs copies a special register into a general register, or raises program error 0x02 on a reserved index (R71) -/
  | mfs (q : Thr) (g sr : BitVec 5)
  /-- MTS: Instruction mts writes a special register, or raises program error 0x02 on a read-only or reserved index (R71) -/
  | mts (q : Thr) (g sr : BitVec 5)
  /-- AT: Instruction at sets the time cursor to RA with fine position 0 (R63) -/
  | opAt (q : Thr) (ra : BitVec 5)
  /-- ADV: Instruction adv advances the time cursor by IMM fine steps (R63) -/
  | adv (q : Thr) (imm : BitVec 32)
  /-- ADVR: Instruction advr moves the time cursor by the signed RA in fine steps (R63) -/
  | advr (q : Thr) (ra : BitVec 5)
  /-- ATW: Instruction atw sets the time cursor to WT plus IMM fine steps (R63) -/
  | atw (q : Thr) (imm : BitVec 32)
  /-- ATNOW: Instruction atnow sets the time cursor to forest time at issue plus IMM fine steps (R63) -/
  | atnow (q : Thr) (imm : BitVec 32)
  /-- JMP: Instruction jmp goes to TARGET (R73) -/
  | jmp (q : Thr) (target : BitVec 17)
  /-- BEQ: Instruction beq branches if RA equals RB (R73) -/
  | beq (q : Thr) (ra rb : BitVec 5) (target : BitVec 17)
  /-- BNE: Instruction bne branches if RA differs from RB (R73) -/
  | bne (q : Thr) (ra rb : BitVec 5) (target : BitVec 17)
  /-- BLT: Instruction blt branches if RA < RB signed (R73) -/
  | blt (q : Thr) (ra rb : BitVec 5) (target : BitVec 17)
  /-- BGE: Instruction bge branches if RA ≥ RB signed (R73) -/
  | bge (q : Thr) (ra rb : BitVec 5) (target : BitVec 17)
  /-- BLTU: Instruction bltu branches if RA < RB unsigned (R73) -/
  | bltu (q : Thr) (ra rb : BitVec 5) (target : BitVec 17)
  /-- BGEU: Instruction bgeu branches if RA ≥ RB unsigned (R73) -/
  | bgeu (q : Thr) (ra rb : BitVec 5) (target : BitVec 17)
  /-- BBS: Instruction bbs branches if bit AUX of RA is 1 (R73) -/
  | bbs (q : Thr) (ra : BitVec 5) (aux : BitVec 6) (target : BitVec 17)
  /-- BBC: Instruction bbc branches if bit AUX of RA is 0 (R73) -/
  | bbc (q : Thr) (ra : BitVec 5) (aux : BitVec 6) (target : BitVec 17)
  /-- BDV: Instruction bdv branches if WS is valid and the named VALUE bit of the decision word is 1 (R179) -/
  | bdv (q : Thr) (ra : BitVec 5) (aux : BitVec 6) (target : BitVec 17)
  /-- BDN: Instruction bdn branches if WS is valid and the named VALUE bit of the decision word is 0 (R179) -/
  | bdn (q : Thr) (ra : BitVec 5) (aux : BitVec 6) (target : BitVec 17)
  /-- BWS: Instruction bws branches if bit WS of AUX[3:0] is 1 (R76) -/
  | bws (q : Thr) (aux : BitVec 6) (target : BitVec 17)
  /-- LOOP: Instruction loop decrements a loop counter and branches if the result is not zero (R87) -/
  | loop (q : Thr) (aux : BitVec 6) (target : BitVec 17)
  /-- CALL: Instruction call pushes PC + 1 and jumps, or raises program error 0x03 at stack depth 16 (R87) -/
  | call (q : Thr) (target : BitVec 17)
  /-- RET: Instruction ret pops and jumps, or raises program error 0x04 at depth 0 (R87) -/
  | ret (q : Thr)
  /-- JR: Instruction jr goes to RA[16:0] (R73) -/
  | jr (q : Thr) (ra : BitVec 5)
  /-- PLAY: Instruction play queues a timed command that starts a pattern on a target, advancing the cursor under TC+ (R119) -/
  | play (q : Thr) (sm : BitVec 2) (d rs : Bool) (src : BitVec 5) (tgt : BitVec 8) (pat : BitVec 15) (scale : BitVec 16)
  /-- JSEG: Instruction jseg queues a timed command that cuts, joins or plays a new pattern on a target (R122) -/
  | jseg (q : Thr) (sm : BitVec 2) (d rs : Bool) (src : BitVec 5) (tgt : BitVec 8) (pat : BitVec 15) (scale : BitVec 16)
  /-- STAGE: Instruction stage queues a timed command that fills the target's staging buffer with a pattern's entry and first samples (R121) -/
  | stage (q : Thr) (sm : BitVec 2) (tgt : BitVec 8) (pat : BitVec 15)
  /-- SETF: Instruction setf queues a timed change of a tone's frequency word (R115) -/
  | setf (q : Thr) (sm : BitVec 2) (src : BitVec 5) (tgt : BitVec 8)
  /-- SETP: Instruction setp queues a timed change of a tone's phase offset (R115) -/
  | setp (q : Thr) (sm : BitVec 2) (rs : Bool) (src : BitVec 5) (tgt : BitVec 8) (val : BitVec 32)
  /-- VZ: Instruction vz queues a timed addition to a tone's virtual-Z phase (R117) -/
  | vz (q : Thr) (sm : BitVec 2) (rs : Bool) (src : BitVec 5) (tgt : BitVec 8) (val : BitVec 32)
  /-- ACQ: Instruction acq queues a timed command that opens acquisition windows on the named demodulation channels (R151) -/
  | acq (q : Thr) (sm : BitVec 2) (mask : BitVec 24) (len : BitVec 17)
  /-- MARK: Instruction mark queues a timed marker pulse, set or clear, or raises program error 0x02 for ACT 0b11 (R129) -/
  | mark (q : Thr) (sm act : BitVec 2) (m : BitVec 5) (width : BitVec 16)
  /-- FLUX: Instruction flux queues a timed change of a flux channel's level (R252) -/
  | flux (q : Thr) (sm : BitVec 2) (rs : Bool) (src : BitVec 5) (tgt : BitVec 8) (val : BitVec 32)
  /-- EMIT: Instruction emit queues a timed pulse of a thread event source into the seam matrix (R285) -/
  | emit (q : Thr) (sm ev : BitVec 2)
  /-- WTRIG: Instruction wtrig waits for a trigger input, ending at once on a pending trigger or set latch (R81) -/
  | wtrig (q : Thr) (n : BitVec 3) (tmo : BitVec 32)
  /-- ARM: Instruction arm arms a trigger input in armed mode, or clears its latch in latched mode (R81) -/
  | arm (q : Thr) (n : BitVec 3)
  /-- WDEC: Instruction wdec waits for a decision slot written at or after the reference tick, loading and optionally frame-adjusting the word (R83) -/
  | wdec (q : Thr) (rd : BitVec 5) (idx : BitVec 12) (f : Bool) (tmo : BitVec 32)
  /-- WBAR: Instruction wbar arrives at a barrier and waits for its release (R85) -/
  | wbar (q : Thr) (b : BitVec 6) (tmo : BitVec 32)
  /-- WPTP: Instruction wptp waits until PTP time reaches RA, making the shot not replayable (R51) -/
  | wptp (q : Thr) (ra : BitVec 5)
  /-- WQ: Instruction wq waits until the thread's timed queue is empty (R76) -/
  | wq (q : Thr)
  /-- SHOT_BEGIN: Instruction shot.begin waits for the previous commit, acts as a barrier for a joint shot, may be held for a pause, then takes the checkpoint and opens the scope (R91) -/
  | shotBegin (q : Thr) (rep joint blk : Bool) (bar : BitVec 6) (reset : BitVec 32)
  /-- SHOT_END: Instruction shot.end closes the shot scope, acting as a barrier for a joint shot, and lets the shot commit at its commit tick (R93) -/
  | shotEnd (q : Thr)
  /-- END: Instruction end ends the launch and takes the thread to Draining (R70) -/
  | opEnd (q : Thr)
  /-- ILLEGAL_INSTRUCTION: Issue of a word whose opcode is not defined, or past the end of instruction memory, raises program error 0x02 (R76) -/
  | illegalInstruction (q : Thr)
  /-- TIMED_COMMAND_DISPATCH: A command at the head of a timed queue reaches its dispatch tick, 38 ticks before its stamp, and is dispatched to its unit, which acts at the stamp (R65) -/
  | timedDispatch (q : Thr)
  /-- PATTERN_END: A pattern's last sample is played and the envelope returns to zero, or a pending join starts the next pattern (R119) -/
  | patternEnd (tgt : Tgt)
  /-- MARKER_PULSE_END: A marker pulse or span reaches its end and the marker output falls unless held (R128) -/
  | markerPulseEnd (tile m : Nat)
  /-- WAIT_TIMEOUT: A wait's timeout tick TC + TMO passes without its condition, ending the wait with WS = 3 (R80) -/
  | waitTimeout (q : Thr)
  /-- THREAD_WAKE: A thread issues again 3 ticks after its wait condition was met or timed out, on the priority slot if it holds priority (R77) -/
  | threadWake (q : Thr)
  /-- TRIGGER_ARRIVAL: A trigger reaches a thread's trigger input and is counted, held pending, latched or ignored by its mode (R81) -/
  | triggerArrival (q : Thr) (n : BitVec 3)
  /-- BARRIER_RELEASE: A barrier reaches its release tick and releases all its participants with WT set to that tick (R85) -/
  | barrierRelease (b : Nat)
  /-- PTP_TIME_DUE: PTP whole nanoseconds reach or pass a pending PTP target, ending a wptp or a PTP start (R51) -/
  | ptpTimeDue (q : Thr)
  /-- LAUNCH_START: A launch reaches the front of an Idle thread's launch queue and starts in its start mode, or is refused with a fault completion (R97) -/
  | launchStart (q : Thr)
  /-- DRAIN_COMPLETE: A Draining thread's queue empties and its acquisitions have arrived, so the launch completes and the thread becomes Idle (R70) -/
  | drainComplete (q : Thr)
  /-- FAULT_COMPLETION: A Faulted thread writes its fault completion and becomes Idle (R70) -/
  | faultCompletion (q : Thr)
  /-- SHOT_COMMIT: A shot reaches its commit tick, moving its holding area records toward the result queue and releasing a held shot.begin (R93) -/
  | shotCommit (id : Nat)
  /-- PAUSE_END: A thread Held for a throttling pause reaches the end of the pause, takes its checkpoint and moves TC and WT later (R362) -/
  | pauseEnd (q : Thr)
  /-- FAULT_DETECTED: A fault is detected and attributed, unpicking its shot or ending its owner's launch, and is reported (R342) -/
  | faultDetected (f : FaultReport)
  /-- REPLAY_RESUME: At tick v each participant of an unpicked shot resumes issue, or runs its reset block (R94) -/
  | replayResume (q : Thr)
  /-- LEAVE_ACTIVE: After a request, the device leaves Active in the tick after the last shot in progress ends, stopping threads outside shots and sending the park order (R24) -/
  | leaveActive
  /-- POWER_TRANSITION_COMPLETE: A power state transition completes, updating CUR and LAST_CAUSE and pulsing seam source 509 (R22) -/
  | powerTransitionComplete
  /-- WAKE_EVENT: An event on an asynchronous seam channel enabled in WAKE while Dormant requests leaving Dormant (R299) -/
  | wakeEvent
  /-- PLL_LOCK: The RF PLL reaches lock and PLL_LOCK sets, with the tick divider aligned to the input (R35) -/
  | pllLock
  /-- REF_LOST: The reference monitor finds REF_IN missing or off frequency, clearing REF_OK and entering holdover (R36) -/
  | refLost
  /-- REF_OK_RESTORE: After 1,024 consecutive good REF_IN edges REF_OK sets again, holdover continuing until RELOCK (R37) -/
  | refOkRestore
  /-- SYNC_EDGE: A REF_IN edge at which SYNC_IN is sampled is qualified or refused, stamping in check mode and arming the load in load mode (R40) -/
  | syncEdge (e : SyncEdge)
  /-- FOREST_TIME_LOAD: LOAD_DELAY ticks after a qualified edge forest time takes LOAD_VALUE plus the skew correction, FT_VALID sets and ARM clears (R41) -/
  | forestTimeLoad
  /-- XTAL_AGEING_UPDATE: Once per second AGE_RATE / 86,400 is added to the crystal trim accumulator (R38) -/
  | xtalAgeingUpdate
  /-- XTAL_ACCUM_COMMIT: After 24 h of operation, or on entry to Dormant, ACCUM is committed to heartwood (R38) -/
  | xtalAccumCommit
  /-- SKEW_CAL_DONE: A skew calibration run finishes, computing DELTA, applying it under AUTO_APPLY and setting DONE, or ERR (R45) -/
  | skewCalDone (m : SkewResult)
  /-- PTP_MESSAGE_RX: A PTP event message is received and timestamped at the balls, driving the servo exchange (R53) -/
  | ptpMessageRx (m : PtpMessage)
  /-- PTP_SYNC_TX: As time transmitter the device sends a Sync message at each sync interval (R52) -/
  | ptpSyncTx
  /-- COUNTER_LOW_READ: A low-half or 64-bit read of a counter returns it and copies the high half into the shadow, capturing the PTP fraction for PTP_NS (R59) -/
  | counterLowRead (req : Requester) (addr : Nat)
  /-- BOBBIN_REFILL_REQUEST: When enough of the ring is free the refill engine requests the next chunk through the feed (R133) -/
  | bobbinRefillRequest (t : BitVec 4) (b : BitVec 2)
  /-- BOBBIN_REFILL_DATA: Refill response data arrives and is written in stream order, advancing WP or counting SKIPPED (R133) -/
  | bobbinRefillData (t : BitVec 4) (b : BitVec 2) (data : List (BitVec 32))
  /-- BOBBIN_LOOP_JUMP: RP reaching the captured LOOP_END with loops left jumps to LOOP_MARK, possibly overrunning (R134) -/
  | bobbinLoopJump (t : BitVec 4) (b : BitVec 2)
  /-- ADC_OVER_RANGE: A slice's over-range detector flags a sample, counting it, setting OVR_SEEN and pulsing the over-range event (R142) -/
  | adcOverRange (t : BitVec 4) (slice : BitVec 4) (input : Int)
  /-- CORR_PERIOD_COPY: In hardware mode every PERIOD ms the estimator's coefficients become the pending set (R145) -/
  | corrPeriodCopy (t : BitVec 4) (est : Option (List Word))
  /-- CORR_APPLY: A pending coefficient set becomes ACTIVE at the tile's next ADC boundary (R146) -/
  | corrApply (t : BitVec 4)
  /-- WINDOW_OPEN: Forest time reaches a waiting window's W and the channel becomes Open (R154) -/
  | windowOpen (t : BitVec 4) (c : BitVec 5)
  /-- WINDOW_END: A window reaches its end E and is dumped, discriminated and latched into its decision slot at fixed delays (R157) -/
  | windowEnd (t : BitVec 4) (c : BitVec 5) (codes : List Int)
  /-- DEMOD_BANK_APPLY: A pending demodulation bank is applied at the channel's next boundary (R160) -/
  | demodBankApply (t : BitVec 4) (c : BitVec 5)
  /-- TRAINING_DONE: A training run has all its windows; MP1 forms the kernel and boundaries, commits, and pulses training done (R161) -/
  | trainingDone (t : BitVec 4)
  /-- TRACE_TRIGGER: The capture's trigger occurs and the raw buffer fills from PRE samples before it (R163) -/
  | traceTrigger (t : BitVec 4)
  /-- TRACE_DONE: A trace capture completes and DONE sets (R163) -/
  | traceDone (t : BitVec 4) (samples : List (Int × Bool))
  /-- FRAME: Descriptor FRAME applies XOR or SET operations to the frame ledger, or is rejected for lateness (R185) -/
  | frame (d : Desc)
  /-- PATCH_ASSEMBLY: A patch's inputs have closed their rounds and it assembles the next round, looking up the table and deciding escalation (R188) -/
  | patchAssembly (p : BitVec 6)
  /-- PATCH_RESULT: At A + 12 a patch updates the ledger, writes its result slot and forms its escalations (R191) -/
  | patchResult (p : BitVec 6)
  /-- DEFECT_FORWARD_RX: A received defect forward is written to a mapped slot or becomes a REASON 7 defect record (R195) -/
  | defectForwardRx (f : DefectForward)
  /-- LANE_LOSS_OF_SIGNAL: No received transitions for 100 ns take a lane to Detect (R210) -/
  | laneLossOfSignal (l : BitVec 5)
  /-- LANE_DETECT: A far-end receiver and signal are detected and the lane enters Train, or Quiet on no answer (R210) -/
  | laneDetect (l : BitVec 5) (signal : Bool)
  /-- LANE_TRAINED: Adaptation converges and presets are agreed, taking the lane to Lock (R210) -/
  | laneTrained (l : BitVec 5) (preset : BitVec 3) (ctle : BitVec 4) (taps : Vector Int 12)
  /-- LANE_LOCKED: CDR lock and 64 valid training headers load the descrambler and take the lane to Align (R210) -/
  | laneLocked (l : BitVec 5) (scr : BitVec 31)
  /-- LANE_ALIGNED: Two valid markers and group deskew freeze the elastic depth and take the lane to Exchange (R210) -/
  | laneAligned (l : BitVec 5) (skew : BitVec 20)
  /-- LANE_EXCHANGED: Identity and flight are measured, L is set, and the lane enters Active, pulsing lane-up (R218) -/
  | laneExchanged (l : BitVec 5) (dev : BitVec 11) (lane : BitVec 5) (trips : BitVec 32)
  /-- LANE_STATE_TIMEOUT: A lane stays too long in Train, Lock, Align or Exchange and falls back or enters Quiet (R210) -/
  | laneStateTimeout (l : BitVec 5)
  /-- QUIET_BACKOFF_END: A lane's Quiet backoff ends and it returns to Detect (R211) -/
  | quietBackoffEnd (l : BitVec 5)
  /-- EQ_GUARD_PERIOD: Every 65,536 UI a receiver evaluates activity, freezing adaptation or restoring taps (R215) -/
  | eqGuardPeriod (l : BitVec 5) (transitions exc : BitVec 17) (ctle : BitVec 4) (taps : Vector Int 12)
  /-- MARKER_TX: A selvedge marker is sent in each marker slot (R216) -/
  | markerTx (l : BitVec 5)
  /-- MARKER_RX: A received marker is checked and timestamped, counting errors or mismatches and taking the lane to Align on two bad markers (R217) -/
  | markerRx (l : BitVec 5) (wire : BitVec 256) (arrival : Word) (frac : BitVec 8)
  /-- STITCH_TX: A stitch is built for a lane slot, filled with due decision entries or bulk data, overflowing to TYPE 0x2 (R209) -/
  | stitchTx (l : BitVec 5)
  /-- DECISION_STITCH_RX: A decision stitch is decoded and each entry is delivered, forwarded or dropped by its receive entry (R224) -/
  | decisionStitchRx (l : BitVec 5) (wire : BitVec 256)
  /-- EXPECTATION_TICK: An expected tick passes without delivery and the slot is written absent or lost, or NOSHOW counts (R227) -/
  | expectationTick (l : BitVec 5) (r : BitVec 9)
  /-- LANE_LOSS: Eight slots without a valid stitch declare loss, leaving Active and sending DOWN on forwarded routes (R228) -/
  | laneLoss (l : BitVec 5)
  /-- BULK_STITCH_RX: A bulk or idle stitch is received, acknowledged or NAKed, and its message delivered or routed (R236) -/
  | bulkStitchRx (l : BitVec 5) (wire : BitVec 256)
  /-- BULK_RETRANSMIT: On a NAK the transmitter resends from the stitch after ACK (R236) -/
  | bulkRetransmit (l : BitVec 5)
  /-- BULK_RETRY_EXHAUSTED: A bulk stitch exceeds its retries or 512 ns, declaring loss and dropping the replay buffer (R236) -/
  | bulkRetryExhausted (l : BitVec 5)
  /-- ARRIVE: A control entry ARRIVE for a barrier generation is taken, completing a subtree's arrival (R231) -/
  | arrive (l : BitVec 5) (b : BitVec 6) (gen : BitVec 4) (tick : BitVec 36)
  /-- RELEASE: A control entry RELEASE sets the release tick, is forwarded down the tree, or is late (R231) -/
  | release (l : BitVec 5) (b : BitVec 6) (gen : BitVec 4) (tick : BitVec 36)
  /-- UNPICK_RX: A control entry UNPICK unpicks the local participants of that generation and is forwarded, or is late (R233) -/
  | unpickRx (l : BitVec 5) (b : BitVec 6) (gen : BitVec 4) (tick : BitVec 36)
  /-- PAUSE_RX: A control entry PAUSE records a pause length for a generation, or is discarded as late (R234) -/
  | pauseRx (l : BitVec 5) (b : BitVec 6) (gen : BitVec 4) (len : BitVec 16)
  /-- DOWN: A control entry DOWN marks a source device down on the lane and is forwarded (R225) -/
  | down (l : BitVec 5) (dev : BitVec 11) (tick : BitVec 36)
  /-- UP: A control entry UP clears a source device's down mark and is forwarded (R225) -/
  | up (l : BitVec 5) (dev : BitVec 11) (tick : BitVec 36)
  /-- BIAS_UPDATE: Once per microsecond a bias die moves each output toward its target, slewing, deglitching and changing range (R241) -/
  | biasUpdate (d : BitVec 1) (loads : List BiasLoad)
  /-- BIAS_CLR_N: BIAS_CLR_N held low for 1 µs parks all outputs and refuses their writes until it returns high (R247) -/
  | biasClrN (low : Bool) (samples : Nat)
  /-- BIAS_DIE_READY: A bias die becomes ready, closes its switches at code 0 and slews to park (R246) -/
  | biasDieReady (d : BitVec 1)
  /-- PARK_TABLE_TIMEOUT: No park table by 18 ms after power-on makes the die use the default table and set PARK_DEFAULT (R246) -/
  | parkTableTimeout (d : BitVec 1)
  /-- PARK_TABLE_RX: A park table reaches a bias die and is applied to its PARK registers and unwritten outputs (R385) -/
  | parkTableRx (d : BitVec 1) (table : List Word)
  /-- BIAS_DRIFT_TRACK: Every TRACK_PERIOD MP1 compares a readback with the target and moves TRIM by one LSB (R249) -/
  | biasDriftTrack (d : BitVec 1) (b : BitVec 8)
  /-- FLUX_BANK_APPLY: A pending flux bank is applied at the channel's next boundary (R257) -/
  | fluxBankApply (t k : BitVec 4)
  /-- FLX_FIT_DONE: A fitting run ends; MP1 fits sections and FIR, commits, and pulses fit done, or sets ERR (R260) -/
  | flxFitDone (t : BitVec 4)
  /-- TDC_EDGE: An input crosses its threshold, producing a timestamped edge that feeds units and the seam matrix (R262) -/
  | tdcEdge (n : BitVec 5) (frac : BitVec 10)
  /-- TDC_WINDOW_EXPIRY: WINDOW passes with no stop, ending the measurement without result and counting NOSTOP (R265) -/
  | tdcWindowExpiry (u : BitVec 4)
  /-- TDC_HELD_STOP_EXPIRY: A held stop in signed mode becomes older than WINDOW and is discarded (R266) -/
  | tdcHeldStopExpiry (u : BitVec 4)
  /-- TDC_RECOVERY_END: A unit's dead time ends and it returns to Armed (R268) -/
  | tdcRecoveryEnd (u : BitVec 4)
  /-- TDC_RECALIBRATE: A precision unit recalibrates its interpolator gain every 1 ms (R275) -/
  | tdcRecalibrate (u : BitVec 4)
  /-- TDC_QUEUE_POP: A read of Q_DATA pops the head word, reporting underrun and poison (R271) -/
  | tdcQueuePop (u : BitVec 4) (req : Requester)
  /-- PT_CAL_EDGE: PT_CAL drives its scheduled edge, which is a CAL start for precision units (R274) -/
  | ptCalEdge
  /-- MON_TIMER_START: The monitor timer expires and starts a sequence (R279) -/
  | monTimerStart (d : BitVec 1)
  /-- MON_SEAM_START: A seam start-line edge starts a monitor sequence after DELAY (R279) -/
  | monSeamStart (d : BitVec 1)
  /-- MON_CONVERSION_DONE: A monitor conversion ends, its result is stored and limit-checked, and the next conversion is chosen (R280) -/
  | monConversionDone (d : BitVec 1) (signal : Int)
  /-- SEAM_EVENT: A source event is carried on the channels routing it to consumers and the log (R286) -/
  | seamEvent (src : BitVec 9)
  /-- TACK_FILTER_EXPIRY: A tack cell's LUT output holds for F ticks and its filter output changes (R292) -/
  | tackFilterExpiry (n : BitVec 6)
  /-- TIMER_ORIGIN: Forest time reaches ORIGIN with ORIGIN_EN set and the timer starts (R294) -/
  | timerOrigin (k : BitVec 4)
  /-- TIMER_EXPIRY: A running timer reaches a period or compare boundary and changes its output (R294) -/
  | timerExpiry (k : BitVec 4)
  /-- LOG_POP: A read of SEAM.LOG_DATA pops the event log head (R300) -/
  | logPop (req : Requester)
  /-- KENPER_M_DATAGRAM: A Kenper-M datagram is received, checked, queued or answered from the kept response, and its operations executed (R307) -/
  | kenperMDatagram (link : Nat) (src : MSource) (port : BitVec 16) (bytes : List Byte)
  /-- LINK_CHANGE: An Ethernet link goes up or down and a link change notice is written (R329) -/
  | linkChange (l : BitVec 3) (up : Bool)
  /-- QP_ERROR: A queue pair enters Error by write or transport failure, stopping its rings and flushing fetched descriptors (R304) -/
  | qpError (q : BitVec 6) (cause : BitVec 4)
  /-- ACK_TIMEOUT: A queue pair's ACK timer expires and it retransmits, or enters Error when retries are exhausted (R305) -/
  | ackTimeout (q : BitVec 6)
  /-- ROCE_PACKET_RX: A RoCE packet arrives and is processed as a response, request or NAK, with PSN gap recovery (R303) -/
  | rocePacketRx (q : BitVec 6) (p : RocePacket)
  /-- ECN_CE_RX: A packet marked ECN CE makes the device send a congestion notification packet (R306) -/
  | ecnCeRx (q : BitVec 6)
  /-- CNP_RX: A received congestion notification halves the queue pair's send rate (R306) -/
  | cnpRx (q : BitVec 6)
  /-- RATE_RECOVERY: Every 50 µs without notification the queue pair's send rate doubles toward link rate (R306) -/
  | rateRecovery (q : BitVec 6)
  /-- DOORBELL: An 8-byte RDMA WRITE into the doorbell window replaces a ring index (R314) -/
  | doorbell (q : BitVec 6) (addr : Word) (bytes : List Byte)
  /-- INLINE_SEND: A SEND delivers descriptors to an inline command ring, or receives an RNR NAK (R316) -/
  | inlineSend (q : BitVec 6) (bytes : List Byte)
  /-- DESCRIPTOR_FETCH: The device reads pending descriptors from a command ring and writes the shadow CI (R315) -/
  | descriptorFetch (r : BitVec 6)
  /-- DESCRIPTOR_BEGIN: A fetched descriptor begins once its fence is met (R315) -/
  | descriptorBegin (r : BitVec 6)
  /-- DESC_NOP: Descriptor NOP does nothing and completes (R317) -/
  | descNop (d : Desc)
  /-- BAD_DESCRIPTOR: A descriptor with an unknown opcode completes with BAD_DESCRIPTOR (R317) -/
  | badDescriptor (d : Desc)
  /-- REG_WRITE: Descriptor REG_WRITE makes up to three register writes after a scope check (R318) -/
  | regWrite (d : Desc)
  /-- PARAM: Descriptor PARAM holds register writes for a thread's next shot boundary or launch start (R319) -/
  | param (d : Desc)
  /-- PARAM_APPLY: Held PARAM writes are applied in one tick at the thread's next point and complete (R319) -/
  | paramApply (q : Thr)
  /-- LOAD: Descriptor LOAD fetches data from host memory into a device space (R321) -/
  | load (d : Desc)
  /-- LOAD_DATA: A LOAD's READ response data arrives and is written, with image CRC check at the end (R321) -/
  | loadData (r : BitVec 6) (index : Nat) (bytes : List Byte)
  /-- READ: Descriptor READ copies a device space to host memory by RDMA WRITE, or drains a queue (R321) -/
  | read (d : Desc)
  /-- SHARE: Descriptor SHARE makes a LOAD on another device over the fabric (R321) -/
  | share (d : Desc)
  /-- SHARE_ACK: The destination of a SHARE acknowledges or refuses and the SHARE completes (R321) -/
  | shareAck (r : BitVec 6) (index : Nat) (status : BitVec 8)
  /-- LAUNCH: Descriptor LAUNCH places a launch in a thread's launch queue, or completes with LQ_FULL or NO_ENTRY (R322) -/
  | launch (d : Desc)
  /-- FEED: Descriptor FEED appends a host memory extent to a bobbin's feed (R324) -/
  | feed (d : Desc)
  /-- COMPLETION_WRITE: A completion or notice is written to its ring when there is room and the count goes to the shadow (R326) -/
  | completionWrite
  /-- HOLDING_AREA_MOVE: Committed records move from the holding area into the result queue as space appears (R332) -/
  | holdingAreaMove (t : BitVec 4)
  /-- RESULT_BATCH: A result writer sends a batch of records to its ring on COALESCE or HOLDOFF and posts a notice (R336) -/
  | resultBatch (t : BitVec 4)
  /-- RQ_POP: A read of RQ.DATA pops one word when DELIVER = 0 (R335) -/
  | rqPop (t : BitVec 4) (req : Requester)
  /-- SCRUB_READ: The scrubber reads the next word of an array, correcting or poisoning it (R341) -/
  | scrubRead (locus tile addr : Nat) (finding : ScrubFinding)
  /-- MODEL_UPDATE: Every 10 µs the canopy model and heat ledger advance and the throttling levels move (R356) -/
  | modelUpdate (sens : List SensorSample)
  /-- DIODE_READ: Every 1 ms the diodes are read and the plate temperature updated (R357) -/
  | diodeRead (readings : List Int)
  /-- HEARTWOOD_WRITE_START: A pending record write starts inside the temperature window, capturing live values (R370) -/
  | heartwoodWriteStart
  /-- HEARTWOOD_WRITE_DONE: A record write is read back and committed, or ends with VERIFY_FAIL (R383) -/
  | heartwoodWriteDone (ok : Bool)
  /-- HEARTWOOD_WRITE_REJECT: A write not started within 10 s is rejected with TEMPERATURE (R370) -/
  | heartwoodWriteReject
  /-- FLASH_OP_DONE: A flash operation ends, clearing BUSY and setting ERR on failure (R380) -/
  | flashOpDone (error : Bool)
  /-- SUPPLY_GOOD: All trunk-side rails stay good for 1 ms and the trunk begins to boot (R371) -/
  | supplyGood (least : Rails)
  /-- BIAS_SUPPLY_GOOD: A bias die's rails stay good for 1 ms and the die starts its power-up (R371) -/
  | biasSupplyGood (d : BitVec 1) (least : Rails)
  /-- RAIL_FALL: A rail falls below its fall threshold, resetting the dies it powers and abandoning heartwood writes (R373) -/
  | railFall (rail : Rail) (mv : Int)
  /-- RST_N: RST_N held low for 1 µs resets the trunk and quadrant dies, which boot on its release (R374) -/
  | rstN (low : Bool) (samples : Nat)
  /-- BOOT: ROM reads heartwood, sends park tables and loads firmware after supply good or RST_N release (R377) -/
  | boot
  /-- FIRMWARE_VERIFIED: The flash image read completes and is verified, or the other slot is tried, or recovery is entered (R379) -/
  | firmwareVerified (image : Option FlashImage)
  /-- BOOT_COMPLETE: Firmware finishes initialising, the device enters Standby and seam source 510 pulses (R377) -/
  | bootComplete
  /-- QUADRANT_READY: A quadrant die finishes powering up, locks its converter clocks and trains its bridge, and QREADY sets (R20) -/
  | quadrantReady (q : BitVec 2)
  /-- TRAINING_STITCH_RX: Training stitches arrive on a lane in Align, Exchange or Active and take it back to Lock (R210) -/
  | trainingStitchRx (l : BitVec 5)
  /-- STITCH_SLOT_INVALID: A lane slot passes with no valid or correctable stitch (missing, bad header or reserved type), marking the window invalid, counting MISSING and sending forwards as TYPE 0x2 (R228) -/
  | stitchSlotInvalid (l : BitVec 5)
  /-- PTP_DELAY_REQ_TX: As time receiver the device sends a Delay_Req or Pdelay_Req to measure the path delay (R52) -/
  | ptpDelayReqTx
  /-- RNR_RETRY_TIMER: After an RNR NAK the queue pair's RNR timer expires and it retries the request, or enters Error when RNR_RETRY is exhausted (R305) -/
  | rnrRetryTimer (q : BitVec 6)
  /-- ETHERNET_FRAME_RX: A frame that is not RoCE, Kenper-M or PTP arrives: ARP, neighbour solicitation, ICMP echo or PFC is answered or acted on, and anything else is discarded into RX_BAD (R302) -/
  | ethernetFrameRx (l : BitVec 3) (f : EthFrame)
  /-- KENPER_M_RESPONSE: A Kenper-M request finishes executing, its response is sent and kept, and the next waiting request begins (R309) -/
  | kenperMResponse
  /-- ADC_CODE_CLIP: A readout ADC sample reaches ±2,047 and CODE_CLIPS increments, independently of the over-range detector (R142) -/
  | adcCodeClip (t : BitVec 4) (slice : BitVec 4) (code : Int)
  /-- THREAD_STOP: A write of STOP ends a thread's launch in any non-Idle state with fault code 0x0A (R100) -/
  | threadStop (q : Thr) (w : WriteOp)
  /-- FLUSH_LQ: A write of FLUSH_LQ empties the thread's launch queue, completing each flushed launch with 0x0A (R100) -/
  | flushLq (q : Thr) (w : WriteOp)
  /-- POWER_REQUEST: A write of GLOBAL.PWR.REQ requests a power state change, held while BUSY is set (R22) -/
  | powerRequest (w : WriteOp)
  /-- REF_CFG_WRITE: A write of SRC or FREQ changes the RF PLL input in Standby and relocks, or is refused with CFG_REFUSED (R32) -/
  | refCfgWrite (w : WriteOp)
  /-- RELOCK: A write of RELOCK in Standby leaves holdover and relocks the RF PLL, invalidating forest time and the PTP clock (R37) -/
  | relock (w : WriteOp)
  /-- SYNC_ARM_WRITE: A write of ARM = 1 arms a load, or is refused while any thread runs or timed queue holds commands (R43) -/
  | syncArmWrite (w : WriteOp)
  /-- SKEW_CAL_START: A write of START begins a skew calibration run against the parent lane (R45) -/
  | skewCalStart (w : WriteOp)
  /-- PTP_INCR_WRITE: A write of INCR changes the PTP increment from the next tick, clamping out-of-range values (R54) -/
  | ptpIncrWrite (w : WriteOp)
  /-- PTP_STEP: A write of PTP_STEP adds its signed value to the PTP whole nanoseconds (R55) -/
  | ptpStep (w : WriteOp)
  /-- LATCH_GO: A write of GO latches forest time and PTP time together at one tick (R57) -/
  | latchGo (w : WriteOp)
  /-- DIRECTORY_WORD1_WRITE: A write to word 1 of a pattern directory entry goes to the entry's staging copy (R110) -/
  | directoryWord1Write (p : BitVec 15) (w : WriteOp)
  /-- DIRECTORY_COMMIT: A write to word 0 commits both words of a directory entry, or stores it empty and counts REJ if invalid (R110) -/
  | directoryCommit (p : BitVec 15) (w : WriteOp)
  /-- SYN_CH_CFG_WRITE: A write of a synthesis channel's CFG changes ENABLE and ZONE, refusing a ZONE change while enabled (R126) -/
  | synChCfgWrite (t : BitVec 4) (c : BitVec 2) (w : WriteOp)
  /-- BOBBIN_CFG_WRITE: A write of a bobbin's CFG enables or disables it, refusing invalid or overlapping rings (R131) -/
  | bobbinCfgWrite (t : BitVec 4) (b : BitVec 2) (w : WriteOp)
  /-- BOBBIN_RESET: A write of RESET zeroes RP and WP, cancels pending refills and completes open feed extents with FLUSHED (R137) -/
  | bobbinReset (t : BitVec 4) (b : BitVec 2) (w : WriteOp)
  /-- BOBBIN_LOOP_WRITE: A write of LOOP_MARK, LOOP_END or LOOP_COUNT is held pending until the next play start (R134) -/
  | bobbinLoopWrite (t : BitVec 4) (b : BitVec 2) (which : BitVec 2) (w : WriteOp)
  /-- ADC_CFG_WRITE: A write of ADC.CFG changes EN and OVR_LEVEL, and BAND only while EN = 0 (R143) -/
  | adcCfgWrite (t : BitVec 4) (w : WriteOp)
  /-- CORR_COMMIT: A write of ADC.CORR.COMMIT copies STAGE to the pending set in host-assisted mode, or is refused (R145) -/
  | corrCommit (t : BitVec 4) (w : WriteOp)
  /-- CORR_FORCE: A write of FORCE applies the pending set at once, flagging every open shot of the tile (R147) -/
  | corrForce (t : BitVec 4) (w : WriteOp)
  /-- DEMOD_COMMIT: A write of ACQ.CTRL.COMMIT makes a channel's staging bank pending (R159) -/
  | demodCommit (t : BitVec 4) (c : BitVec 5) (w : WriteOp)
  /-- TRAINING_START: A write of ACQ_TRAIN.START begins a kernel training run, or sets ERR if refused (R161) -/
  | trainingStart (t : BitVec 4) (w : WriteOp)
  /-- TRAINING_ABORT: A write of ABORT ends a training run without writing the staging bank (R162) -/
  | trainingAbort (t : BitVec 4) (w : WriteOp)
  /-- TRACE_GO: A write of TRACE.CTRL.GO arms a trace capture, or is ignored while one is armed (R163) -/
  | traceGo (t : BitVec 4) (w : WriteOp)
  /-- DEC_CLEAR: A write of DEC.CLEAR empties a range of decision slots (R169) -/
  | decClear (w : WriteOp)
  /-- PDC_ENABLE: A write of PDC.CFG.EN enables the pre-decoder, zeroing its rounds, or is refused with ERR (R198) -/
  | pdcEnable (w : WriteOp)
  /-- LANE_CFG_WRITE: A write of a lane's CFG takes effect at its next Detect, or EN = 0 takes it to Disabled at once (R213) -/
  | laneCfgWrite (l : BitVec 5) (w : WriteOp)
  /-- EXP_TIMER_WRITE: A write of an expectation timer's EN, ORIGIN, PERIOD or COUNT restarts it from k = 0 (R226) -/
  | expTimerWrite (e : BitVec 6) (word : Bool) (w : WriteOp)
  /-- BAR_WRITE: A write to ESW.BAR configures a barrier tree, refused while the barrier is in use (R231) -/
  | barWrite (b : BitVec 6) (w : WriteOp)
  /-- DEV_WRITE: A write of ESW.ID.DEV changes the device number from that tick (R200) -/
  | devWrite (w : WriteOp)
  /-- BIAS_LINK_COMMAND: A command to a bias die is sent with CRC, repeated on error, and dropped with BLINK_ERR after 8 repeats (R18) -/
  | biasLinkCommand (d : BitVec 1) (addr : Nat) (w : WriteOp) (errors : BitVec 4)
  /-- BIAS_APPLY: A write of BDIE.APPLY makes every staged value of a die the new target at one update (R248) -/
  | biasApply (d : BitVec 1) (w : WriteOp)
  /-- BIAS_OUTPUT_WRITE: A write of CODE, RANGE or TRIM sets an output's target or is staged, refused under BIAS_CLR_N (R240) -/
  | biasOutputWrite (d : BitVec 1) (b : BitVec 8) (code : Bool) (w : WriteOp)
  /-- FLUX_ENABLE_WRITE: A write of FLX.CTRL.ENABLE starts the chain from zero state or silences the channel (R256) -/
  | fluxEnableWrite (t k : BitVec 4) (w : WriteOp)
  /-- FLUX_LVL_WRITE: A register write of LVL sets the flux level from the tick it lands (R252) -/
  | fluxLvlWrite (t k : BitVec 4) (w : WriteOp)
  /-- FLUX_COMMIT: A write of FLX.CTRL.COMMIT makes the flux staging bank pending (R257) -/
  | fluxCommit (t k : BitVec 4) (w : WriteOp)
  /-- FLX_FIT_START: A write of FLX_FIT.START begins a predistortion fitting run, or sets ERR if refused (R259) -/
  | flxFitStart (t : BitVec 4) (w : WriteOp)
  /-- FLX_FIT_ABORT: A write of ABORT ends the fitting run without result (R259) -/
  | flxFitAbort (t : BitVec 4) (w : WriteOp)
  /-- TDC_UNIT_CFG_WRITE: A write of a unit's CFG enables or disables it, refused on invalid settings (R263) -/
  | tdcUnitCfgWrite (u : BitVec 4) (w : WriteOp)
  /-- TDC_QUEUE_FLUSH: A write of FLUSH empties a unit's queue while the unit is disabled (R271) -/
  | tdcQueueFlush (u : BitVec 4) (w : WriteOp)
  /-- STAT_GO: A write of STAT_CTRL.GO starts collecting statistics over N results, or is refused (R273) -/
  | statGo (u : BitVec 4) (w : WriteOp)
  /-- MON_START: A write of MON.CTRL.START starts a monitor sequence, or is ignored while one runs (R279) -/
  | monStart (d : BitVec 1) (w : WriteOp)
  /-- MON_URGENT_GO: A write of MON.URGENT.GO requests one urgent conversion, or is refused (R281) -/
  | monUrgentGo (d : BitVec 1) (w : WriteOp)
  /-- SEAM_CH_WRITE: A write to a seam channel or tack cell changes it from the next tick under ownership rules (R289) -/
  | seamChWrite (addr : Nat) (w : WriteOp)
  /-- SRC_OWN_WRITE: A write of SEAM.SRC_OWN changes source owners, refused while another owner routes them (R291) -/
  | srcOwnWrite (n : BitVec 5) (w : WriteOp)
  /-- TIMER_GO: A write of GO starts a seam timer (R294) -/
  | timerGo (k : BitVec 4) (w : WriteOp)
  /-- TIMER_STOP: A write of STOP stops a seam timer (R294) -/
  | timerStop (k : BitVec 4) (w : WriteOp)
  /-- CLAIM_WRITE: A write of a claim register takes, refuses or releases a shared resource (R296) -/
  | claimWrite (addr : Nat) (w : WriteOp)
  /-- LOG_FLUSH: A write of FLUSH empties the event log (R300) -/
  | logFlush (w : WriteOp)
  /-- REGISTER_WRITE: A write to a register with no behaviour of its own updates its fields under access, width, scope and lock checks (R28) -/
  | registerWrite (addr : Nat) (w : WriteOp)
  /-- COUNTER_CLEAR: A write of a CLR bit zeroes the counters of its register (R9) -/
  | counterClear (addr : Nat) (w : WriteOp)
  /-- SETUP_LOCK: A secure domain 0 write of GLOBAL.LOCK.LOCK makes every RWS field refuse writes (R312) -/
  | setupLock (w : WriteOp)
  /-- PORT_CFG_WRITE: A write of KEN.PORT sets an Ethernet port's mode, refused while enabled (R301) -/
  | portCfgWrite (p : Bool) (w : WriteOp)
  /-- QP_RESET: A write of STATE = Reset discards a queue pair's outstanding work and frees its tags (R304) -/
  | qpReset (q : BitVec 6) (w : WriteOp)
  /-- QP_INIT: A write of STATE = Init moves a queue pair from Reset to Init (R304) -/
  | qpInit (q : BitVec 6) (w : WriteOp)
  /-- QP_RTR: A write of STATE = RTR moves a queue pair from Init to RTR (R304) -/
  | qpRtr (q : BitVec 6) (w : WriteOp)
  /-- QP_RTS: A write of STATE = RTS moves a queue pair from RTR to RTS (R304) -/
  | qpRts (q : BitVec 6) (w : WriteOp)
  /-- RING_CFG_WRITE: A write of a ring's EN enables it with indices zeroed, or disables it, flushing fetched descriptors (R313) -/
  | ringCfgWrite (kind : RingKind) (r : BitVec 6) (w : WriteOp)
  /-- RQ_RESET: A write of RQ.CTRL.RESET empties the tile's result queue, truncating a record being written (R334) -/
  | rqReset (t : BitVec 4) (w : WriteOp)
  /-- RQ_DELIVER_WRITE: A change of DELIVER switches the queue between software pops and the result writer (R335) -/
  | rqDeliverWrite (t : BitVec 4) (w : WriteOp)
  /-- HOST_POLICY_WRITE: A write of a host policy entry stores it, replacing looser fields by the device policy (R369) -/
  | hostPolicyWrite (level : BitVec 3) (w : WriteOp)
  /-- SAVE: A write of HW.CTRL.SAVE requests a heartwood record write, refused or merged as needed (R384) -/
  | save (w : WriteOp)
  /-- FLASH_PROGRAM: A write of FLASH.CTRL.PROGRAM programs and verifies a 4 KiB flash page (R380) -/
  | flashProgram (w : WriteOp)
  /-- FLASH_ERASE: A write of FLASH.CTRL.ERASE erases a 64 KiB flash sector (R380) -/
  | flashErase (w : WriteOp)
  /-- REBOOT: A secure domain 0 write of GLOBAL.BOOT.REBOOT acts as RST_N (R374) -/
  | reboot (w : WriteOp)
  deriving DecidableEq, Repr

end Sys2Proof
end

