-- ==== Sys2Proof/Machine/State.lean ====
section
/-! DEFINITION. The state of the block: every register, memory, queue, counter, mode and pin the
spec gives it, as plain data; the queue of waiting commands; the state after reset. -/

namespace Sys2Proof.Machine

/-- Why a step stops. -/
inductive Fault
  /-- A condition of 12 R353 (U1 to U8, by number): the spec leaves the device's behaviour
  undefined. Raised by the commands that can meet one. Safe: the model stops where the hardware
  may do anything. -/
  | undefinedCase (u : Nat)
  deriving DecidableEq, Repr

/-- Why a command has no meaning. -/
inductive Refusal
  /-- No meaning is written for the command. Safe. -/
  | notModelled (mnemonic : String)
  deriving DecidableEq, Repr

/-- The state of the block. -/
structure State where
  /-- the commands that wait, first in first out -/
  pending : List Instr
  /-- device ticks since reset: the time base of everything the spec times in ticks -/
  tick : Nat
  /-- forest time (02 R39) -/
  ft : Word
  /-- forest time in the tick before (10 R294) -/
  ftWas : Word
  /-- PTP clock, whole nanoseconds (02 R54) -/
  ptpNs : Word
  /-- PTP clock, fraction (02 R54) -/
  ptpFrac : BitVec 32
  /-- a PTP step that applies at the next tick (02 R55) -/
  ptpStepNext : Option Word
  /-- past changes of the PTP clock's rate: device tick, value then in 2^-32 ns, increment from then (02 R57) -/
  ptpMarks : List (Nat × Nat × Nat)
  /-- consecutive sync intervals under 50 ns (02 R56) -/
  ptpGood : Nat
  /-- consecutive sync intervals above 1 us (02 R56) -/
  ptpBad : Nat
  /-- the PTP message exchange (02 R52, R53) -/
  ptpRun : PtpRun
  /-- a forest time load on its way (02 R41) -/
  syncLoad : Option SyncLoad
  /-- the last jump of forest time (02 R41, R42) -/
  ftJump : Option FtJump
  /-- the skew calibration run (02 R45) -/
  skewRun : SkewRun
  /-- the placement remainder in force, 1/256 tick (02 R41) -/
  skewRem : BitVec 8
  /-- the ageing accumulator beside its register (02 R38) -/
  xtal : XtalRun
  /-- device tick of the latch request of this tick (02 R57) -/
  latchTick : Option Nat
  /-- power requests and the transition in progress (01 R22-R26) -/
  pwrRun : PwrRun
  /-- commands that the trunk has sent to the bias dies of itself (01 R18): the model's own count, to which
  Config.linkErrors is applied -/
  linkSeq : Nat
  /-- the registers that differ in home from a view, by register; an unlisted one holds its reset value -/
  regs : List (Reg × Word)
  /-- shadows of the high halves (02 R59); unlisted: zero -/
  shadows : List (Reg × BitVec 32)
  /-- instruction, data, envelope and trace memories of every tile, as bytes -/
  mem : List Host.Cell
  /-- poisoned words: locus, tile, word address (12 R341) -/
  poison : List (Nat × Nat × Nat)
  /-- staging copies of directory word 1 (04 R110) -/
  dirStage : List (Nat × Word)
  /-- entry table of each tile's image (03 R104) -/
  entries : List (Nat × List Word)
  /-- ENTRY0 of each tile's image (03 R103) -/
  entry0 : List (Nat × BitVec 32)
  /-- the 128 threads (03 R70); unlisted: as after reset -/
  threads : List (Thr × Thread)
  /-- per tile: tick of the last ordinary issue and the thread that made it (03 R72) -/
  ordSlot : List (Nat × Nat × Nat)
  /-- per tile: tick of the last issue on the priority slot (03 R74) -/
  priSlot : List (Nat × Nat)
  /-- the open shots (03 R91, 12 R344) -/
  shots : List Shot
  /-- the number the next shot or acquisition request takes -/
  nextShot : Nat
  /-- dispatched commands whose effect has not come (03 R64) -/
  acts : List Act
  /-- the patterns playing (04 R119) -/
  plays : List Playing
  /-- patterns on tones whose last sample lies at most 3 ns back (04 R108) -/
  skirts : List Playing
  /-- envelope samples read for plays, by target and first instant (04 R107, R114) -/
  envRead : List ((Tgt × Nat) × Fetched)
  /-- the staging buffers (04 R121) -/
  staged : List Staged
  /-- marker pulses and spans (04 R128) -/
  pulses : List MarkPulse
  /-- LEVEL of the markers, and their pins (04 R129) -/
  marker : MarkRun
  /-- what the DAC of a drive or probe channel puts out in a tick: each sample's two half-periods (04 R125) -/
  dacOut : List ((Nat × Nat) × List (Int × Int))
  /-- bobbins, beside their registers (04 R132) -/
  bobs : List ((Nat × Nat) × BobRun)
  /-- decision slots (06 R167) -/
  slots : List (Nat × Slot)
  /-- the frame ledger, X in bit 2q+1 and Z in bit 2q (06 R181) -/
  ledger : BitVec 768
  /-- what the decisions chapter remembers of the present tick (06 R186, R196, R417) -/
  decTick : DecTick
  /-- the ledger as it stood before tick ledgerTick (06 R183) -/
  ledgerOld : BitVec 768
  /-- the tick in which the ledger last changed -/
  ledgerTick : Nat
  /-- windows held, and ended windows not yet in their record (05 R152) -/
  windows : List Window
  /-- acquisition requests whose record has not been formed (05 R158) -/
  acqReqs : List AcqReq
  /-- pending banks of demodulation channels (05 R159) -/
  demodPend : List ((Nat × Nat) × DemodBank)
  /-- banks in force (05 R160); unlisted: the reset bank -/
  demodBank : List ((Nat × Nat) × DemodBank)
  /-- pending coefficient sets with the tick they became pending (05 R145) -/
  corrPend : List (Nat × List Word × Nat)
  /-- tiles whose first coefficient set has been applied (05, READY) -/
  corrOnce : List Nat
  /-- the sets that applications replaced, latest first: tile, device tick, the words before (05 R146, R147) -/
  corrHist : List (Nat × Nat × List Word)
  /-- the changes of EN of the readout ADCs, latest first: tile, device tick, EN (05, ADC.CFG) -/
  adcHist : List (Nat × Nat × Bool)
  /-- kernel training runs (05 R161) -/
  trains : List (Nat × TrainRun)
  /-- trace captures armed or in progress (05 R163) -/
  traces : List (Nat × TraceRun)
  /-- packed words being gathered (06 R171) -/
  packs : List Pack
  /-- ancilla histories (06 R187) -/
  ancs : List (Nat × Anc)
  /-- decoding mode each patch holds (06 R199) -/
  patchMode : List (Nat × Nat)
  /-- assemblies on their way to A + 12 (06 R191) -/
  assemblies : List Assembly
  /-- tick of each patch's last assembly (06 R188) -/
  patchTick : List (Nat × Nat)
  /-- Eswen lanes, beside their registers (07 R210) -/
  lanes : List (Nat × LaneRun)
  /-- scheduled deliveries (07 R224) -/
  deliveries : List Delivery
  /-- receive entries (lane, entry) whose delivery was written in this tick (07 R227) -/
  delivered : List (Nat × Nat)
  /-- expectation timers, beside their registers (07 R226) -/
  exps : List (Nat × ExpRun)
  /-- staged word 1 of receive entries (07, ESW.RXR) -/
  rxrStage : List ((Nat × Nat) × Word)
  /-- entries before a commit: forest time of the commit, words 0 and 1 (07, ESW.RXR) -/
  rxrOld : List ((Nat × Nat) × List (Word × Word × Word))
  /-- barriers (03 R85, 07 R231) -/
  bars : List (Nat × BarRun)
  /-- flux channels, beside their registers (08 R252) -/
  fluxRuns : List ((Nat × Nat) × FluxRun)
  /-- predistortion fitting runs (08 R259) -/
  fits : List (Nat × FitRun)
  /-- bias outputs by die and channel, beside their registers (08 R240) -/
  biasOuts : List ((Nat × Nat) × BiasOut)
  /-- of the scrubber in each array (12 R341): its next word, and the device tick of the earliest next read -/
  scrubPos : List ((Nat × Nat) × (Nat × Nat))
  /-- measurement units, beside their registers (09 R263) -/
  tdcUnits : List (Nat × TdcUnit)
  /-- the last crossing of each input, in 1/1,024 tick (09 R262) -/
  tdcLast : List (Nat × Int)
  /-- PT_CAL is high (09 R274) -/
  calHigh : Bool
  /-- edges whose timestamp is not yet formed (09 R262) -/
  tdcEdges : List TdcEdge
  /-- results not yet in their queue (09 R262) -/
  tdcResults : List TdcResult
  /-- monitor ADCs, beside their registers (09 R279) -/
  mons : List (Nat × MonRun)
  /-- seam starts on their way: die and device tick (09 R279) -/
  monLine : List (Nat × Nat)
  /-- device tick of the last event stretched on each start line (10 R299) -/
  monLast : List (Nat × Nat)
  /-- the event log (10 R300) -/
  evLog : EvQueue
  /-- asynchronous channels that carry an event in this tick (10 R288) -/
  asyncNow : List Nat
  /-- tack cells, beside their registers (10 R292) -/
  tacks : List (Nat × TackRun)
  /-- running timers, beside their registers (10 R294) -/
  timers : List (Nat × TimerRun)
  /-- channel events on their way: channel and device tick (10 R287) -/
  seamPipe : List (Nat × Nat)
  /-- channels that carry an event in this tick (10 R286) -/
  seamNow : List Nat
  /-- channels and tack cells as in force in this tick, where a write has landed (10 R289) -/
  seamOld : List (Reg × Word)
  /-- the level view of the last ticks (10 R285-R287) -/
  seamLevels : SeamLevels
  /-- seam-driven markers whose pin is high (10 R298) -/
  seamMarks : List Nat
  /-- a wake event has come in Dormant (10 R299) -/
  wakeDue : Bool
  /-- slots written lost under 07 R227 in this tick, with their lane -/
  lostNow : List (Nat × Nat)
  /-- how far the end of the present tick has come (DESIGN CHOICE, log entry 1) -/
  phase : Nat
  /-- seam sources pulsed in this tick and not yet carried (10 R286) -/
  seamRaised : List Nat
  /-- kept Kenper-M responses, most recently used first (11 R309) -/
  kept : List KeptResponse
  /-- the Kenper-M request executing (11 R309) -/
  mExec : Option MRequest
  /-- the requests waiting (11 R309) -/
  mWait : List MRequest
  /-- queue pairs, beside their registers (11 R304) -/
  qps : List (Nat × QpRun)
  /-- outstanding RDMA requests: the read tags in use (11 R337) -/
  outReqs : List OutReq
  /-- descriptors fetched and not begun, oldest first (11 R315) -/
  fetched : List Desc
  /-- descriptors begun, whose own command has not been taken -/
  begun : List Desc
  /-- descriptors begun and not completed (11 R315) -/
  flying : List DescRef
  /-- counts to be written to shadows (11 R315, R326) -/
  shadowWait : List ShadowWait
  /-- completions and notices that wait for room (11 R330) -/
  cplWait : List (Nat × Cpl)
  /-- LOADs and SHAREs in progress (11 R321) -/
  transfers : List Transfer
  /-- READs whose data have been sent and not acknowledged (11 R326) -/
  readWait : List ReadWait
  /-- feed extents of each bobbin, in stream order (11 R324) -/
  extents : List ((Nat × Nat) × Extent)
  /-- end of each bobbin's last extent (11 R324) -/
  feedEnd : List ((Nat × Nat) × Nat)
  /-- holding areas, in order of entry (11 R332) -/
  holding : List HoldRec
  /-- result queues (11 R333) -/
  rqs : List (Nat × Rq)
  /-- the Kenper engines, beside their registers (11 R302, R321, R338) -/
  kenRun : KenRun
  /-- the canopy model and the heat ledger, beside their registers (13 R356) -/
  heat : HeatRun
  /-- sums of the squares of the codes of synthesis channels since the ledger last took them (13 R367) -/
  synSq : List ((Nat × Nat) × Nat)
  /-- the records of heartwood, by TYPE (14 R381) -/
  hw : List (Nat × HwRecord)
  /-- record writes requested and not started (14 R384) -/
  hwQueue : List HwRequest
  /-- the record write in progress (14 R383) -/
  hwWrite : Option HwWrite
  /-- the one-time fuses (14 R379) -/
  fuses : Fuses
  /-- boot, beside GLOBAL.BOOT (14 R377) -/
  boot : BootRun
  /-- what the device has sent, newest first (DESIGN CHOICE, log entry 5) -/
  out : List Out
  /-- an undefined case of 12 R353 has been met -/
  undef : Option Nat
  deriving DecidableEq, Repr

/-- The block right after reset: empty queue, every memory unlisted, every register at its reset
value (R11; the values the spec does not give are those of log entry 3, DESIGN CHOICE). -/
def State.reset : State where
  pending := []
  tick := 0
  ft := 0
  ftWas := 0
  ptpNs := 0
  ptpFrac := 0
  ptpStepNext := none
  ptpMarks := []
  ptpGood := 0
  ptpBad := 0
  ptpRun := {}
  syncLoad := none
  ftJump := none
  skewRun := {}
  skewRem := 0
  xtal := {}
  latchTick := none
  pwrRun := {}
  linkSeq := 0
  regs := []
  shadows := []
  mem := []
  poison := []
  dirStage := []
  entries := []
  entry0 := []
  threads := []
  ordSlot := []
  priSlot := []
  shots := []
  nextShot := 0
  acts := []
  plays := []
  skirts := []
  envRead := []
  staged := []
  pulses := []
  marker := {}
  dacOut := []
  bobs := []
  slots := []
  ledger := 0
  decTick := {}
  ledgerOld := 0
  ledgerTick := 0
  windows := []
  acqReqs := []
  demodPend := []
  demodBank := []
  corrPend := []
  corrOnce := []
  corrHist := []
  adcHist := []
  trains := []
  traces := []
  packs := []
  ancs := []
  patchMode := []
  assemblies := []
  patchTick := []
  lanes := []
  deliveries := []
  delivered := []
  exps := []
  rxrStage := []
  rxrOld := []
  bars := []
  fluxRuns := []
  fits := []
  biasOuts := []
  scrubPos := []
  tdcUnits := []
  tdcLast := []
  calHigh := false
  tdcEdges := []
  tdcResults := []
  mons := []
  monLine := []
  monLast := []
  evLog := {}
  asyncNow := []
  tacks := []
  timers := []
  seamPipe := []
  seamNow := []
  seamOld := []
  seamLevels := {}
  seamMarks := []
  wakeDue := false
  lostNow := []
  phase := 0
  seamRaised := []
  kept := []
  mExec := none
  mWait := []
  qps := []
  outReqs := []
  fetched := []
  begun := []
  flying := []
  shadowWait := []
  cplWait := []
  transfers := []
  readWait := []
  extents := []
  feedEnd := []
  holding := []
  rqs := []
  kenRun := {}
  heat := {}
  synSq := []
  hw := []
  hwQueue := []
  hwWrite := none
  fuses := {}
  boot := {}
  out := []
  undef := none

end Sys2Proof.Machine
end

