-- ==== Sys2Proof/Machine/Ops.lean ====
section
/-! DEFINITION. The named operations over the state: keyed tables, registers and their fields,
memories, time comparison, seam pulses, outputs. -/

namespace Sys2Proof.Machine

open Fld

/-! Keyed tables. -/

/-- The value of a key, or the default. -/
def Tab.get {κ α : Type} [DecidableEq κ] (m : List (κ × α)) (k : κ) (d : α) : α :=
  match m with
  | [] => d
  | p :: rest => if p.1 = k then p.2 else Tab.get rest k d

/-- Whether the key is listed. -/
def Tab.find {κ α : Type} [DecidableEq κ] (m : List (κ × α)) (k : κ) : Option α :=
  match m with
  | [] => none
  | p :: rest => if p.1 = k then some p.2 else Tab.find rest k

/-- The table without the key. -/
def Tab.erase {κ α : Type} [DecidableEq κ] (m : List (κ × α)) (k : κ) : List (κ × α) :=
  m.filter (fun p => decide (p.1 ≠ k))

/-- The table with the key at a value. -/
def Tab.set {κ α : Type} [DecidableEq κ] (m : List (κ × α)) (k : κ) (v : α) : List (κ × α) :=
  (k, v) :: Tab.erase m k

/-! Registers and fields. -/

/-- A register's stored value. -/
def State.reg (s : State) (r : Reg) : Word := Tab.get s.regs r r.reset

/-- The state with a register's stored value replaced. -/
def State.setReg (s : State) (r : Reg) (w : Word) : State :=
  { s with regs := Tab.set s.regs r w }

/-- The bits [lo + width − 1 : lo] of a word (R5). -/
def bitsOf (w : Word) (lo width : Nat) : Nat := (w.toNat >>> lo) % 2 ^ width

/-- A word with the bits [lo + width − 1 : lo] replaced by v modulo 2^width. -/
def withBits (w : Word) (lo width v : Nat) : Word :=
  let mask : Word := BitVec.ofNat 64 ((2 ^ width - 1) <<< lo)
  (w &&& ~~~mask) ||| BitVec.ofNat 64 ((v % 2 ^ width) <<< lo)

/-- Two's complement reading of a field value (R6). -/
def signedOf (width v : Nat) : Int :=
  if 2 * v < 2 ^ width then (v : Int) else (v : Int) - (2 ^ width : Nat)

/-- The field value of an integer (R6). -/
def unsignedOf (width : Nat) (z : Int) : Nat := (z % (2 ^ width : Nat)).toNat

/-- The value of a field. -/
def State.rd (s : State) (f : RField) : Nat := bitsOf (s.reg f.reg) f.lo f.width

/-- A map register of the decisions chapter as it applies in this tick: a write applies in the ticks after
it (06, DEC.SRC). -/
def State.mapReg (s : State) (r : Reg) : Word :=
  match s.decTick.maps.find? (fun p => p.1 == r) with
  | some p => p.2
  | none => s.reg r
def State.mapRd (s : State) (f : RField) : Nat := bitsOf (s.mapReg f.reg) f.lo f.width
def State.mapOn (s : State) (f : RField) : Bool := s.mapRd f != 0

/-- A write of a map register. -/
def State.writeMap (s : State) (r : Reg) (w : Word) : State :=
  let s := if s.decTick.maps.any (fun p => p.1 == r) then s
    else { s with decTick.maps := (r, s.reg r) :: s.decTick.maps }
  s.setReg r w

/-- The value of a signed field. -/
def State.rdS (s : State) (f : RField) : Int := signedOf f.width (s.rd f)

/-- Whether a field is not zero. -/
def State.on (s : State) (f : RField) : Bool := s.rd f != 0

/-- The state with a field set. -/
def State.wr (s : State) (f : RField) (v : Nat) : State :=
  s.setReg f.reg (withBits (s.reg f.reg) f.lo f.width v)

/-- The state with a field set to 1 or 0. -/
def State.put (s : State) (f : RField) (b : Bool) : State := s.wr f (if b then 1 else 0)

/-- A saturating counter raised by n. -/
def State.bumpBy (s : State) (f : RField) (n : Nat) : State :=
  s.wr f (min (s.rd f + n) (2 ^ f.width - 1))

/-- A saturating counter raised by one. -/
def State.bump (s : State) (f : RField) : State := s.bumpBy f 1

/-- Bit i of a field. -/
def State.bitAt (s : State) (f : RField) (i : Nat) : Bool := (s.rd f).testBit i

/-- A field with its bit i set or cleared. -/
def setBitNat (v i : Nat) (b : Bool) : Nat :=
  if b then v ||| (1 <<< i) else if v.testBit i then v - (1 <<< i) else v

/-- The state with bit i of a field set or cleared. -/
def State.putBit (s : State) (f : RField) (i : Nat) (b : Bool) : State :=
  s.wr f (setBitNat (s.rd f) i b)

/-! Memories: bytes at addresses, in one canonical list. -/

/-- What an unlisted byte reads as: the spec gives RAM no reset contents (DESIGN CHOICE, log entry 4). -/
def Mem.blank : Byte := 0

/-- The byte at an address. -/
def Mem.read : List Host.Cell → Nat → Byte
  | [], _ => Mem.blank
  | (x, b) :: rest, a => if x = a then b else Mem.read rest a

/-- The canonical form: addresses strictly rising, no entry equal to an unlisted byte. -/
def Mem.wf : List Host.Cell → Bool
  | [] => true
  | [(_, b)] => b != Mem.blank
  | (x, b) :: (y, c) :: rest => b != Mem.blank && decide (x < y) && Mem.wf ((y, c) :: rest)

/-- The memory with one byte written, in canonical form. -/
def Mem.write : List Host.Cell → Nat → Byte → List Host.Cell
  | [], a, b => if b = Mem.blank then [] else [(a, b)]
  | (x, c) :: rest, a, b =>
      if a < x then (if b = Mem.blank then (x, c) :: rest else (a, b) :: (x, c) :: rest)
      else if a = x then (if b = Mem.blank then rest else (a, b) :: rest)
      else (x, c) :: Mem.write rest a b

/-- The memories of a tile: locus of R339, or the trace buffer. -/
inductive Space
  | instr | data | env | trace
  deriving DecidableEq, Repr

/-- The locus number of R339; the trace buffer has none. -/
def Space.locus : Space → Nat
  | .instr => 0x01
  | .data => 0x02
  | .env => 0x03
  | .trace => 0

/-- Where a tile's memory lies in the model's one list of bytes. -/
def Space.base : Space → Nat → Nat
  | .instr, t => t * 0x800000
  | .data, t => t * 0x800000 + 0x100000
  | .trace, t => t * 0x800000 + 0x200000
  | .env, t => t * 0x800000 + 0x400000

/-- Little-endian assembly of n bytes from an address (R7). -/
def Mem.load (m : List Host.Cell) (a : Nat) : Nat → Nat
  | 0 => 0
  | n + 1 => (Mem.read m a).toNat + 256 * Mem.load m (a + 1) n

/-- Little-endian store of n bytes at an address (R7). -/
def Mem.store (m : List Host.Cell) (a : Nat) : Nat → Nat → List Host.Cell
  | 0, _ => m
  | n + 1, v => Mem.store (Mem.write m a (BitVec.ofNat 8 v)) (a + 1) n (v / 256)

/-- The 64-bit word at a word index of a tile's memory. -/
def State.memWord (s : State) (sp : Space) (t i : Nat) : Word :=
  BitVec.ofNat 64 (Mem.load s.mem (sp.base t + 8 * i) 8)

/-- The state with a word written; a write clears the word's poison (R341). -/
def State.setMemWord (s : State) (sp : Space) (t i : Nat) (w : Word) : State :=
  { s with mem := Mem.store s.mem (sp.base t + 8 * i) 8 w.toNat,
           poison := s.poison.filter (fun p => decide (p ≠ (sp.locus, t, i))) }

/-- Whether a word is poisoned (R341). -/
def State.poisoned (s : State) (locus t i : Nat) : Bool := s.poison.contains (locus, t, i)

/-! Threads. -/

/-- A thread. -/
def State.thread (s : State) (q : Thr) : Thread := Tab.get s.threads q {}

/-- The state with a thread replaced. -/
def State.setThread (s : State) (q : Thr) (t : Thread) : State :=
  { s with threads := Tab.set s.threads q t }

/-- The state with a thread changed. -/
def State.modThread (s : State) (q : Thr) (f : Thread → Thread) : State :=
  s.setThread q (f (s.thread q))

/-- Every thread of the device in ascending tile and thread number. -/
def Thr.all : List Thr :=
  (List.range 16).flatMap (fun t => (List.range 8).map (fun h => ⟨t, h⟩))

/-- Whether a thread comes before another in the order of R69. -/
def Thr.lt (a b : Thr) : Bool :=
  decide (a.tile < b.tile) || (decide (a.tile = b.tile) && decide (a.idx < b.idx))

/-- Whether a thread of the tile is not Idle (R70). -/
def State.tileRunning (s : State) (t : Nat) : Bool :=
  (List.range 8).any (fun h => decide ((s.thread ⟨t, h⟩).st ≠ .idle))

/-- A mode bit of a function of a tile as it is in force, now its register's: a running thread of the
tile that has not come to its point since the change still holds it as it was (R30; DEDUCED, log entry 22). -/
def State.tileMode (s : State) (t : Nat) (now : Bool) (held : Modes → Bool) : Bool :=
  if (List.range 8).any (fun h =>
      let x := s.thread ⟨t, h⟩
      decide (x.st ≠ .idle) && decide (x.st ≠ .faulted) && held x.modes != now) then !now
  else now

/-- Whether any thread of the device is not Idle (R43). -/
def State.anyRunning (s : State) : Bool :=
  s.threads.any (fun p => decide ((s.thread p.1).st ≠ .idle))

/-- The thread's general register (03, R71). -/
def Thread.reg (t : Thread) (r : BitVec 5) : Word := t.g[r.toNat]

/-- The thread with a general register written. -/
def Thread.setReg (t : Thread) (r : BitVec 5) (w : Word) : Thread :=
  { t with g := t.g.set r.toNat w }

/-! Time. -/

/-- The signed difference of R49 on the low 48 bits. -/
def dist48 (target now : Word) : Int :=
  signedOf 48 ((target - now).toNat % 2 ^ 48)

/-- The true distance of two 64-bit counts. -/
def dist64 (target now : Word) : Int := signedOf 64 (target - now).toNat

/-- Whether a target is due (R49); beyond 2^47 the result is undefined (R50). -/
def timeDue (target now : Word) : Bool :=
  if (dist64 target now).natAbs < 2 ^ 47 then decide (dist48 target now ≤ 0)
  else Config.farCompare target now

/-- Forest time at a device tick that has passed, while the PLL has run on; a load since then has not
moved it (R41). -/
def State.ftAt (s : State) (tick : Nat) : Word :=
  match s.ftJump with
  | some j => if tick < j.at_ then j.was - BitVec.ofNat 64 (j.at_ - tick) else s.ft - BitVec.ofNat 64 (s.tick - tick)
  | none => s.ft - BitVec.ofNat 64 (s.tick - tick)

/-! Rounding. -/

/-- The absolute value of a rational. -/
def ratAbs (x : Rat) : Rat := if x < 0 then -x else x

/-- Round to nearest, ties away from zero. -/
def roundAway (x : Rat) : Int := if 0 ≤ x then (x + 1/2).floor else -((-x + 1/2).floor)

/-! The seam matrix's sources and the wires. -/

/-- A seam source pulses in this tick (R284): one event, however often it does (R285). -/
def State.pulse (s : State) (src : Nat) : State :=
  { s with seamRaised := if s.seamRaised.contains src then s.seamRaised else s.seamRaised ++ [src] }

/-- Something is sent. -/
def State.send (s : State) (o : Out) : State := { s with out := o :: s.out }

/-- Answer the next state, or stop where an undefined case of R353 was met. -/
def finish (s : State) : Host.Outcome State Fault Refusal :=
  match s.undef with
  | none => .next s
  | some u => .fault (.undefinedCase u)

/-- An undefined case of R353 is met. -/
def State.undefined (s : State) (u : Nat) : State := { s with undef := some u }

/-! The power state (R22). -/

/-- Encodings of REQ and CUR. -/
def pwrActive : Nat := 0
def pwrStandby : Nat := 1
def pwrDormant : Nat := 2

/-- Whether the device is in Active. -/
def State.active (s : State) : Bool := s.rd pwr_CUR == pwrActive

/-- Whether the device is in Dormant. -/
def State.dormant (s : State) : Bool := s.rd pwr_CUR == pwrDormant

/-- Fold a state change over a list. -/
def State.each {α : Type} (s : State) (l : List α) (f : State → α → State) : State :=
  l.foldl f s

end Sys2Proof.Machine
end

