-- ==== Sys2Proof/Machine/Completion.lean ====
section
/-! DEFINITION. Completions and notices (11 R325-R330): their layout, where they wait, and when
they are discarded. -/

namespace Sys2Proof.Machine

open Fld

/-- The statuses of R327 used below. -/
def cplOk : Nat := 0x00
def cplFaulted : Nat := 0x10
def cplDeviceFault : Nat := 0x17

/-- The four words of a completion entry, for a pass of the ring (R325). -/
def Cpl.words (c : Cpl) (phase : Bool) : List Word :=
  [BitVec.ofNat 64 (c.opcode % 256 + (c.status % 256) * 2 ^ 8 + (c.code % 256) * 2 ^ 16
      + (c.ring % 64) * 2 ^ 24 + (c.source % 4) * 2 ^ 30 + c.tag.toNat * 2 ^ 32),
   BitVec.ofNat 64 (c.index % 2 ^ 16 + (c.info32 % 2 ^ 32) * 2 ^ 32),
   c.info64,
   BitVec.ofNat 64 (c.tick % 2 ^ 48 + (c.info15 % 2 ^ 15) * 2 ^ 48 + (if phase then 2 ^ 63 else 0))]

/-- The number of entries of a ring of LOG2SIZE n (R313). -/
def ringSize (n : Nat) : Nat := 2 ^ n

/-- The state codes of a queue pair (R304). -/
def qpResetState : Nat := 0
def qpInitState : Nat := 1
def qpRtrState : Nat := 2
def qpRtsState : Nat := 3
def qpErrorState : Nat := 4

/-- Whether a completion ring discards what is bound for it: EN = 0, or its queue pair in Error or
Reset (R330). -/
def State.cplDiscards (s : State) (ring : Nat) : Bool :=
  !s.on (cplCfg_EN ring) ||
    (let st := s.rd (qpCtrl_STATE (s.rd (cplCfg_QP ring)))
     st == qpErrorState || st == qpResetState)

/-- A completion bound for a completion ring waits there, or is discarded and counted (R330). -/
def State.postCpl (s : State) (ring : Nat) (c : Cpl) : State :=
  if s.cplDiscards ring then s.bump kenCounts_CPL_DISCARD
  else { s with cplWait := s.cplWait ++ [(ring, c)] }

/-- The completion of a descriptor: written always with CPL = 1, else only for a status other
than OK (R317); the descriptor is no longer in flight (R315). -/
def State.complete (s : State) (d : DescRef) (status code info32 : Nat) (info64 : Word)
    (info15 : Nat) : State :=
  let s := { s with flying := s.flying.filter (fun x => decide (x ≠ d)) }
  if d.cpl || status != cplOk then
    s.postCpl (s.rd (cmdCfg_CRING d.ring))
      { opcode := d.opcode, status := status, code := code, ring := d.ring,
        source := if d.inl then 1 else 0, tag := d.tag, index := d.index,
        info32 := info32, info64 := info64, tick := s.ft.toNat, info15 := info15 }
  else s

/-- A notice for the event ring (R329, R330). -/
def State.notice (s : State) (opcode status code ring info32 : Nat) : State :=
  if s.on kenEvt_EN then
    s.postCpl (s.rd kenEvt_CRING)
      { opcode := opcode, status := status, code := code, ring := ring, source := 3,
        info32 := info32, tick := s.ft.toNat }
  else s.bump kenCounts_CPL_DISCARD

/-! RDMA requests of a queue pair (11 R303, R326, R337). -/

def State.qp (s : State) (q : Nat) : QpRun := Tab.get s.qps q {}
def State.setQp (s : State) (q : Nat) (x : QpRun) : State := { s with qps := Tab.set s.qps q x }

/-- Whether the frames of a link are paused by priority flow control, which acts on the priority PFC_PRIO: its
frames have the priority PCP (R302). -/
def State.linkPaused (s : State) (l : Nat) : Bool :=
  s.on (port_PFC_EN (l / 4)) && s.rd (port_PFC_PRIO (l / 4)) == s.rd (linkIp_PCP l)
    && s.kenRun.paused.any (fun p => p.1 == l && decide (s.tick < p.2))

/-- Whether a queue pair is silent: in Dormant, or with its link paused (R302, R306). -/
def State.qpMute (s : State) (q : Nat) : Bool := s.dormant || s.linkPaused (s.rd (qpCtrl_LINK q))

/-- Whether a queue pair initiates requests: RTS, not silent, and no wait after an RNR NAK (R302, R304-R306). -/
def State.qpSends (s : State) (q : Nat) : Bool :=
  s.rd (qpCtrl_STATE q) == qpRtsState && !s.qpMute q && (s.qp q).rnrDue.isNone

/-- The requests of a queue pair that are not acknowledged, by kind. -/
def OutReq.isWrite (r : OutReq) : Bool := match r.kind with | .write => true | _ => false
def State.writesOut (s : State) (q : Nat) : Nat :=
  (s.outReqs.filter (fun r => r.q == q && r.isWrite)).length
def State.readsOut (s : State) (q : Nat) : Nat :=
  (s.outReqs.filter (fun r => r.q == q && !r.isWrite)).length

/-- Whether a queue pair can send one more RDMA WRITE: 64 may be unacknowledged (R337). -/
def State.canWrite (s : State) (q : Nat) : Bool := s.qpSends q && decide (s.writesOut q < 64)

/-- Whether a queue pair can issue one more RDMA READ: 256 tags, and MAX_RD for the pair (R337). -/
def State.canRead (s : State) (q : Nat) : Bool :=
  s.qpSends q && decide (s.readsOut q < max 1 (min 64 (s.rd (qpCtrl_MAX_RD q))))
    && decide ((s.outReqs.filter (fun r => !r.isWrite)).length < 256)

/-- Packets of a message of a length in bytes at a path MTU of 4,096 (R303). -/
def packetsOf (bytes : Nat) : Nat := max 1 ((bytes + 4095) / 4096)

/-- The eight bytes of a word in host memory: little-endian (00 R7). -/
def wordBytes (w : Word) : List Byte := (List.range 8).map (fun i => (w >>> (8 * i)).setWidth 8)

/-- An RDMA WRITE is sent, and awaits its acknowledgement. -/
def State.rdmaWrite (s : State) (q rkey : Nat) (addr : Word) (words : List Word) : State :=
  let x := s.qp q
  let n := packetsOf (8 * words.length)
  let s := s.setQp q { x with sqPsn := x.sqPsn + BitVec.ofNat 24 n }
  let r : OutReq := { q := q, psn := x.sqPsn + BitVec.ofNat 24 (n - 1), kind := .write, sent := s.tick,
                      left := 8 * words.length }
  { s with outReqs := s.outReqs ++ [r] }.send (.rdmaWrite q rkey addr (words.flatMap wordBytes))

/-- An RDMA READ is issued, and takes a read tag (R337). -/
def State.rdmaRead (s : State) (q rkey : Nat) (addr : Word) (bytes : Nat) (kind : ReqKind) : State :=
  let x := s.qp q
  let s := s.setQp q { x with sqPsn := x.sqPsn + BitVec.ofNat 24 (packetsOf bytes) }
  { s with outReqs := s.outReqs ++
      [({ q := q, psn := x.sqPsn, kind := kind, sent := s.tick, left := bytes } : OutReq)] }.send
    (.rdmaRead q rkey addr bytes)

/-- A count goes to a shadow once the WRITE just sent on a queue pair is acknowledged (R326). -/
def State.shadowAfter (s : State) (q rkey : Nat) (addr : Word) (count : Nat) : State :=
  if addr = 0 then s
  else { s with shadowWait := s.shadowWait ++
      [({ q := q, after := some ((s.qp q).sqPsn - 1), rkey := rkey, addr := addr, count := count } : ShadowWait)] }

/-- The counts that may go to their shadows are written, as far as their queue pairs can send (R326, R337). -/
def State.writeShadows : Nat → State → State
  | 0, s => s
  | n + 1, s =>
      match s.shadowWait.find? (fun w => w.after.isNone && s.canWrite w.q) with
      | none => s
      | some w =>
          ({ s with shadowWait := s.shadowWait.erase w }.rdmaWrite w.q w.rkey w.addr
            [BitVec.ofNat 64 w.count]).writeShadows n

/-! Writing entries. -/

/-- Free entries of a completion ring (R313). -/
def State.cplFree (s : State) (ring : Nat) : Nat :=
  let size := ringSize (s.rd (cplCfg_LOG2SIZE ring))
  size - 1 - (s.rd (cplIdx_PI ring) + 2 ^ 32 - s.rd (cplIdx_CI ring)) % size

/-- Whether the WRITE an entry reports has been acknowledged (R326). -/
def State.acked (s : State) (c : Cpl) : Bool :=
  match c.after with
  | none => true
  | some (q, psn) => !s.outReqs.any (fun r => r.q == q && r.isWrite && r.psn == psn)

/-- Whether an entry can be written now: room, and the queue pair can send (R330). -/
def State.cplReady (s : State) (ring : Nat) : Bool :=
  decide (0 < s.cplFree ring) && s.canWrite (s.rd (cplCfg_QP ring))

/-- Write one entry: slot k mod size; the count goes to the shadow behind it (R326). -/
def State.writeCpl (s : State) (ring : Nat) (c : Cpl) : State :=
  let size := ringSize (s.rd (cplCfg_LOG2SIZE ring))
  let k := s.rd (cplIdx_PI ring)
  let q := s.rd (cplCfg_QP ring)
  let s := s.rdmaWrite q (s.rd (cplCfg_RKEY ring)) (s.reg ⟨.cplBase, ring, 0, 0⟩ + BitVec.ofNat 64 (32 * (k % size)))
    (c.words (k / size % 2 == 0))
  let s := s.wr (cplIdx_PI ring) (k + 1)
  s.shadowAfter q (s.rd (cplCfg_RKEY ring)) (s.reg ⟨.cplShadow, ring, 0, 0⟩) (s.rd (cplIdx_PI ring))

/-- COMPLETION_WRITE (R326, R330): the oldest waiting entry that can be written is written; one
whose ring has come to discard is discarded. -/
def execCompletionWrite (s : State) : Host.Outcome State Fault Refusal :=
  match s.cplWait.find? (fun p => s.cplDiscards p.1 || (s.cplReady p.1 && s.acked p.2)) with
  | none => .next s
  | some p =>
      let s := { s with cplWait := s.cplWait.erase p }
      if s.cplDiscards p.1 then .next (s.bump kenCounts_CPL_DISCARD)
      else .next (s.writeCpl p.1 p.2)

/-- The completion of a launch (R322, R328). -/
def State.completeLaunch (s : State) (q : Thr) (l : Launch) (status code : Nat) : State :=
  let t := s.thread q
  s.complete l.desc status code
    (q.tile + q.idx * 2 ^ 4 + (if t.displaced then 2 ^ 7 else 0) + (min t.recordsLost 0xFFFF) * 2 ^ 16)
    t.startedFt (min t.launchReplays 0xFF)

end Sys2Proof.Machine
end

