-- ==== Sys2Proof/Machine/StitchCode.lean ====
section
/-! DEFINITION. The codes of the stitch: header, CRC-7, CRC-24, BCH, the scrambler (07 R203-R206). -/

namespace Sys2Proof.Machine

/-! Words as bit lists, bit 0 first: the order of transmission (R203). -/

/-- n bits of a number from bit lo. -/
def bitsFrom (w lo n : Nat) : List Bool := (List.range n).map (fun i => w.testBit (lo + i))

/-- The number whose bits, bit 0 first, are a list. -/
def ofBits : List Bool → Nat
  | [] => 0
  | b :: rest => (if b then 1 else 0) + 2 * ofBits rest

/-- A shift register of a polynomial of degree width (its lower coefficients given), fed with bits,
each the next lower coefficient of the message. -/
def lfsr (width poly : Nat) (reg : Nat) (b : Bool) : Nat :=
  let top := (reg.testBit (width - 1)) ^^ b
  let r := (reg * 2) % 2 ^ width
  if top then r ^^^ poly else r

/-- The remainder register after a list of bits. -/
def remainder (width poly init : Nat) (bits : List Bool) : Nat :=
  bits.foldl (lfsr width poly) init

/-- A remainder with its highest coefficient first, as it stands in the stitch. -/
def reversed (width r : Nat) : Nat :=
  ofBits ((List.range width).map (fun i => r.testBit (width - 1 - i)))

/-! The header (R204). -/

def parityBit (n : Nat) (width : Nat) : Bool :=
  (bitsFrom n 0 width).foldl (fun a b => a ^^ b) false

/-- The header byte of a TYPE. -/
def headerOf (typ : Nat) : Nat :=
  let t := typ.testBit
  let h := typ % 16 + (if t 0 ^^ t 1 ^^ t 3 then 16 else 0) + (if t 0 ^^ t 2 ^^ t 3 then 32 else 0)
    + (if t 1 ^^ t 2 ^^ t 3 then 64 else 0)
  h + (if parityBit h 7 then 128 else 0)

/-- The TYPE a received header decodes to, a single-bit error corrected; none for a double-bit
error (R204). -/
def headerType (h : Nat) : Option Nat :=
  (List.range 16).find? (fun t =>
    (List.range 9).any (fun i => headerOf t == (if i = 8 then h else h ^^^ 2 ^ i)))

/-! The check fields (R205). -/

/-- CRC-24 over bits 231 to 0, as it stands in bits 255 to 232. -/
def crc24 (w : Nat) : Nat := reversed 24 (remainder 24 0x864CFB 0xB704CE (bitsFrom w 0 232))

/-- CRC-7 over bits 231 to 0, as it stands in bits 238 to 232. -/
def crc7 (w : Nat) : Nat := reversed 7 (remainder 7 0x09 0 (bitsFrom w 0 232))

/-- The generator of the BCH code without its leading term: the product of the minimal polynomials
x^8 + x^4 + x^3 + x^2 + 1 and x^8 + x^6 + x^5 + x^4 + x^2 + x + 1. -/
def bchPoly : Nat := 0x6F63

/-- The BCH parity of bits 238 to 0, as it stands in bits 254 to 239. -/
def bchParity (w : Nat) : Nat := reversed 16 (remainder 16 bchPoly 0 (bitsFrom w 0 239))

/-- A bulk, idle, training or marker stitch from its low 232 bits. -/
def sealCrc (w : Nat) : Nat := w % 2 ^ 232 + crc24 w * 2 ^ 232

/-- A decision stitch from its low 232 bits. -/
def sealBch (w : Nat) : Nat :=
  let w := w % 2 ^ 232
  let w := w + crc7 w * 2 ^ 232
  let w := w + bchParity w * 2 ^ 239
  w + (if parityBit w 255 then 2 ^ 255 else 0)

/-- The syndrome of an error in bit b, b < 255: x^(254 − b) modulo the generator. -/
def bchSyndromes : List (Nat × Nat) :=
  ((List.range 255).foldl (fun (p : List (Nat × Nat) × Nat) i =>
    ((254 - i, p.2) :: p.1, lfsr 16 bchPoly p.2 false)) ([], 1)).1

/-- The syndrome of a received stitch: received parity against the parity of its data. -/
def bchSyndrome (w : Nat) : Nat :=
  reversed 16 ((w / 2 ^ 239) % 2 ^ 16) ^^^ remainder 16 bchPoly 0 (bitsFrom w 0 239)

/-- The bits in error, at most two, if such an error explains the syndrome and the parity. -/
def bchErrors (w : Nat) : Option (List Nat) :=
  let syn := bchSyndrome w
  let odd := parityBit w 256
  if syn = 0 then (if odd then some [255] else some [])
  else
    match bchSyndromes.find? (fun p => p.2 == syn) with
    | some p => some (if odd then [p.1] else [p.1, 255])
    | none =>
        if odd then none
        else bchSyndromes.findSome? (fun p =>
          (bchSyndromes.find? (fun q => decide (p.1 < q.1) && p.2 ^^^ q.2 == syn)).map
            (fun q => [p.1, q.1]))

/-- A decision stitch corrected, with the number of bits corrected; none if it is uncorrectable or
its CRC-7 fails (R205). -/
def openBch (w : Nat) : Option (Nat × Nat) :=
  match bchErrors w with
  | none => none
  | some es =>
      let w' := es.foldl (fun v b => v ^^^ 2 ^ b) w
      if crc7 w' = (w' / 2 ^ 232) % 2 ^ 7 then some (w', es.length) else none

/-- Whether the CRC-24 of a stitch holds. -/
def crcGood (w : Nat) : Bool := crc24 w == w / 2 ^ 232 % 2 ^ 24

/-! The scrambler (R206). -/

/-- One step of the PRBS x^31 + x^28 + 1: its output bit and the next state. -/
def prbsStep (s : BitVec 31) : Bool × BitVec 31 :=
  let b := s.getLsbD 30 ^^ s.getLsbD 27
  (b, (s <<< 1) ||| (if b then 1 else 0))

/-- n bits of the PRBS, bit 0 first, and the state after them. -/
def prbsRun : Nat → BitVec 31 → List Bool × BitVec 31
  | 0, s => ([], s)
  | n + 1, s =>
      let p := prbsStep s
      let r := prbsRun n p.2
      (p.1 :: r.1, r.2)

/-- The 256 bits of a slot, and the state at the next slot. -/
def prbsSlot (s : BitVec 31) : Nat × BitVec 31 :=
  let r := prbsRun 256 s
  (ofBits r.1, r.2)

/-- A stitch scrambled or descrambled. -/
def scramble (s : BitVec 31) (w : BitVec 256) : BitVec 256 := w ^^^ BitVec.ofNat 256 (prbsSlot s).1

end Sys2Proof.Machine
end

