-- ==== Sys2Proof/Machine/FabricTx.lean ====
section
/-! DEFINITION. The sending side of the Eswen fabric: lanes and groups, what becomes ready on a
lane, the stitch of a slot, bulk messages and their routes (07 R200-R209, R216, R220-R223, R230,
R235-R237). -/

namespace Sys2Proof.Machine

open Fld

/-! Lanes (R210, R220, R221). -/

/-- STATE encodings. -/
def laneDisabled : Nat := 0
def laneDetect : Nat := 1
def laneTrain : Nat := 2
def laneLock : Nat := 3
def laneAlign : Nat := 4
def laneExchange : Nat := 5
def laneActiveSt : Nat := 6
def laneQuiet : Nat := 7

def State.lane (s : State) (l : Nat) : LaneRun := Tab.get s.lanes l {}
def State.setLane (s : State) (l : Nat) (x : LaneRun) : State := { s with lanes := Tab.set s.lanes l x }
def State.modLane (s : State) (l : Nat) (f : LaneRun → LaneRun) : State := s.setLane l (f (s.lane l))

/-- MODE and BUDDY in force (R213). -/
def State.laneMode (s : State) (l : Nat) : Nat := bitsOf (s.lane l).cfg 1 2
def State.laneBuddy (s : State) (l : Nat) : Nat := bitsOf (s.lane l).cfg 3 5

/-- The lane under whose number a lane carries traffic: its bond leader, or the lane it duplicates
(R220, R221). -/
def State.leadLane (s : State) (l : Nat) : Nat :=
  if s.laneMode l = 1 ∨ s.laneMode l = 3 then s.laneBuddy l else l

/-- The members of a bonded group in ascending order, the leader among them (R220): those whose MODE and
BUDDY in force say so, in use or not (DEDUCED, log entry 119). -/
def State.bondMembers (s : State) (l : Nat) : List Nat :=
  (List.range 32).filter (fun m => m == l || (s.laneMode m == 3 && s.laneBuddy m == l))

/-- The lanes that duplicate a lane (R221). -/
def State.copies (s : State) (l : Nat) : List Nat :=
  (List.range 32).filter (fun m => s.laneMode m == 1 && s.laneBuddy m == l)

/-- Whether a single lane is in Active. -/
def State.laneUp (s : State) (l : Nat) : Bool := s.rd (laneStatus_STATE l) == laneActiveSt

/-- Whether a lane, as a group or pair, is Active (R220, R221). -/
def State.laneActive (s : State) (l : Nat) : Bool :=
  (s.bondMembers l).all s.laneUp || (s.copies l).any s.laneUp

/-- L of a lane (R218). -/
def State.laneLat (s : State) (l : Nat) : Nat := s.rd (laneStatus_LAT l)

/-! Slots (R207, R208). -/

/-- The window of a slot in which an entry becomes ready: first tick and length (R208). -/
def slotWindow (n : Nat) : Int × Nat :=
  if n % 4 = 0 then (8 * n - 20, 16) else (8 * n - 12, 8)

/-- The slot whose window contains a tick (R208). -/
def slotOf (x : Nat) : Nat :=
  let n := (x + 4) / 8 + 1
  if n % 4 = 3 then n + 1 else n

/-- Device tick of a forest time. -/
def State.deviceTick (s : State) (w : Word) : Int := s.tick + dist64 w s.ft

/-! What becomes ready. -/

/-- An entry becomes ready on a lane. -/
def State.readyOn (s : State) (l : Nat) (e : TxEntry) : State :=
  s.modLane l (fun x => { x with ready := x.ready ++ [e] })

/-- The bits of a decision entry (R223). -/
def decisionEntry (route : Nat) (w : Word) : BitVec 56 :=
  BitVec.ofNat 56 (1 + (route % 512) * 2 ^ 2 + bitsOf w 0 32 * 2 ^ 11 + bitsOf w 32 10 * 2 ^ 43
    + bitsOf w 42 1 * 2 ^ 53 + bitsOf w 43 1 * 2 ^ 54 + bitsOf w 44 1 * 2 ^ 55)

/-- The bits of a control entry of a barrier (R230). -/
def controlEntry (ctype bar gen : Nat) (tick : Word) : BitVec 56 :=
  BitVec.ofNat 56 (2 + (ctype % 16) * 2 ^ 2 + (bar % 64) * 2 ^ 6 + (gen % 16) * 2 ^ 12
    + (tick.toNat % 2 ^ 36) * 2 ^ 16)

/-- The bits of a DOWN or UP (R230). -/
def deviceEntry (ctype dev : Nat) (tick : Word) : BitVec 56 :=
  BitVec.ofNat 56 (2 + (ctype % 16) * 2 ^ 2 + (dev % 2 ^ 11) * 2 ^ 6 + (tick.toNat % 2 ^ 36) * 2 ^ 17)

/-- The parts of a message of bytes (R235). -/
def bulkParts (mtype dest src : Nat) : Bool → List (BitVec 160) → List BulkPart
  | _, [] => []
  | first, [d] => [{ first := first, last := true, mtype := mtype, dest := dest, src := src, data := d }]
  | first, d :: rest =>
      { first := first, last := false, mtype := mtype, dest := dest, src := src, data := d } ::
        bulkParts mtype dest src false rest

/-- A message waits for free bulk slots on a lane (R237). -/
def State.bulkOn (s : State) (l : Nat) (ps : List BulkPart) : State :=
  s.modLane l (fun x => { x with outq := x.outq ++ ps })

/-- The lane a bulk message for a device leaves on, if its table entry has one Active (R202). -/
def State.bulkLane (s : State) (dest : Nat) : Option Nat :=
  let r : Reg := if dest / 16 = s.rd eswId_DEV / 16 then ⟨.routeMember, dest % 16, 0, 0⟩
    else ⟨.routeGrove, dest / 16, 0, 0⟩
  let w := s.reg r
  let l := s.leadLane (bitsOf w 0 5)
  if bitsOf w 5 1 = 1 ∧ s.laneActive l then some l else none

/-- Send a bulk message toward a device, or drop it and count NOROUTE (R202). -/
def State.sendBulk (s : State) (arrival dest mtype src : Nat) (ds : List (BitVec 160)) : State :=
  match s.bulkLane dest with
  | some l => s.bulkOn l (bulkParts mtype dest src true ds)
  | none => s.bump (laneCounts2_NOROUTE arrival)

/-- A control entry becomes ready on a lane, with its bulk copy to the same partner (R230). -/
def State.sendEntry (s : State) (l : Nat) (bits : BitVec 56) : State :=
  let l := s.leadLane l
  if !s.laneActive l then s
  else
    let s := s.readyOn l { cls := 0, key := 0, ready := s.tick, bits := bits }
    s.bulkOn l [{ first := true, last := true, mtype := 5, dest := s.rd (laneStatus_PARTNER_DEV l),
                  src := s.rd eswId_DEV, data := bits.setWidth 160 }]

/-- A control entry of a barrier on several lanes (R231-R234). -/
def State.sendControl (s : State) (ls : List Nat) (ctype bar gen : Nat) (tick : Word) : State :=
  s.each ls (fun s l => s.sendEntry l (controlEntry ctype bar gen tick))

/-- The lanes of a barrier's tree on this device (R231). -/
def State.treeLanes (s : State) (b : Nat) : List Nat :=
  let downs := (List.range 32).filter (s.bitAt (eswBar_DOWN_LANES b))
  if s.on (eswBar_ROOT b) then downs else s.rd (eswBar_UP_LANE b) :: downs

/-- DOWN lanes of a barrier. -/
def State.downLanes (s : State) (b : Nat) : List Nat :=
  (List.range 32).filter (s.bitAt (eswBar_DOWN_LANES b))

/-- DOWN or UP for a device, on a lane. -/
def State.sendDevice (s : State) (l : Nat) (up : Bool) (dev : Nat) : State :=
  s.sendEntry l (deviceEntry (if up then 5 else 4) dev s.ft)

/-- Receive entries written on a lane. -/
def State.rxEntries (s : State) (l : Nat) : List Nat :=
  s.regs.filterMap (fun p => if p.1.name = .rxr0 ∧ p.1.i = l ∧ s.on (rxr0_EN l p.1.j) then some p.1.j
    else none)

/-- The out lanes of the forwards from a lane whose source is a device, once each. -/
def State.forwardLanes (s : State) (l : Nat) (dev : Option Nat) : List Nat :=
  (List.range 32).filter (fun o => (s.rxEntries l).any (fun r =>
    s.on (rxr0_FWD l r) && s.rd (rxr0_OUT_LANE l r) == o
      && (match dev with | some d => s.rd (rxr0_SRC_DEV l r) == d | none => true)))

/-- The source devices of the forwards from a lane, once each. -/
def State.forwardDevs (s : State) (l : Nat) : List Nat :=
  ((s.rxEntries l).filter (fun r => s.on (rxr0_FWD l r))).foldl (fun ds r =>
    let d := s.rd (rxr0_SRC_DEV l r)
    if ds.contains d then ds else ds ++ [d]) []

/-- A lane leaves Active: DOWN for each source forwarded from it on each of its out lanes (R225). -/
def State.tellDown (s : State) (l : Nat) : State :=
  let ms := (s.forwardDevs l).flatMap (fun d => (s.forwardLanes l (some d)).map (fun o => (d, o)))
  (s.each ms (fun s m => s.sendDevice m.2 false m.1)).modLane l (fun x => { x with told := ms })

/-- A lane re-enters Active: the UP entries that match the DOWN entries sent (R225). -/
def State.tellUp (s : State) (l : Nat) : State :=
  (s.each (s.lane l).told (fun s m => s.sendDevice m.2 true m.1)).modLane l (fun x => { x with told := [] })

/-- Transmit entries in use that name a slot, in ascending index (R222). -/
def State.txEntries (s : State) (slot : Nat) : List Nat :=
  (List.range 1024).filter (fun i =>
    s.regs.any (fun p => p.1.name = .txr ∧ p.1.i = i) && s.on (txr_EN i) && s.rd (txr_SLOT i) == slot)

/-! The stitch of a slot (R203, R209, R235). -/

/-- Whether an entry is sent before another (R209). -/
def TxEntry.before (a b : TxEntry) : Bool :=
  decide (a.cls < b.cls) || (decide (a.cls = b.cls) && decide (a.key < b.key))

/-- Insertion after those of the same rank. -/
def TxEntry.insert (a : TxEntry) : List TxEntry → List TxEntry
  | [] => [a]
  | b :: rest => if a.before b then a :: b :: rest else b :: a.insert rest

/-- A decision stitch of at most four entries (R209). -/
def decisionStitch (incomplete : Bool) (es : List TxEntry) : BitVec 256 :=
  let payload := (List.range 4).foldl (fun v e =>
    v + ((es[e]?).map (fun x => x.bits.toNat)).getD 0 * 2 ^ (56 * e + 8)) 0
  BitVec.ofNat 256 (sealBch (headerOf (if incomplete then 2 else 1) + payload))

/-- A bulk data or idle stitch (R235). -/
def bulkStitch (seq ack : BitVec 8) (nak : Bool) (p : Option BulkPart) : BitVec 256 :=
  let body := ack.toNat * 2 ^ 16 + (if nak then 2 ^ 24 else 0)
  match p with
  | none => BitVec.ofNat 256 (sealCrc (headerOf 0 + body))
  | some x => BitVec.ofNat 256 (sealCrc (headerOf 3 + seq.toNat * 2 ^ 8 + body
      + (if x.first then 2 ^ 25 else 0) + (if x.last then 2 ^ 26 else 0) + (x.mtype % 16) * 2 ^ 32
      + (x.dest % 2 ^ 11) * 2 ^ 36 + (x.src % 2 ^ 11) * 2 ^ 47 + x.data.toNat * 2 ^ 72))

/-- Whether a lane carries stitches other than training stitches: Align to Active (R206, R210). -/
def State.carries (s : State) (l : Nat) : Bool :=
  let st := s.rd (laneStatus_STATE l)
  decide (laneAlign ≤ st) && decide (st ≤ laneActiveSt)

/-- Whether a lane sends training stitches: Train and Lock (R210). -/
def State.trains_ (s : State) (l : Nat) : Bool :=
  let st := s.rd (laneStatus_STATE l)
  st == laneTrain || st == laneLock

/-- A slot passes on a lane that sends training stitches: the scrambler runs on (R206; DESIGN CHOICE, log entry 16). -/
def State.trainSlot (s : State) (l : Nat) : State :=
  if s.trains_ l then s.modLane l (fun x => { x with txScr := (prbsSlot x.txScr).2 }) else s

/-- Send a stitch on a lane, scrambled, and move the scrambler past the slot (R206); the copies of
the lane carry the same stitch (R221). -/
def State.sendStitch (s : State) (l : Nat) (w : BitVec 256) : State :=
  s.each ((l :: s.copies l).filter s.carries) (fun s m =>
    let x := s.lane m
    (s.send (.stitch m (scramble x.txScr w))).setLane m { x with txScr := (prbsSlot x.txScr).2 })

/-- The bulk or idle stitch of a slot, which begins 4 ticks on: a stitch to be resent, else the next of a waiting message
while the replay buffer has room, else idle (R235, R236). -/
def State.sendBulkSlot (s : State) (l member : Nat) : State :=
  let x := s.lane l
  match x.replay.find? SentPart.again with
  | some p =>
      let x := { x with nakTx := false, replay := x.replay.map (fun (y : SentPart) =>
        if y.seq = p.seq then { y with again := false, resent := y.resent + 1 } else y) }
      ((s.bump (laneCounts1_RETRIES l)).setLane l x).sendStitch member
        (bulkStitch p.seq x.rxSeq (s.lane l).nakTx (some p.part))
  | none =>
      match x.outq with
      | p :: rest =>
          if x.replay.length < 64 then
            let seq := x.txSeq + 1
            let y := { x with nakTx := false, txSeq := seq, outq := rest,
                              replay := x.replay ++ [{ seq := seq, part := p, sent := s.tick + 4 }] }
            (s.setLane l y).sendStitch member (bulkStitch seq x.rxSeq x.nakTx (some p))
          else (s.setLane l { x with nakTx := false }).sendStitch member
            (bulkStitch 0 x.rxSeq x.nakTx none)
      | [] => (s.setLane l { x with nakTx := false }).sendStitch member (bulkStitch 0 x.rxSeq x.nakTx none)

/-- The slot whose stitch is built in this tick: its window has just closed (R208). -/
def State.slotNow (s : State) : Option Nat :=
  if (s.ft.toNat + 4) % 8 = 0 then some ((s.ft.toNat + 4) / 8) else none

/-- STITCH_TX (R206-R209, R221, R235): the stitch of the coming slot on a lane. A lane whose group is
not Active sends idle stitches in Align and beyond; a slot that is bulk only takes no entry. -/
def execStitchTx (l : BitVec 5) (s : State) : Host.Outcome State Fault Refusal :=
  let l := l.toNat
  match s.slotNow with
  | none => .next s
  | some n =>
      let s := s.trainSlot l
      if n % 4096 = 4095 then .next s
      else if !s.laneActive (s.leadLane l) then
        if s.carries l then .next (s.sendStitch l (bulkStitch 0 0 false none)) else .next s
      else if s.leadLane l ≠ l then .next s
      else if s.laneMode l = 2 then .next (s.sendStitch l (bulkStitch 0 0 false none))
      else
        let x := s.lane l
        let members := s.bondMembers l
        if n % 4 = 3 then .next (s.each members (fun s m => s.sendBulkSlot l m))
        else
        let cap := 4 * members.length
        let due := x.ready.filter (fun e => decide (e.ready < s.tick))
        let start : Int := (s.tick : Int) + (slotWindow n).1 - (8 * n - 4)
        let mine := (due.filter (fun e => decide (start ≤ (e.ready : Int)))).foldl
          (fun es e => e.insert es) []
        let beyond := mine.length - cap
        let es := mine.take cap
        let incomplete := decide (0 < beyond) || x.force2.contains n
        let s := (s.setLane l { x with
            ready := x.ready.filter (fun e => !decide (e.ready < s.tick)) ,
            force2 := x.force2.filter (fun m => decide (n < m)) }).bumpBy (laneCounts1_OVERFLOW l) beyond
        .next (s.each (List.range members.length) (fun s i =>
          let m := members.getD i l
          let part := (es.drop (4 * i)).take 4
          if !part.isEmpty ∨ (incomplete ∧ i = 0) then
            s.sendStitch m (decisionStitch incomplete part)
          else s.sendBulkSlot l m))

/-- A selvedge marker (R216). -/
def State.markerStitch (s : State) (l n : Nat) : BitVec 256 :=
  let x := s.lane l
  BitVec.ofNat 256 (sealCrc (headerOf 5 + (8 * n % 2 ^ 64) * 2 ^ 8 + s.rd eswId_DEV * 2 ^ 72
    + l * 2 ^ 83 + s.rd timeStatus_FT_VALID * 2 ^ 88 + (if s.rd pwr_CUR = pwrStandby then 2 ^ 89 else 0)
    + s.leadLane l * 2 ^ 90 + (min x.errCnt 0xFFFF) * 2 ^ 96 + (prbsSlot x.txScr).2.toNat * 2 ^ 112))

/-- N of a skew calibration run (02 R45): 2^LOG2N, LOG2N limited to 10-16. -/
def State.skewMarkers (s : State) : Nat := 2 ^ max 10 (min 16 (s.rd skewCal_LOG2N))

/-- Whether a lane's markers count in the skew calibration run in progress (02 R45). -/
def State.skewOn (s : State) (l : Nat) : Bool :=
  s.on skewCal_BUSY && !s.on skewCal_ROOT && s.rd skewCal_PARENT_LANE == l
    && s.rd (laneStatus_STATE l) == laneActiveSt

/-- A marker sent to the parent: its u_s (02 R45). -/
def State.skewSent (s : State) (l : Nat) (at_ : Int) : State :=
  if s.skewOn l && decide (s.skewRun.sent < s.skewMarkers) then
    { s with skewRun := { s.skewRun with sent := s.skewRun.sent + 1, sends := s.skewRun.sends + at_ } }
  else s

/-- MARKER_TX (R206, R207, R216): a marker, unscrambled, in each marker slot of a lane in Align,
Exchange or Active. -/
def execMarkerTx (l : BitVec 5) (s : State) : Host.Outcome State Fault Refusal :=
  let l := l.toNat
  match s.slotNow with
  | none => .next s
  | some n =>
      let st := s.rd (laneStatus_STATE l)
      if n % 4096 ≠ 4095 ∨ st < laneAlign ∨ laneActiveSt < st then .next s
      else
        let s := s.send (.stitch l (s.markerStitch l n))
        let s := s.skewSent l (256 * (8 * n))
        .next (s.modLane l (fun x => { x with txScr := (prbsSlot x.txScr).2, errCnt := 0 }))

end Sys2Proof.Machine
end

