-- ==== Sys2Proof/Machine/Hooks.lean ====
section
/-! DEFINITION. What the unpick of a shot asks of the readout, the flux channels, the fabric and the
barriers (05 R153, R161; 07 R226, R233, R418; 08 R258, R259). -/

namespace Sys2Proof.Machine

open Fld

/-- The windows of a shot are cancelled: held ones, and ended ones not yet latched; nothing of them
remains, and no record is formed (R153). -/
def State.cancelWindowsOf (s : State) (id : Nat) : State :=
  let mine := s.acqReqs.filter (fun a => a.shot == some id)
  let s := { s with windows := s.windows.filter (fun w => !(w.shot == some id)),
                    acqReqs := s.acqReqs.filter (fun a => !(a.shot == some id)),
                    packs := s.packs.filter (fun p => !(mine.any (fun a => a.id == p.acq))) }
  s.each mine (fun s a => s.modThread a.thr (fun t => if t.startedFt = a.launch then { t with awaited := t.awaited - 1 } else t))

/-- A fitting run skips and counts every window of an unpicked shot, held or completed (08 R259). -/
def State.unfit (s : State) (id : Nat) : State :=
  s.each s.fits (fun s p =>
    let held := s.windows.filter (fun w => w.shot == some id && w.tile == p.1 && w.c == p.2.dch && !w.dumped)
    let done := p.2.later.filter (fun x => x.1 == some id)
    { s with fits := Tab.set s.fits p.1 { p.2 with later := p.2.later.filter (fun x => x.1 != some id) } }.bumpBy
      (fitCtrl_EXCL p.1) (held.length + done.length))

/-- A training run on a channel the shot acquired on returns to its rotation position and sums at
the shot's checkpoint, one begun since to its beginning (R161; DEDUCED, log entry 23). -/
def State.restoreTraining (s : State) (x : Shot) : State :=
  s.each s.trains (fun s p =>
    if !x.acqs.any (fun a => a.1 == p.1 && a.2.getLsbD p.2.ch) then s
    else
      let run : TrainRun := match Tab.find x.train p.1 with
        | some r => if r.at_ = p.2.at_ then r else { p.2 with rot := 0, counts := [0, 0, 0], sums := [[], [], []] }
        | none => { p.2 with rot := 0, counts := [0, 0, 0], sums := [[], [], []] }
      { s with trains := Tab.set s.trains p.1 run })

/-- The last sample of a play that lies before an instant. -/
def Playing.lastBefore (p : Playing) (instant : Nat) : Nat :=
  p.start + (instant - 1 - p.start) / p.tgt.period * p.tgt.period

/-- The span of a play that stops early ends after the last sample played, with POST and DELAY as it was
scheduled (04 R128). -/
def State.endSpan (s : State) (p : Playing) (last : Nat) : State :=
  { s with pulses := s.pulses.map (fun x =>
      if x.span.isSome ∧ x.play = some (p.tgt, p.start) then
        { x with until_ := min x.until_ (last + p.tgt.period + x.tail) }
      else x) }

/-- A pattern start that does not come makes no marker edge: what has not begun is dropped, and a span that
has begun ends with the tick (03 R94, R416; 04 R120, R123). -/
def State.unmark (s : State) (g : Tgt) (start : Nat) : State :=
  { s with pulses := (s.pulses.filter (fun x =>
      !(x.play == some (g, start) && decide (16 * s.tick ≤ x.from_)))).map (fun x =>
        if x.span.isSome ∧ x.play = some (g, start) then { x with until_ := min x.until_ (16 * (s.tick + 1)) }
        else x) }

/-- READY of a bobbin (04 R133). -/
def State.bobReady (s : State) (t b : Nat) : State :=
  s.put (bobStatus_READY t b)
    (decide (s.rd (bobRp_VALUE t b) + s.rd (bobCfg_PREFILL t b) * 1024 ≤ s.rd (bobWp_VALUE t b)))

/-- A shot's bobbin plays read no more: what plays of them ramps, and the bobbin may be played again (04
R137, R138). -/
def State.stopReaders (s : State) (id : Nat) : State :=
  s.each (s.bobs.filter (fun e => e.2.reader.any (fun r => r.shot == some id))) (fun s e =>
    let t := e.1.1
    let b := e.1.2
    let s := { s with bobs := Tab.set s.bobs (t, b) { e.2 with reader := none } }
    if s.rd (bobStatus_STATE t b) = 2 ∨ s.rd (bobStatus_STATE t b) = 3 then s.wr (bobStatus_STATE t b) 1 else s)

/-- A flux channel's data. -/
def State.fluxRun (s : State) (t k : Nat) : FluxRun := Tab.get s.fluxRuns (t, k) {}
def State.setFluxRun (s : State) (t k : Nat) (r : FluxRun) : State :=
  { s with fluxRuns := Tab.set s.fluxRuns (t, k) r }

/-- Each flux channel on which the shot dispatched a `flux` or a play stops its pattern, and its x
ramps from its present value to the restored level (08 R258). -/
def State.stopFluxOf (s : State) (x : Shot) : State :=
  let mine := s.plays.filter (fun p => p.tgt.isFlux && p.shot == some x.id)
  let s := s.each mine (fun s p => s.endSpan p (p.lastBefore (16 * s.tick)))
  let s := { s with plays := s.plays.filter (fun p => !(p.tgt.isFlux && p.shot == some x.id)) }
  s.each x.fluxUsed (fun s g =>
    let r := s.fluxRun g.1 g.2
    if s.plays.any (fun p => p.tgt == .flux g.1 g.2) then s
    else s.setFluxRun g.1 g.2 { r with ramp := some (0, r.x) })

/-- Expectation timers anchored on a participant return to the k of the checkpoint, with ORIGIN
later by the replay offset (07 R226). -/
def State.restoreExpTimers (s : State) (x : Shot) (delta : Nat) : State :=
  s.each x.expTimers (fun s p =>
    let e := Tab.get s.exps p.1 {}
    let s := { s with exps := Tab.set s.exps p.1 { e with k := p.2, origin := e.origin + delta } }
    s.wr (eswExp0_ORIGIN p.1) (s.rd (eswExp0_ORIGIN p.1) + delta))

/-- A barrier of this device. -/
def State.bar (s : State) (b : Nat) : BarRun := Tab.get s.bars b {}
def State.setBar (s : State) (b : Nat) (x : BarRun) : State := { s with bars := Tab.set s.bars b x }

/-- UNPICK made ready on the tree lanes of a barrier, but for the one it arrived on (07 R233). -/
def State.sendUnpick (s : State) (b gen : Nat) (u : Word) (from_ : Option Nat) : State :=
  if s.on (eswBar_EN b) then
    s.sendControl ((s.treeLanes b).filter (fun l => some l != from_)) 2 b gen u
  else s

/-- The local participants of a barrier (03, NDL.BARMAP). -/
def State.participants (s : State) (b : Nat) : List Thr :=
  Thr.all.filter (fun q => (s.reg ⟨.barMap, q.tile, b / 8, 0⟩).getLsbD (8 * (b % 8) + q.idx))

/-- Whether a thread is a participant. -/
def State.takesPart (s : State) (q : Thr) (b : Nat) : Bool :=
  (s.reg ⟨.barMap, q.tile, b / 8, 0⟩).getLsbD (8 * (b % 8) + q.idx)

/-- The barrier returns to a generation, which is open afresh with nothing received of it or of a later
one; v is the resume tick of a replay (07 R418). -/
def State.reopenBar (s : State) (b next : Nat) (v : Option Nat) : State :=
  let x := s.bar b
  s.setBar b { x with gen := min x.gen next, gens := x.gens.filter (fun p => decide (p.1 < next)),
                      cut := some (next, s.tick, v) }

/-- Every barrier that threads of an unpicked shot take part in returns to the generation recorded in
their checkpoints (07 R418). -/
def State.reopenBars (s : State) (ps : List ShotPart) (v : Option Nat) : State :=
  s.each (s.bars.map Prod.fst) (fun s b =>
    match (ps.filter (fun p => s.takesPart p.thr b)).map (fun p => Tab.get p.ck.barGen b 0) with
    | [] => s
    | g :: gs => s.reopenBar b (gs.foldl min g) v)

/-- The execution of a joint shot's generation is unpicked, and replayed from v if it is (07 R233). -/
def State.noteUnpicked (s : State) (b g : Nat) (v : Option Nat) : State :=
  let x := s.bar b
  s.setBar b { x with unpicked := Tab.set x.unpicked g v }

end Sys2Proof.Machine
end

