-- ==== Sys2Proof/Machine/Shots.lean ====
section
/-! DEFINITION. Launch ends, faults, unpicks and commits (03 R70, R93-R96, R100; 12_integrity). -/

namespace Sys2Proof.Machine

open Fld

/-! The frame ledger (06 R181-R183). -/

/-- The ledger as a read in the present tick sees it (R183). -/
def State.ledgerSeen (s : State) : BitVec 768 :=
  if s.ledgerTick = s.tick then s.ledgerOld else s.ledger

/-- The ledger changed in the present tick; the words that change lose their poison (12 R341). -/
def State.setLedger (s : State) (l : BitVec 768) : State :=
  let s := { s with poison := s.poison.filter (fun p =>
    !(p.1 == 6 && decide ((s.ledger >>> (64 * p.2.2)).setWidth 64 ≠ (l >>> (64 * p.2.2)).setWidth 64))) }
  if s.ledgerTick = s.tick then { s with ledger := l }
  else { s with ledgerOld := s.ledger, ledgerTick := s.tick, ledger := l }

/-! Shots. -/

/-- An open shot by number. -/
def State.shotById (s : State) (id : Nat) : Option Shot := s.shots.find? (fun x => x.id == id)

/-- The state with an open shot changed. -/
def State.modShot (s : State) (id : Nat) (f : Shot → Shot) : State :=
  { s with shots := s.shots.map (fun x => if x.id = id then f x else x) }

/-- The open shot a thread belongs to: the one whose scope it is in, or its last shot while that
has not committed (R343). -/
def State.shotOf (s : State) (q : Thr) : Option Nat :=
  let t := s.thread q
  match t.shot with
  | some id => some id
  | none => t.prevShot

/-- A tone register or flux level changed from outside some shots: that value is what a rollback
of those shots returns to (R118, R258). -/
def Shot.seesFreq (t c k : Nat) (v : BitVec 48) (x : Shot) : Shot :=
  { x with tones := x.tones.map (fun u =>
      if u.tile = t ∧ u.c = c ∧ u.k = k ∧ u.freq.isSome then { u with freq := some v } else u) }

def Shot.seesOffset (t c k : Nat) (v : BitVec 32) (x : Shot) : Shot :=
  { x with tones := x.tones.map (fun u =>
      if u.tile = t ∧ u.c = c ∧ u.k = k ∧ u.offset.isSome then { u with offset := some v } else u) }

/-- A register write of VZ leaves no increment to be subtracted (R118). -/
def Shot.forgetsVz (t c k : Nat) (x : Shot) : Shot :=
  { x with tones := x.tones.map (fun u =>
      if u.tile = t ∧ u.c = c ∧ u.k = k then { u with vz := 0 } else u) }

def Shot.seesLevel (t k : Nat) (v : BitVec 16) (x : Shot) : Shot :=
  { x with fluxes := x.fluxes.map (fun u =>
      if u.tile = t ∧ u.k = k then { u with before := v } else u) }

/-- The undo record of a tone in a shot. -/
def Shot.toneUndo (x : Shot) (t c k : Nat) : ToneUndo :=
  match x.tones.find? (fun u => u.tile == t && u.c == c && u.k == k) with
  | some u => u
  | none => { tile := t, c := c, k := k }

/-- The shot with the undo record of a tone replaced. -/
def Shot.setToneUndo (x : Shot) (u : ToneUndo) : Shot :=
  { x with tones := u :: x.tones.filter (fun v =>
      !(v.tile == u.tile && v.c == u.c && v.k == u.k)) }

/-- Restore one tone (R118). -/
def State.restoreTone (s : State) (u : ToneUndo) : State :=
  let s := match u.freq with
    | some v => s.wr (toneFreq_FREQ u.tile u.c u.k) v.toNat
    | none => s
  let s := match u.offset with
    | some v => s.wr (tonePhase_OFFSET u.tile u.c u.k) v.toNat
    | none => s
  s.wr (toneVz_VZ u.tile u.c u.k)
    (BitVec.ofNat 48 (s.rd (toneVz_VZ u.tile u.c u.k)) - u.vz).toNat

/-- Restore one bobbin: RP and LOOPS_LEFT, and Starved returns to Filling (R138). -/
def State.restoreBob (s : State) (u : BobUndo) : State :=
  let s := s.setReg ⟨.bobRp, u.tile, u.b, 0⟩ (BitVec.ofNat 64 u.rp)
  let s := s.wr (bobLoop_LOOPS_LEFT u.tile u.b) u.loopsLeft
  (if s.rd (bobStatus_STATE u.tile u.b) = 3 then s.wr (bobStatus_STATE u.tile u.b) 1 else s).bobReady u.tile u.b

/-- Restore the pre-decoder's snapshot (R196). -/
def State.restoreSnap (s : State) (p : PatchSnap) : State :=
  let s := s.each p.rounds (fun s r => s.wr (patchRound_ROUND r.1) r.2)
  { s with ancs := p.ancs.foldl (fun m a => Tab.set m a.1 a.2) s.ancs }

/-- At the end of an unpick tick the snapshots of the shots unpicked in it are restored: rounds that closed
in the tick are undone too, and what assembled in it makes no effect (R196, R417). -/
def State.undoRounds (s : State) : State :=
  s.each s.decTick.snaps (fun s u =>
    { s with assemblies := s.assemblies.filter (fun (a : Assembly) => !(a.shot == some u.1 && decide (s.tick < a.tick + 12))) }.restoreSnap
      u.2.2)

/-! The end of a launch. -/

/-- A fault ends a launch: the thread enters Faulted, its queue is discarded, and the fault
completion is written within 2,000 ticks (R70, R95). A launch already ended keeps its code. -/
def State.endLaunch (s : State) (q : Thr) (code : Nat) : State :=
  let t := s.thread q
  if t.st = .idle ∨ t.st = .faulted then s
  else s.setThread q { t with st := .faulted, queue := [], wait := none, hold := none,
                              opening := none, rewind := none, inBlock := false, shot := none,
                              prio := 0, faultDue := some (code, s.tick + 2000) }

/-- The thread as it enters Idle: registers keep their values, everything of the launch ends. -/
def Thread.toIdle (t : Thread) : Thread :=
  { t with st := .idle, queue := [], wait := none, hold := none, opening := none, rewind := none,
           inBlock := false, shot := none, prevShot := none, launch := none, faultDue := none,
           prio := 0, awaited := 0, displaced := false, opened := false }

/-- The fault completion: FAULT_CODE and the tile's FAULTED bit, and STATUS FAULTED (R101, R327);
the thread enters Idle. -/
def State.faultComplete (s : State) (q : Thr) (code : Nat) : State :=
  let s := match (s.thread q).launch with
    | some l => s.completeLaunch q l cplFaulted code
    | none => s
  let s := s.wr (thrState_FAULT_CODE q.tile q.idx) code
  let s := s.putBit (ndlStatus_FAULTED q.tile) q.idx true
  s.modThread q Thread.toIdle

/-- Discard a shot without rolling it back: its records are freed and its windows cancelled
(R93, R95, R100; DEDUCED, log entry 10). -/
def State.dropShot (s : State) (id : Nat) : State :=
  let s := s.cancelWindowsOf id
  { s with shots := s.shots.filter (fun x => x.id != id),
           holding := s.holding.filter (fun r => !(r.shot == some id && !r.committed)),
           assemblies := s.assemblies.filter (fun a => !(a.shot == some id)) }

/-- A launch ends by a program error or a stop: its thread leaves its shot, and the shot is
discarded when no local participant is left (DEDUCED, log entry 10). -/
def State.leaveShot (s : State) (q : Thr) : State :=
  match s.shotOf q with
  | none => s
  | some id =>
      let s := s.modShot id (fun x => { x with parts := x.parts.filter (fun p => p.thr != q) })
      let s := s.modThread q (fun t => { t with shot := none, prevShot := none })
      match s.shotById id with
      | some x => if x.parts.isEmpty then s.dropShot id else s
      | none => s

/-- A program error (R87, R90, R95): the launch ends, never replayed. -/
def State.programError (s : State) (q : Thr) (code : Nat) : State :=
  (s.leaveShot q).endLaunch q code

/-- A launch ended by STOP (0x0A) or by leaving Active (0x0B): the thread enters Idle at once and
the completion is written (R100). -/
def State.stopLaunch (s : State) (q : Thr) (code : Nat) : State :=
  if (s.thread q).st = .idle then s
  else
    let s := s.leaveShot q
    s.faultComplete q code

/-! Unpick (R346, R416, R417). -/

/-- USPAN as it acts (R347). -/
def State.uspan (s : State) : Nat := max 24 (s.rd intCfg_USPAN)

/-- The largest RESET of the device's participants with BLK = 0, or 0 (R346). -/
def Shot.resetSpan (x : Shot) : Nat :=
  x.parts.foldl (fun m p => if p.args.blk then m else max m p.args.reset.toNat) 0

/-- Envelopes of the shot's plays ramp to zero over 16 ns; tones end 16 ticks on, and with them the spans of
their markers (R346; 04 R128). -/
def State.rampPlays (s : State) (id : Nat) : State :=
  let mine := s.plays.filter (fun p => p.shot == some id && p.body.typ != 2)
  let s := s.each mine (fun s p =>
    if 16 * s.tick + 256 < p.last then s.endSpan p (p.lastBefore (16 * s.tick + 257)) else s)
  { s with plays := s.plays.map (fun p =>
      if p.shot = some id ∧ p.body.typ ≠ 2 then
        { p with ramp := some (min (p.ramp.getD (16 * s.tick)) (16 * s.tick)), last := min p.last (p.lastBefore (16 * s.tick + 257)) }
      else p) }

/-- Whether an unpick in this tick cancels or undoes an act before it happens (R416): those stamped later,
and those of flux channels and tone registers, which happen at the end of their tick. -/
def State.cancels (s : State) (id : Nat) (a : Act) : Bool :=
  a.shot == some id && (a.isFlux || a.isTone || decide (16 * (s.tick + 1) ≤ a.at_))

/-- Everything R349 restores but the threads. -/
def State.rollback (s : State) (x : Shot) : State :=
  let gone := s.acts.filter (s.cancels x.id)
  let s := { s with acts := s.acts.filter (fun a => !s.cancels x.id a) }
  let s := s.each gone (fun s a => match a.kind with
    | .play g _ | .join g _ => s.unmark g a.at_
    | _ => s)
  let s := ((s.rampPlays x.id).stopFluxOf x).stopReaders x.id
  let s := (s.unfit x.id).cancelWindowsOf x.id
  let s := { s with holding := s.holding.filter (fun r => !(r.shot == some x.id && !r.committed)),
                    assemblies := (s.assemblies.filter (fun (a : Assembly) =>
                      !(a.shot == some x.id && decide (s.tick < a.tick + 12)))).map (fun (a : Assembly) =>
                        if a.shot = some x.id then { a with undone := true } else a),
                    decTick.snaps := s.decTick.snaps ++ [(x.id, x.parts.map ShotPart.thr, x.snap)] }
  let s := s.setLedger (s.ledger ^^^ x.undo)
  let s := s.each x.tones State.restoreTone
  let s := s.each x.fluxes (fun s u => (s.wr (fluxLvl_LVL u.tile u.k) u.before.toNat).setFluxRun u.tile u.k
    { s.fluxRun u.tile u.k with owner := u.owner })
  let s := s.each x.bobs State.restoreBob
  s.restoreTraining x

/-- A participant's thread set back to its checkpoint, shifted by the replay offset (R92, R94). -/
def Thread.rewindTo (t : Thread) (p : ShotPart) (id v delta replays : Nat) : Thread :=
  { t with st := .rewinding, g := p.ck.g, pc := p.ck.pc, tc := p.ck.tc + BitVec.ofNat 64 delta,
           tcf := p.ck.tcf, wt := p.ck.wt + BitVec.ofNat 64 delta, ws := p.ck.ws, lc := p.ck.lc,
           stack := p.ck.stack, trigs := p.ck.trigs, barGen := p.ck.barGen, queue := [],
           wait := none, hold := none, opening := none, prio := 0, shot := some id,
           prevShot := none, replays := replays, launchReplays := t.launchReplays + 1,
           effectEnd := 0,
           rewind := some { resume := v,
                            block := if p.args.blk then some (p.args.reset.setWidth 17) else none,
                            beginPc := p.ck.pc - 1 } }

/-- Whether the thread is still in the launch that opened the shot. -/
def State.inShot (s : State) (q : Thr) (id : Nat) : Bool :=
  s.shotOf q == some id && (s.thread q).opened

/-- The unpick of a shot acted on now, with unpick tick U = u (R346).  `force` ends the launches
with a code whatever the replay rules say (R25, R347); `code` is the code of a fault that is not
replayed (R95).  Answers the state and whether the shot is replayed. -/
def State.unpick (s : State) (id u : Nat) (force : Option Nat) (code : Nat) : State × Bool :=
  match s.shotById id with
  | none => (s, false)
  | some x =>
      let s := (s.rollback x).bump intCounts2_UNPICKS
      let qs := x.parts.filter (fun p => s.inShot p.thr id)
      let host := qs.any (fun p => (s.thread p.thr).modes.replayHost)
      let verdict : Option Nat :=
        match force with
        | some c => some c
        | none =>
            if qs.isEmpty then some code
            else if host || decide (s.rd intCfg_BUDGET ≤ x.replays) then
              (if code = 0x01 ∧ !x.replayable then some code else some 0x08)
            else if x.replayable then none else some code
      match verdict with
      | some c =>
          let s := (if x.joint then s.noteUnpicked x.bar x.gen none else s).reopenBars qs none
          let s := s.each qs (fun s p =>
            (s.modThread p.thr (fun t => { t with barGen := p.ck.barGen })).endLaunch p.thr c)
          let s := s.each x.parts (fun s p => s.modThread p.thr (fun t =>
            if t.prevShot = some id then { t with prevShot := none } else t))
          ({ s with shots := s.shots.filter (fun y => y.id != id) }, false)
      | none =>
          let v := u + 24 + (if x.joint then s.uspan else 0) + x.resetSpan
          let delta := v - x.k
          let s := (if x.joint then s.noteUnpicked x.bar x.gen (some v) else s).reopenBars qs (some v)
          let s := s.restoreExpTimers x delta
          let s := s.each qs (fun s p =>
            s.modThread p.thr (fun t => t.rewindTo p id v delta (x.replays + 1)))
          let s := s.modShot id (fun y =>
            { y with replays := y.replays + 1, undo := 0, tones := [], fluxes := [], bobs := [],
                     clip := [], starved := [], corr := [], released := none,
                     parts := y.parts.map (fun p => { p with ended := none, c0 := 0 }) })
          (s, true)

/-! Faults (R342, R343, R351). -/

/-- The counter of a fault class (R351). -/
def State.countFault (s : State) (cls : Nat) : State :=
  match cls with
  | 1 => s.bump intCounts_RESIDUE
  | 2 => s.bump intCounts_UNCORR
  | 3 => s.bump intCounts2_POISON_RD
  | 4 => s.bump intCounts2_LOST
  | 5 => s.bump intCounts2_LATE
  | 6 => s.bump intCounts2_OVERRUN
  | 7 => s.bump intCounts2_EXHAUST
  | 8 => s.bump intCounts2_LATE_UNPICK
  | _ => s

/-- INT.LAST and INT.LAST_TICK (R351). -/
def State.lastFault (s : State) (cls locus tile thread : Nat) (attrib replayed : Bool) (addr : Nat) :
    State :=
  (s.setReg ⟨.intLast, 0, 0, 0⟩ (BitVec.ofNat 64
    (cls % 256 + (locus % 256) * 2 ^ 8 + (tile % 16) * 2 ^ 16
      + (if attrib then (thread % 8) * 2 ^ 20 + 2 ^ 23 else 0)
      + (if replayed then 2 ^ 24 else 0) + (addr % 2 ^ 32) * 2 ^ 32))).setReg
    ⟨.intLastTick, 0, 0, 0⟩ s.ft

/-- The report of a fault that is not replayed: the device fault notice (R351). -/
def State.faultNotice (s : State) (cls locus tile thread : Nat) (attrib : Bool) : State :=
  s.notice 0xE8 cplDeviceFault cls 0
    (tile % 16 + (if attrib then (thread % 8) * 2 ^ 4 + 2 ^ 7 else 0)
      + (if 4 ≤ cls then 0 else (locus % 256) * 2 ^ 8))

/-- The fault code of a fault that is not replayed (R95). -/
def faultCodeOf (cls : Nat) : Nat := if cls = 5 then 0x01 else 0x09

/-- Whether the shot is already being rewound (R346): further faults are only counted. -/
def State.rewinding (s : State) (id : Nat) : Bool :=
  match s.shotById id with
  | none => false
  | some x => x.parts.any (fun p => decide ((s.thread p.thr).st = .rewinding) && s.inShot p.thr id)

/-- A fault attributed to one shot: the UNPICK of a joint shot is sent, and the shot is unpicked
(R346). -/
def State.faultShot (s : State) (cls : Nat) (id : Nat) : State × Bool :=
  if s.rewinding id then (s, true)
  else
    let s := match s.shotById id with
      | some x => if x.joint then s.sendUnpick x.bar x.gen s.ft none else s
      | none => s
    s.unpick id s.tick none (faultCodeOf cls)

/-- A detected fault with the shots it is attributed to and its owning thread (R343, R351). -/
def State.fault (s : State) (cls locus tile addr : Nat) (ids : List Nat) (owner : Option Thr) :
    State :=
  let s := (s.countFault cls).pulse 501
  let th := match owner with | some q => q.idx | none => 0
  match ids with
  | [] =>
      let ended := match owner with
        | some q => decide ((s.thread q).st ≠ .idle ∧ (s.thread q).st ≠ .faulted)
        | none => false
      let s := match owner with
        | some q => s.endLaunch q (faultCodeOf cls)
        | none => s
      (s.lastFault cls locus tile th ended false addr).faultNotice cls locus tile th ended
  | ids =>
      let r := ids.foldl (fun (p : State × Bool) id =>
        let p' := p.1.faultShot cls id; (p'.1, p.2 && p'.2)) (s, true)
      let s := r.1.lastFault cls locus tile th (!r.2) r.2 addr
      if r.2 then s else s.faultNotice cls locus tile th true

/-- A fault owned by a thread: attributed to its open shot, if it has one (R343). -/
def State.threadFault (s : State) (cls locus : Nat) (q : Thr) (addr : Nat) : State :=
  match s.shotOf q with
  | some id => s.fault cls locus q.tile addr [id] (some q)
  | none => s.fault cls locus q.tile addr [] (some q)

/-- A read of words of the frame ledger, one of which may be poisoned: attributed to every open shot of the
device (R339, R341-R343). -/
def State.ledgerRead (s : State) (ws : List Nat) : State :=
  match ws.find? (fun i => s.poisoned 6 0 i) with
  | none => s
  | some i =>
      if s.shots.isEmpty then (s.bump intCounts2_POISON_RD).fault 2 6 0 i [] none
      else s.fault 3 6 0 i (s.shots.map Shot.id) none

/-- A read of a poisoned word by an owner (R339, R341, R342): class 0x03 inside a shot scope, class
0x02 outside. The thread's own reads (loci 0x01 and 0x02) are inside while its scope is; those of its
commands while their shot is open. -/
def State.poisonFault (s : State) (locus : Nat) (q : Thr) (addr : Nat) : State :=
  if (if locus ≤ 2 then (s.thread q).shot else s.shotOf q).isSome then s.threadFault 3 locus q addr
  else (s.bump intCounts2_POISON_RD).threadFault 2 locus q addr

/-- The shots open on a tile (R124). -/
def State.openOn (s : State) (t : Nat) : List Nat :=
  (s.shots.filter (fun x => x.parts.any (fun p => p.thr.tile == t))).map Shot.id

/-- An event ends the replayability of a shot (R344). -/
def State.notReplayable (s : State) (id : Option Nat) : State :=
  match id with
  | some i => s.modShot i (fun x => { x with replayable := false })
  | none => s

end Sys2Proof.Machine
end

