-- ==== Sys2Proof/Machine/Issue.lean ====
section
/-! DEFINITION. Issue (03 R72-R77), stamps (R79), special registers (R71), decision words as a
thread reads them (06 R174, R179-R182, 12 R340), and the end of a wait. -/

namespace Sys2Proof.Machine

open Fld

/-! Issue. -/

/-- Whether the slot the thread issues on is free in this tick (R72, R74). -/
def State.slotFree (s : State) (q : Thr) : Bool :=
  if 0 < (s.thread q).prio then Tab.find s.priSlot q.tile != some s.tick
  else match Tab.find s.ordSlot q.tile with
    | some p => p.1 != s.tick
    | none => true

/-- Whether the thread can issue in this tick: Running, not held, ready, and its slot free. -/
def State.canIssue (s : State) (q : Thr) : Bool :=
  decide ((s.thread q).st = .running) && (s.thread q).hold.isNone
    && decide ((s.thread q).readyAt ≤ s.tick) && s.slotFree q

/-- The thread after an issue of cost c: PC advanced, unready for the c − 1 ticks after, and one
priority issue used (R72-R74). -/
def Thread.stepped (t : Thread) (tick cost : Nat) : Thread :=
  { t with pc := t.pc + 1, readyAt := tick + cost, prio := t.prio - 1 }

/-- The state after an issue: the slot is used, and the thread stepped. -/
def State.issued (s : State) (q : Thr) (cost : Nat) : State :=
  let s := if 0 < (s.thread q).prio then { s with priSlot := Tab.set s.priSlot q.tile s.tick }
    else { s with ordSlot := Tab.set s.ordSlot q.tile (s.tick, q.idx) }
  s.modThread q (fun t => t.stepped s.tick cost)

/-- Issue an instruction: nothing happens unless the thread can issue (DESIGN CHOICE, log entry 2); an instruction
word that SECDED cannot correct is a fault at issue (R339, locus 0x01). -/
def State.issueThen (s : State) (q : Thr) (cost : Nat)
    (k : State → Host.Outcome State Fault Refusal) : Host.Outcome State Fault Refusal :=
  if s.canIssue q then
    if s.poisoned 0x01 q.tile (s.thread q).pc then
      .next (s.poisonFault 0x01 q (s.thread q).pc)
    else k (s.issued q cost)
  else .next s

/-- An instruction that only changes its thread. -/
def State.run (s : State) (q : Thr) (cost : Nat) (f : Thread → Thread) :
    Host.Outcome State Fault Refusal :=
  s.issueThen q cost (fun s => .next (s.modThread q f))

/-! Arithmetic on threads. -/

/-- Format A with a result in RD. -/
def Thread.alu (t : Thread) (rd ra rb : BitVec 5) (f : Word → Word → Word) : Thread :=
  t.setReg rd (f (t.reg ra) (t.reg rb))

/-- Format I with a result in RD; IMM is sign-extended (R76). -/
def Thread.alui (t : Thread) (rd ra : BitVec 5) (imm : BitVec 32) (f : Word → Word → Word) :
    Thread :=
  t.setReg rd (f (t.reg ra) (imm.signExtend 64))

/-- The shift distance of a register or immediate: its low six bits. -/
def shiftDist (w : Word) : Nat := w.toNat % 64

/-- Shift left, logical right and arithmetic right by the low six bits. -/
def shiftLeft (a b : Word) : Word := a <<< shiftDist b
def shiftRight (a b : Word) : Word := a >>> shiftDist b
def shiftArith (a b : Word) : Word := a.sshiftRight (shiftDist b)

/-- Signed minimum and maximum. -/
def minWord (a b : Word) : Word := if a.slt b then a else b
def maxWord (a b : Word) : Word := if a.slt b then b else a

/-- 1 or 0 of a comparison. -/
def flagWord (b : Bool) : Word := if b then 1 else 0

/-- A branch of cost 4: to TARGET if taken, else to the next word (R73). -/
def Thread.branch (t : Thread) (taken : Bool) (target : BitVec 17) : Thread :=
  if taken then { t with pc := target.toNat } else t

/-! The time cursor (R62, R63). -/

/-- The cursor set to a count of fine steps, modulo 2^68. -/
def Thread.setCursor (t : Thread) (fine : Int) : Thread :=
  let n := (fine % (2 ^ 68 : Nat)).toNat
  { t with tc := BitVec.ofNat 64 (n / 16), tcf := BitVec.ofNat 4 n }

/-- The cursor as a count of fine steps. -/
def Thread.cursor (t : Thread) : Int := (t.tc.toNat * 16 + t.tcf.toNat : Nat)

/-! Special registers (R71). -/

/-- SHOT: in a scope, replays, replayable. -/
def State.shotSpecial (s : State) (q : Thr) : Nat :=
  let t := s.thread q
  match t.shot with
  | none => 0
  | some id =>
      let rep := match s.shotById id with | some x => x.replayable | none => false
      1 + (t.replays % 8) * 2 + (if rep then 16 else 0)

/-- The value `mfs` copies, if the index is not reserved. -/
def State.special (s : State) (q : Thr) (sr : Nat) : Option Word :=
  let t := s.thread q
  match sr with
  | 0 => some (BitVec.ofNat 64 ((t.pc - 1) % 2 ^ 17))
  | 1 => some t.tc
  | 2 => some (t.tcf.setWidth 64)
  | 3 => some t.wt
  | 4 => some (t.ws.setWidth 64)
  | 5 => some (t.lc[0].setWidth 64)
  | 6 => some (t.lc[1].setWidth 64)
  | 7 => some (t.lc[2].setWidth 64)
  | 8 => some (t.lc[3].setWidth 64)
  | 9 => some (BitVec.ofNat 64 t.stack.length)
  | 10 => some (BitVec.ofNat 64 (s.shotSpecial q))
  | 11 => some (BitVec.ofNat 64 (q.idx % 8 + (q.tile % 16) * 8 + s.rd eswId_DEV * 2 ^ 8))
  | 12 => some (t.launchTag.setWidth 64)
  | 13 => some (BitVec.ofNat 64 (64 - t.queue.length))
  | 14 => some s.ft
  | _ => none

/-- The thread with a special register written, if the index can be written. -/
def Thread.setSpecial (t : Thread) (sr : Nat) (w : Word) : Option Thread :=
  match sr with
  | 1 => some { t with tc := w }
  | 2 => some { t with tcf := w.setWidth 4 }
  | 3 => some { t with wt := w }
  | 4 => some { t with ws := w.setWidth 2 }
  | 5 => some { t with lc := t.lc.set 0 (w.setWidth 32) }
  | 6 => some { t with lc := t.lc.set 1 (w.setWidth 32) }
  | 7 => some { t with lc := t.lc.set 2 (w.setWidth 32) }
  | 8 => some { t with lc := t.lc.set 3 (w.setWidth 32) }
  | _ => none

/-! Decision words (06 R167). -/

def statusOf (w : Word) : Nat := bitsOf w 45 2
def kindOf (w : Word) : Nat := bitsOf w 47 2

/-- A word delivered as lost or absent, or unreadable: VALUE, AMB, ANOM and FA zero (R168, R340). -/
def blanked (w : Word) (status : Nat) : Word :=
  withBits (withBits (withBits w 0 32 0) 42 3 0) 45 2 status

/-- The flipping bit of a qubit slot in a ledger (R181, R182). -/
def State.flipBit (s : State) (l : BitVec 768) (q : Nat) : Bool :=
  let basisX := (s.mapReg ⟨.frameBasis, q / 64, 0, 0⟩).getLsbD (q % 64)
  if basisX then l.getLsbD (2 * q) else l.getLsbD (2 * q + 1)

/-- A state code adjusted by a flipping bit (R182). -/
def adjustState (st : Nat) (flip : Bool) : Nat :=
  if flip then (if st = 0 then 1 else if st = 1 then 0 else st) else st

/-- A slot. -/
def State.slot (s : State) (n : Nat) : Slot := Tab.get s.slots n Slot.empty

/-- The word an `ldd` or a DEC.WORD read returns in this tick (R174). -/
def State.slotSeen (s : State) (n : Nat) : Word :=
  let x := s.slot n
  if x.wrote.isSome && x.tick == s.tick then x.old else x.word

/-- RD of a `wdec` that ends on a slot's last write, frame adjusted when F = 1 (R83, R180). -/
def Slot.loaded (x : Slot) (f : Bool) : Word :=
  if f && statusOf x.word == 0 && kindOf x.word == 0 && bitsOf x.word 44 1 == 0
      && bitsOf x.fq 9 1 == 1 then
    withBits (withBits x.word 0 2 (adjustState (bitsOf x.word 0 2) x.flip)) 44 1 1
  else x.word

/-! Waits (R77, R80-R86). -/

/-- A wait ends, decided in this tick: WS, WT, and issue 3 ticks on (R77).  A thread that was
Waiting through `wdec` holds priority for three issues (R74). -/
def Thread.endWait (t : Thread) (tick : Nat) (ws : BitVec 2) (wt : Word) (prio : Bool) : Thread :=
  { t with st := .running, wait := none, ws := ws, wt := wt, readyAt := tick + 3,
           prio := if prio then 3 else t.prio }

/-- A wait decided in this tick while the thread is Waiting: it stays Waiting until the tick in
which it issues again, 3 ticks on (R70, R77). -/
def Thread.decideWait (t : Thread) (tick : Nat) (ws : BitVec 2) (wt : Word) : Thread :=
  { t with ws := ws, wt := wt,
           wait := t.wait.map (fun w => { w with wake := some (tick + 3) }) }

/-- The thread enters Waiting. -/
def Thread.startWait (t : Thread) (c : WaitCond) (timeout : Option Word) : Thread :=
  { t with st := .waiting, wait := some { cond := c, timeout := timeout } }

/-- The timeout tick TC + TMO, if TMO is not 0 (R80). -/
def Thread.timeoutAt (t : Thread) (tmo : BitVec 32) : Option Word :=
  if tmo = 0 then none else some (t.tc + tmo.setWidth 64)

/-- Whether a timeout tick has already passed (R80). -/
def State.passed (s : State) (timeout : Option Word) : Bool :=
  match timeout with
  | none => false
  | some x => timeDue x s.ft && x != s.ft

/-- A waiting wait condition of a thread, still undecided. -/
def Thread.waitingOn (t : Thread) : Option WaitCond :=
  if t.st = .waiting then
    match t.wait with
    | some w => if w.wake.isNone then some w.cond else none
    | none => none
  else none

end Sys2Proof.Machine
end

