-- ==== Sys2Proof/Machine/NeedleCtl.lean ====
section
/-! DEFINITION. The control-flow instructions of a needle, the waits on triggers, decisions, PTP
time and the queue, and the end of waits (03 R73-R87). -/

namespace Sys2Proof.Machine

open Fld

/-- Go to TARGET (R73). -/
def execJmp (q : Thr) (target : BitVec 17) (s : State) : Host.Outcome State Fault Refusal :=
  s.run q 4 (fun t => t.branch true target)

/-- Branch if RA = RB (R76). -/
def execBeq (q : Thr) (ra rb : BitVec 5) (target : BitVec 17) (s : State) : Host.Outcome State Fault Refusal :=
  s.run q 4 (fun t => t.branch (t.reg ra == t.reg rb) target)

/-- Branch if RA ≠ RB (R76). -/
def execBne (q : Thr) (ra rb : BitVec 5) (target : BitVec 17) (s : State) : Host.Outcome State Fault Refusal :=
  s.run q 4 (fun t => t.branch (t.reg ra != t.reg rb) target)

/-- Branch if RA < RB signed (R76). -/
def execBlt (q : Thr) (ra rb : BitVec 5) (target : BitVec 17) (s : State) : Host.Outcome State Fault Refusal :=
  s.run q 4 (fun t => t.branch ((t.reg ra).slt (t.reg rb)) target)

/-- Branch if RA ≥ RB signed (R76). -/
def execBge (q : Thr) (ra rb : BitVec 5) (target : BitVec 17) (s : State) : Host.Outcome State Fault Refusal :=
  s.run q 4 (fun t => t.branch (!(t.reg ra).slt (t.reg rb)) target)

/-- Branch if RA < RB unsigned (R76). -/
def execBltu (q : Thr) (ra rb : BitVec 5) (target : BitVec 17) (s : State) : Host.Outcome State Fault Refusal :=
  s.run q 4 (fun t => t.branch ((t.reg ra).ult (t.reg rb)) target)

/-- Branch if RA ≥ RB unsigned (R76). -/
def execBgeu (q : Thr) (ra rb : BitVec 5) (target : BitVec 17) (s : State) : Host.Outcome State Fault Refusal :=
  s.run q 4 (fun t => t.branch (!(t.reg ra).ult (t.reg rb)) target)

/-- The VALUE bit that `bdv` and `bdn` test: AUX 32 to 63 name no bit (06 R179). -/
def valueBit (w : Word) (aux : BitVec 6) : Bool :=
  if aux.toNat < 32 then w.getLsbD aux.toNat else false

/-- Branch if bit AUX of RA is 1 (R76). -/
def execBbs (q : Thr) (ra : BitVec 5) (aux : BitVec 6) (target : BitVec 17) (s : State) : Host.Outcome State Fault Refusal :=
  s.run q 4 (fun t => t.branch ((t.reg ra).getLsbD aux.toNat) target)

/-- Branch if bit AUX of RA is 0 (R76). -/
def execBbc (q : Thr) (ra : BitVec 5) (aux : BitVec 6) (target : BitVec 17) (s : State) : Host.Outcome State Fault Refusal :=
  s.run q 4 (fun t => t.branch (!(t.reg ra).getLsbD aux.toNat) target)

/-- Branch if WS is valid and the VALUE bit is 1 (06 R179) (R76). -/
def execBdv (q : Thr) (ra : BitVec 5) (aux : BitVec 6) (target : BitVec 17) (s : State) : Host.Outcome State Fault Refusal :=
  s.run q 4 (fun t => t.branch (t.ws == 0 && valueBit (t.reg ra) aux) target)

/-- Branch if WS is valid and the VALUE bit is 0 (06 R179) (R76). -/
def execBdn (q : Thr) (ra : BitVec 5) (aux : BitVec 6) (target : BitVec 17) (s : State) : Host.Outcome State Fault Refusal :=
  s.run q 4 (fun t => t.branch (t.ws == 0 && !valueBit (t.reg ra) aux) target)

/-- Branch if bit WS of AUX[3:0] is 1 (R76). -/
def execBws (q : Thr) (aux : BitVec 6) (target : BitVec 17) (s : State) : Host.Outcome State Fault Refusal :=
  s.run q 4 (fun t => t.branch (aux.getLsbD t.ws.toNat) target)

/-- LC := LC − 1, branch if not 0 (R76, R87). -/
def execLoop (q : Thr) (aux : BitVec 6) (target : BitVec 17) (s : State) : Host.Outcome State Fault Refusal :=
  s.run q 4 (fun t =>
    let n := aux.toNat % 4
    let v := t.lc[n]'(Nat.mod_lt _ (by decide)) - 1
    { t with lc := t.lc.set n v (Nat.mod_lt _ (by decide)) }.branch (v != 0) target)

/-- Push PC + 1 and jump; at depth 16 program error 0x03 (R87). From the last word, PC + 1 is cut to the 17
bits of an address (DESIGN CHOICE, log entry 107). -/
def execCall (q : Thr) (target : BitVec 17) (s : State) : Host.Outcome State Fault Refusal :=
  s.issueThen q 4 (fun s =>
    let t := s.thread q
    if 16 ≤ t.stack.length then .next (s.programError q 0x03)
    else .next (s.setThread q { t with stack := BitVec.ofNat 17 t.pc :: t.stack, pc := target.toNat }))

/-- Pop and jump; at depth 0 program error 0x04 (R87). -/
def execRet (q : Thr) (s : State) : Host.Outcome State Fault Refusal :=
  s.issueThen q 4 (fun s =>
    let t := s.thread q
    match t.stack with
    | [] => .next (s.programError q 0x04)
    | a :: rest => .next (s.setThread q { t with stack := rest, pc := a.toNat }))

/-- Go to RA[16:0] (R76). -/
def execJr (q : Thr) (ra : BitVec 5) (s : State) : Host.Outcome State Fault Refusal :=
  s.run q 4 (fun t => { t with pc := (t.reg ra).toNat % 2 ^ 17 })

/-- An undefined opcode, or issue past word 131,071, is program error 0x02 (R76, R87). -/
def execIllegalInstruction (q : Thr) (s : State) : Host.Outcome State Fault Refusal :=
  s.issueThen q 1 (fun s => .next (s.programError q 0x02))

/-- Trigger input n of a thread. -/
def Thread.trig (t : Thread) (n : Nat) : TrigInput := t.trigs.getD n {}

/-- The thread with trigger input n replaced. -/
def Thread.setTrig (t : Thread) (n : Nat) (x : TrigInput) : Thread :=
  { t with trigs := t.trigs.set n x }

/-- Whether input n is in latched mode (R81). -/
def Thread.latched (t : Thread) (n : Nat) : Bool := t.trigMode.getLsbD n

/-- `arm` n: armed mode arms the input and discards a pending trigger; latched mode clears the
latch (R81). -/
def Thread.armInput (t : Thread) (n tick : Nat) : Thread :=
  if t.latched n then t.setTrig n { t.trig n with latch := none }
  else t.setTrig n { t.trig n with armed := some tick, pending := none }

/-- `wtrig` n at issue: a pending trigger or a set latch ends it at once, also one that an input with
TRIG_EN = 0 still holds (R81, R82; DESIGN CHOICE, log entry 108); else it waits, arming an unarmed input. WT of a
timeout already passed is its own tick (R80; DESIGN CHOICE, log entry 109). -/
def Thread.waitTrig (t : Thread) (n tick : Nat) (timeout : Option Word) (passed : Bool) : Thread :=
  let x := t.trig n
  match (if t.latched n then x.latch else x.pending) with
  | some arrived =>
      (t.setTrig n (if t.latched n then { x with latch := none } else { x with pending := none })).endWait
        tick 0 arrived false
  | none =>
      let t := if t.latched n || x.armed.isSome then t else t.setTrig n { x with armed := some tick }
      if passed then t.endWait tick 3 (timeout.getD 0) false
      else t.startWait (.trig n) timeout

/-- Wait for a trigger input (R80-R82). -/
def execWtrig (q : Thr) (n : BitVec 3) (tmo : BitVec 32) (s : State) : Host.Outcome State Fault Refusal :=
  s.run q 1 (fun t =>
    t.waitTrig n.toNat s.tick (t.timeoutAt tmo) (s.passed (t.timeoutAt tmo)))

/-- Arm a trigger input, or clear its latch (R81). -/
def execArm (q : Thr) (n : BitVec 3) (s : State) : Host.Outcome State Fault Refusal :=
  s.run q 1 (fun t => t.armInput n.toNat s.tick)

/-- The tick of a slot's last write, if it is at or after a reference tick (R83). -/
def Slot.since (x : Slot) (ref : Word) : Option Word :=
  match x.wrote with
  | some w => if dist64 w ref ≥ 0 then some w else none
  | none => none

/-- Whether a lost word is hidden from the thread by LOST_REPLAY (12 R343): it is a fault of the
thread's replayable shot. -/
def State.lostReplays (s : State) (q : Thr) (x : Slot) : Bool :=
  (statusOf x.word == 2 || x.bad) && s.on intCfg_LOST_REPLAY &&
    match (s.thread q).shot with
    | some id => match s.shotById id with | some y => y.replayable | none => false
    | none => false

/-- Whether an exchange on a lane is outside a shot's joint-shot group (12 R344). -/
def State.outsideGroup (s : State) (x : Shot) (lane : Nat) : Bool :=
  !(x.joint && s.on (eswBar_EN x.bar)
    && ((!s.on (eswBar_ROOT x.bar) && s.rd (eswBar_UP_LANE x.bar) == lane)
        || s.bitAt (eswBar_DOWN_LANES x.bar) lane))

/-- A `wdec` of a shot that ends on a delivery from outside its group ends its replayability
(12 R344). -/
def State.tookDelivery (s : State) (q : Thr) (x : Slot) : State :=
  match x.lane, (s.thread q).shot with
  | some l, some id =>
      match s.shotById id with
      | some y => if s.outsideGroup y l && statusOf x.word == 0 then s.notReplayable (some id) else s
      | none => s
  | _, _ => s

/-- RD, WS and WT of a `wdec` that ends on a slot's last write (R83, 12 R340). -/
def Thread.takeDec (t : Thread) (x : Slot) (rd : BitVec 5) (f : Bool) (wt : Word) : Thread :=
  if x.bad then
    { t.setReg rd (blanked x.word 2) with ws := 2, wt := wt }
  else { t.setReg rd (x.loaded f) with ws := BitVec.ofNat 2 (statusOf x.word), wt := wt }

/-- Wait for a decision slot written at or after TC (R83, R84). -/
def execWdec (q : Thr) (rd : BitVec 5) (idx : BitVec 12) (f : Bool) (tmo : BitVec 32) (s : State) : Host.Outcome State Fault Refusal :=
  s.issueThen q 1 (fun s =>
    let t := s.thread q
    let x := s.slot idx.toNat
    match x.since t.tc with
    | some w =>
        if s.lostReplays q x then .next (s.threadFault 4 0 q idx.toNat)
        else
          let s := (s.setThread q { t.takeDec x rd f w with readyAt := s.tick + 3 }).tookDelivery q x
          if x.bad then .next (s.fault 4 0x07 q.tile idx.toNat [] none) else .next s
    | none =>
        if s.passed (t.timeoutAt tmo) then
          .next (s.setThread q (t.endWait s.tick 3 ((t.timeoutAt tmo).getD 0) false))
        else .next (s.setThread q (t.startWait (.dec rd idx.toNat f t.tc) (t.timeoutAt tmo))))

/-- Wait until PTP time reaches RA; the shot is no longer replayable (R51, 12 R344). -/
def execWptp (q : Thr) (ra : BitVec 5) (s : State) : Host.Outcome State Fault Refusal :=
  s.issueThen q 1 (fun s =>
    let t := s.thread q
    let s := s.notReplayable t.shot
    if timeDue (t.reg ra) s.ptpNs then .next (s.setThread q (t.endWait s.tick 0 s.ft false))
    else .next (s.setThread q (t.startWait (.ptp (t.reg ra)) none)))

/-- Wait until the timed queue is empty (03, PTP time and the queue). -/
def execWq (q : Thr) (s : State) : Host.Outcome State Fault Refusal :=
  s.run q 1 (fun t =>
    if t.queue.isEmpty then t.endWait s.tick 0 s.ft false else t.startWait .queue none)

/-- A thread has completed a generation of a barrier (R85, R86). -/
def Thread.completed (t : Thread) (b g : Nat) : Thread := { t with barGen := Tab.set t.barGen b (g + 1) }

/-- A wait's timeout tick passes: WS := 3, unless a decision arrives in the same tick (R84); a timed out
barrier wait completes its generation; at a joint shot it is fault code 0x07 (R80, R86, R91, R93). -/
def execWaitTimeout (q : Thr) (s : State) : Host.Outcome State Fault Refusal :=
  let t := s.thread q
  match t.waitingOn, t.wait with
  | some (.bar b gen part why), some w =>
      if (match w.timeout with | some x => timeDue x s.ft | none => false) then
        let done := if part then t.completed b gen else t
        if why = .wbar then .next (s.setThread q (done.decideWait s.tick 3 (w.timeout.getD 0)))
        else .next ((s.setThread q done).programError q 0x07)
      else .next s
  | some c, some w =>
      let met := match c with
        | .dec _ n _ ref => ((s.slot n).since ref).isSome
        | _ => false
      if !met && (match w.timeout with | some x => timeDue x s.ft | none => false) then
        .next (s.setThread q (t.decideWait s.tick 3 (w.timeout.getD 0)))
      else .next s
  | _, _ => .next s

/-- Three ticks after its wait was decided the thread issues again; a thread that waited through
`wdec` holds priority, one that waited otherwise keeps what it held (R74, R77). -/
def execThreadWake (q : Thr) (s : State) : Host.Outcome State Fault Refusal :=
  let t := s.thread q
  match t.st, t.wait with
  | .waiting, some w =>
      match w.wake with
      | some k =>
          if k ≤ s.tick then
            .next (s.setThread q { t with
              st := .running, wait := none, readyAt := s.tick,
              prio := match w.cond with | .dec .. => 3 | _ => t.prio })
          else .next s
      | none => .next s
  | _, _ => .next s

/-- Starting ends: TC as given, TCF := 0 in every start mode (DESIGN CHOICE, log entry 110), WT := TC, WS := 0;
issue from the next tick (R97). -/
def Thread.begin (t : Thread) (tc ft : Word) (tick : Nat) : Thread :=
  { t with st := .running, tc := tc, tcf := 0, wt := tc, ws := 0, startedFt := ft, pauseFrom := tc,
           readyAt := tick + 1, prio := 0, wait := none, hold := none }

/-- Whether the thread's launch starts on trigger input n (R97). -/
def Thread.startsOn (t : Thread) (n : Nat) : Bool :=
  decide (t.st = .starting) && t.launch.any (fun l => decide (l.mode = .trig n))

/-- A trigger reaches an input: it starts a launch, or is counted, held pending, latched or ignored by
the input's mode (R81, R82, R97). -/
def execTriggerArrival (q : Thr) (n : BitVec 3) (s : State) : Host.Outcome State Fault Refusal :=
  let t := s.thread q
  let i := n.toNat
  let x := t.trig i
  if !t.trigEn.getLsbD i then .next s
  else if t.startsOn i && (t.latched i || x.armed.isSome) then
    .next (s.setThread q ((if t.latched i then t else t.setTrig i { x with armed := none }).begin
      (s.ft + BitVec.ofNat 64 t.startLead) s.ft s.tick))
  else if t.latched i then
    match t.waitingOn with
    | some (.trig k) =>
        if k = i then .next (s.setThread q (t.decideWait s.tick 0 s.ft))
        else if x.latch.isSome then .next (s.bump (thrCounts_TRIG_OVF q.tile q.idx))
        else .next (s.setThread q (t.setTrig i { x with latch := some s.ft }))
    | _ =>
        if x.latch.isSome then .next (s.bump (thrCounts_TRIG_OVF q.tile q.idx))
        else .next (s.setThread q (t.setTrig i { x with latch := some s.ft }))
  else if x.armed.isNone then .next (s.bump (thrCounts_TRIG_IGN q.tile q.idx))
  else
    let t' := t.setTrig i { x with armed := none }
    match t.waitingOn with
    | some (.trig k) =>
        if k = i then .next (s.setThread q (t'.decideWait s.tick 0 s.ft))
        else .next (s.setThread q (t.setTrig i { x with armed := none, pending := some s.ft }))
    | _ => .next (s.setThread q (t.setTrig i { x with armed := none, pending := some s.ft }))

end Sys2Proof.Machine
end

