-- ==== Sys2Proof/Machine/Acquire.lean ====
section
/-! DEFINITION. Acquisition requests and windows: acceptance, cancellation, and the arithmetic of
the matched filter and the discriminator (05 R150-R160). -/

namespace Sys2Proof.Machine

open Fld

/-! Arithmetic. -/

/-- Nearest integer of n / d for d > 0, ties away from zero. -/
def roundDiv (n : Int) (d : Nat) : Int :=
  if 0 ≤ n then (2 * n + d) / (2 * d) else -((2 * (-n) + d) / (2 * d))

/-- Limited to a magnitude. -/
def limitTo (m : Nat) (z : Int) : Int := max (-(m : Int)) (min (m : Int) z)

/-- sat24 (R155). -/
def sat24 (z : Int) : Int := limitTo 8388607 z

/-- Complex product without conjugation (R155). -/
def Cplx.mul (a b : Cplx) : Cplx := ⟨a.i * b.i - a.q * b.q, a.i * b.q + a.q * b.i⟩

def Cplx.add (a b : Cplx) : Cplx := ⟨a.i + b.i, a.q + b.q⟩

/-- A tap of a kernel word: I in the low half, Q in the high half of 32 bits. -/
def tapOf (n : Nat) : Cplx := ⟨signedOf 16 (n % 2 ^ 16), signedOf 16 (n / 2 ^ 16 % 2 ^ 16)⟩

/-- Tap n of a bank's kernel. -/
def DemodBank.tap (b : DemodBank) (n : Nat) : Cplx :=
  tapOf (bitsOf (b.kernel.getD (n / 2) 0) (32 * (n % 2)) 32)

/-- KLEN as it acts: values above 512 act as 512. -/
def DemodBank.klen (b : DemodBank) : Nat := min 512 (bitsOf b.cfg 32 10)

/-- The weight of sample n (R155). -/
def DemodBank.weight (b : DemodBank) (n : Nat) : Cplx :=
  if n < b.klen then b.tap n else tapOf (bitsOf b.boxw 0 32)

/-- acc over the samples from index n (R155). -/
def DemodBank.accumulate (b : DemodBank) : Nat → List Cplx → Cplx
  | _, [] => ⟨0, 0⟩
  | n, x :: rest => ((b.weight n).mul x).add (b.accumulate (n + 1) rest)

/-- The integrated point before and after sat24 (R155). -/
def DemodBank.point (b : DemodBank) (x : List Cplx) : Cplx × Bool :=
  let acc := b.accumulate 0 x
  let d := 2 ^ (15 + bitsOf b.cfg 16 4)
  let i := roundDiv acc.i d
  let q := roundDiv acc.q d
  (⟨sat24 i, sat24 q⟩, sat24 i != i || sat24 q != q)

/-- A linear function of a point, scaled by 2^15 (R156). -/
def lineOf (disc : Word) (p : Cplx) : Int :=
  signedOf 16 (bitsOf disc 0 16) * p.i + signedOf 16 (bitsOf disc 16 16) * p.q
    - signedOf 32 (bitsOf disc 32 32) * 2 ^ 15

/-- The state of a point (R156). -/
def DemodBank.stateOf (b : DemodBank) (p : Cplx) : BitVec 2 :=
  if lineOf b.disc0 p < 0 then 0
  else if lineOf b.disc1 p < 0 ∨ bitsOf b.cfg 1 1 = 0 then 1
  else 2

/-- Whether a point is ambiguous (R156). -/
def DemodBank.ambOf (b : DemodBank) (p : Cplx) : Bool :=
  decide ((lineOf b.disc0 p).natAbs < bitsOf b.guard 0 24 * 2 ^ 15) ||
    (bitsOf b.cfg 1 1 == 1 && decide ((lineOf b.disc1 p).natAbs < bitsOf b.guard 32 24 * 2 ^ 15))

/-! The rotation of a fitting run (08 R259). -/

/-- A run with one more window: its point joins the sum of the present position. -/
def FitRun.add (f : FitRun) (z : Cplx) : FitRun :=
  let wrap := decide (f.pos + 1 = f.npts + 2)
  { f with sums := (List.range (f.npts + 2)).map (fun i =>
             let y := f.sums.getD i ⟨0, 0⟩
             if i = f.pos then y.add z else y),
           pos := if wrap then 0 else f.pos + 1, rounds := if wrap then f.rounds + 1 else f.rounds }

/-- A run with all the windows that have completed. -/
def FitRun.whole (f : FitRun) : FitRun :=
  { f.later.foldl (fun g p => g.add p.2) f with later := [] }

/-- The windows that no unpick can take back any more are added for good. -/
def FitRun.fold (opened : Nat → Bool) (f : FitRun) : FitRun :=
  { (f.later.takeWhile (fun p => !p.1.any opened)).foldl (fun g p => g.add p.2) f with
    later := f.later.dropWhile (fun p => !p.1.any opened) }

/-! Banks and windows. -/

/-- The bank in force of a channel (R160). -/
def State.bankOf (s : State) (t c : Nat) : DemodBank := Tab.get s.demodBank (t, c) {}

/-- The staging bank as the registers hold it (R159). -/
def State.stagingBank (s : State) (t c : Nat) : DemodBank :=
  { cfg := s.reg ⟨.acqCfg, t, c, 0⟩, dfreq := s.reg ⟨.acqDfreq, t, c, 0⟩,
    dphase := s.reg ⟨.acqDphase, t, c, 0⟩, delay := s.reg ⟨.acqDelay, t, c, 0⟩,
    boxw := s.reg ⟨.acqBoxw, t, c, 0⟩, disc0 := s.reg ⟨.acqDisc0, t, c, 0⟩,
    disc1 := s.reg ⟨.acqDisc1, t, c, 0⟩, guard := s.reg ⟨.acqGuard, t, c, 0⟩,
    kernel := (List.range 256).map (fun i => s.reg ⟨.kernel, t, c, i⟩) }

/-- The windows a channel holds, in order (R152). -/
def State.held (s : State) (t c : Nat) : List Window :=
  s.windows.filter (fun w => w.tile == t && w.c == c && !w.ended)

/-- The trigger instant of an armed capture becomes known (R163). -/
def State.traceAt (s : State) (t trig : Nat) (instant : Nat) : State :=
  match Tab.find s.traces t with
  | some r =>
      if r.start.isNone && s.rd (traceCtrl_TRIG t) == trig then
        { s with traces := Tab.set s.traces t { r with start := some instant } }
      else s
  | none => s

/-- A window is accepted; it may be what a trace capture waits for (R152, R163). -/
def State.accept (s : State) (w : Window) : State :=
  let s := { s with windows := s.windows ++ [w] }
  if s.rd (traceCtrl_TRIG_CH w.tile) = w.c then s.traceAt w.tile 1 w.w else s

/-- LEN as it acts, in ticks (R151). -/
def acqLen (len : Nat) : Nat := min 65536 (max 8 len)

/-- The result of one channel of an `acq`, as a request finds it: accepted as a window, or
no-result (R152, R153). -/
def State.request (s : State) (a : AcqReq) (len fine c : Nat) : State × Option ChanResult :=
  let t := a.tile
  let b := s.bankOf t c
  if bitsOf b.cfg 0 1 = 0 then
    (s.bump (acqCounts_NOWIN t c), some { c := c, state := none })
  else
    let w0 := 16 * (s.tick + 38) + fine + bitsOf b.delay 0 16
    let win (w : Nat) (disp : Bool) : Window :=
      { tile := t, c := c, acq := a.id, thr := a.thr, shot := a.shot, w := w,
        e := w + 16 * acqLen len, disp := disp, bank := b }
    match s.held t c with
    | [] => (s.accept (win w0 false), none)
    | [w1] =>
        if w0 < w1.e then
          ((s.accept (win w1.e true)).bump (acqCounts_DISPLACED t c), none)
        else (s.accept (win w0 false), none)
    | _ => (s.bump (acqCounts_DROPPED t c), some { c := c, state := none, disp := true })

/-- An `acq` at its dispatch tick: its requests are accepted channel by channel; the record forms
when the last of its windows completes, or at the stamp if none opens (R152, R158). -/
def State.acquire (s : State) (q : Thr) (shot : Option Nat) (stamp : Word) (fine : Nat)
    (mask : BitVec 24) (len : Nat) : State :=
  let th := s.thread q
  let a : AcqReq :=
    { id := s.nextShot, tile := q.tile, thr := q, shot := shot,
      shotNo := if shot.isSome then (th.scopes - 1) % 2 ^ 16 else 0xFFFF,
      ltag := th.launchTag, launch := th.startedFt, stamp := stamp, mask := mask, raw := th.modes.rdoRaw,
      frameRpt := th.modes.frameRpt, results := [], formAt := s.tick + 38 }
  let s := { s with nextShot := s.nextShot + 1 }
  let r := (List.range 24).foldl (fun (p : State × AcqReq) c =>
    if mask.getLsbD c then
      match p.1.request p.2 len fine c with
      | (s, some x) => (s, { p.2 with results := p.2.results ++ [x] })
      | (s, none) => (s, p.2)
    else p) (s, a)
  let ends := (r.1.windows.filter (fun w => w.acq == a.id)).map (fun w => w.e / 16 + 56)
  ({ r.1 with acqReqs := r.1.acqReqs ++ [{ r.2 with formAt := ends.foldl max r.2.formAt }] }).modThread
    q (fun t => { t with awaited := t.awaited + 1 })

end Sys2Proof.Machine
end

