-- ==== Sys2Proof/Machine/Timed.lean ====
section
/-! DEFINITION. The instructions that queue timed commands, and the dispatch of a command to its
unit (03 R64-R69, R78, R79; 04 R107-R123, R127-R130). -/

namespace Sys2Proof.Machine

open Fld

/-! Issue of a timed command. -/

/-- A target a tone instruction takes: drive, probe and qubit-slot kinds (R78). -/
def toneTarget (tgt : BitVec 8) : Bool :=
  let kind := tgt.toNat / 32
  let k := tgt.toNat % 32
  if kind < 3 then decide (k < 8)
  else if kind = 3 ∨ kind = 5 ∨ kind = 6 then decide (k < 24)
  else false

/-- A flux target (R78). -/
def fluxTarget (tgt : BitVec 8) : Bool :=
  tgt.toNat / 32 == 4 && decide (tgt.toNat % 32 < 12)

/-- A target `play`, `jseg` and `stage` take (R78). -/
def playTarget (tgt : BitVec 8) : Bool := toneTarget tgt || fluxTarget tgt

/-- The stamp of a command issued in this tick, under its stamp mode (R79). -/
def State.stampOf (s : State) (t : Thread) (sm : BitVec 2) : Word × BitVec 4 :=
  if sm = 1 then (s.ft + 39, 0) else (t.tc, t.tcf)

/-- A shot that issues an `acq` holds back the boundaries of its channels (05 R146, R160). -/
def State.noteAcq (s : State) (t : Nat) (c : TimedCmd) : State :=
  match c.kind, c.shot with
  | .acq mask _, some id => s.modShot id (fun x => { x with acqs := (t, mask) :: x.acqs })
  | _, _ => s

/-- Queue a command: program error 0x06 for a bad target, 0x02 for stamp mode 0b11; the cursor
advances by `adv` fine steps under TC+ (R63, R67, R78, R79).  With 64 commands queued the thread
stalls in Full, before either check (DESIGN CHOICE, log entry 112). -/
def State.timed (s : State) (q : Thr) (sm : BitVec 2) (ok : Bool) (kind : Thread → TimedKind)
    (adv : Nat) : Host.Outcome State Fault Refusal :=
  if s.canIssue q && decide (64 ≤ (s.thread q).queue.length) then
    .next (s.modThread q (fun t => { t with st := .full }))
  else s.issueThen q 1 (fun s =>
    let t := s.thread q
    if sm = 3 then .next (s.programError q 0x02)
    else if !ok then .next (s.programError q 0x06)
    else
      let st := s.stampOf t sm
      let c : TimedCmd := { kind := kind t, stamp := st.1, fine := st.2, issued := s.tick,
                            shot := t.shot }
      let t := { t with queue := t.queue ++ [c], prio := 0 }
      .next ((s.setThread q (if sm = 2 then t.setCursor (t.cursor + adv) else t)).noteAcq q.tile c))

/-- The scale of a play: the pattern's default with D = 1, SRC[15:0] with RS = 1, else SCALE
(R79). -/
def Thread.playScale (t : Thread) (d rs : Bool) (src : BitVec 5) (scale : BitVec 16) :
    Option (BitVec 16) :=
  if d then none else if rs then some ((t.reg src).setWidth 16) else some scale

/-- The duration of a pattern in fine steps, as read at issue (R79, R111). -/
def State.patFine (s : State) (pat : Nat) : Nat :=
  s.rd (dirWord1_LENGTH pat) * (if s.rd (dirWord0_TYPE pat) = 2 then 8 else 16)

/-- VAL, or a register (format TV). -/
def Thread.tvValue (t : Thread) (rs : Bool) (src : BitVec 5) (val : BitVec 32) : Word :=
  if rs then t.reg src else val.setWidth 64

/-- `play` (R79, R119). -/
def execPlay (q : Thr) (sm : BitVec 2) (d rs : Bool) (src : BitVec 5) (tgt : BitVec 8)
    (pat : BitVec 15) (scale : BitVec 16) (s : State) : Host.Outcome State Fault Refusal :=
  s.timed q sm (playTarget tgt) (fun t => .play tgt pat.toNat (t.playScale d rs src scale))
    (s.patFine pat.toNat)

/-- `jseg` (R88, R122). -/
def execJseg (q : Thr) (sm : BitVec 2) (d rs : Bool) (src : BitVec 5) (tgt : BitVec 8)
    (pat : BitVec 15) (scale : BitVec 16) (s : State) : Host.Outcome State Fault Refusal :=
  s.timed q sm (playTarget tgt) (fun t => .jseg tgt pat.toNat (t.playScale d rs src scale))
    (s.patFine pat.toNat)

/-- `stage` (R121); under TC+ it acts as TC. -/
def execStage (q : Thr) (sm : BitVec 2) (tgt : BitVec 8) (pat : BitVec 15) (s : State) :
    Host.Outcome State Fault Refusal :=
  s.timed q sm (playTarget tgt) (fun _ => .stage tgt pat.toNat) 0

/-- `setf`: FREQ := SRC[47:0] (R115). -/
def execSetf (q : Thr) (sm : BitVec 2) (src : BitVec 5) (tgt : BitVec 8) (s : State) :
    Host.Outcome State Fault Refusal :=
  s.timed q sm (toneTarget tgt) (fun t => .setf tgt ((t.reg src).setWidth 48)) 0

/-- `setp`: OFFSET := VAL or SRC[31:0] (R115). -/
def execSetp (q : Thr) (sm : BitVec 2) (rs : Bool) (src : BitVec 5) (tgt : BitVec 8)
    (val : BitVec 32) (s : State) : Host.Outcome State Fault Refusal :=
  s.timed q sm (toneTarget tgt) (fun t => .setp tgt ((t.tvValue rs src val).setWidth 32)) 0

/-- `vz`: VZ += VAL·2^16 or SRC[47:0] (R117). -/
def execVz (q : Thr) (sm : BitVec 2) (rs : Bool) (src : BitVec 5) (tgt : BitVec 8)
    (val : BitVec 32) (s : State) : Host.Outcome State Fault Refusal :=
  s.timed q sm (toneTarget tgt) (fun t => .vz tgt
    (if rs then (t.reg src).setWidth 48 else val.setWidth 48 <<< 16)) 0

/-- `flux`: the channel's level := VAL[15:0] or SRC[15:0] (08 R252). -/
def execFlux (q : Thr) (sm : BitVec 2) (rs : Bool) (src : BitVec 5) (tgt : BitVec 8)
    (val : BitVec 32) (s : State) : Host.Outcome State Fault Refusal :=
  s.timed q sm (fluxTarget tgt)
    (fun t => .flux (tgt.toNat % 32) ((t.tvValue rs src val).setWidth 16)) 0

/-- `acq` (05 R151). -/
def execAcq (q : Thr) (sm : BitVec 2) (mask : BitVec 24) (len : BitVec 17) (s : State) :
    Host.Outcome State Fault Refusal :=
  s.timed q sm true (fun _ => .acq mask len.toNat) 0

/-- `mark`: ACT 0b11 is program error 0x02 (R76, R129). -/
def execMark (q : Thr) (sm act : BitVec 2) (m : BitVec 5) (width : BitVec 16) (s : State) :
    Host.Outcome State Fault Refusal :=
  if act = 3 then s.issueThen q 1 (fun s => .next (s.programError q 0x02))
  else s.timed q sm true (fun _ => .mark act m.toNat width.toNat) 0

/-- `emit` (10 R285). -/
def execEmit (q : Thr) (sm ev : BitVec 2) (s : State) : Host.Outcome State Fault Refusal :=
  s.timed q sm true (fun _ => .emit ev.toNat) 0

/-! Targets and directory entries at dispatch. -/

/-- The bindings in force for a thread: its own copy, or the registers while it is Idle (R102). -/
def State.bindOf (s : State) (q : Thr) (k : Nat) : Word :=
  let t := s.thread q
  if t.st = .idle ∨ t.binds = [] then s.reg ⟨.bind, q.tile, k, 0⟩ else t.binds.getD k 0

/-- The target a TGT field names for a thread (R78). -/
def State.resolve (s : State) (q : Thr) (tgt : BitVec 8) : Tgt :=
  let kind := tgt.toNat / 32
  let k := tgt.toNat % 32
  if kind < 4 then .tone q.tile kind k
  else if kind = 4 then .flux q.tile k
  else if kind = 5 then
    let v := bitsOf (s.bindOf q k) 0 5
    .tone q.tile (v / 8) (v % 8)
  else .tone q.tile 3 (bitsOf (s.bindOf q k) 8 5)

/-- Whether the channel of a tone target converts (R112); a flux target's ENABLE is not asked. -/
def State.converts (s : State) : Tgt → Bool
  | .tone t c _ => s.on (synCfg_ENABLE t c)
  | .flux .. => true

/-- The entry as a dispatch reads it: what it plays on the target, or nothing (R79, R111, R112). -/
def State.bodyOf (s : State) (g : Tgt) (pat : Nat) (scale : Option (BitVec 16)) : Option PlayBody :=
  let typ := s.rd (dirWord0_TYPE pat)
  let len := s.rd (dirWord1_LENGTH pat)
  let base := s.rd (dirWord0_BASE pat)
  let bob := base % 4
  if s.rd (dirWord0_TILE pat) ≠ g.tile ∨ typ = 0 ∨ len = 0 then none
  else if g.isFlux ≠ (typ == 2) then none
  else if !s.converts g then none
  else if typ = 3 ∧ s.rd (bobStatus_STATE g.tile bob) = 0 then none
  else some
    { pat := pat, typ := typ, base := base, len := len,
      scale := scale.getD (BitVec.ofNat 16 (s.rd (dirWord0_DEFAULT_SCALE pat))),
      mkEn := s.on (dirWord0_MK_EN pat), marker := s.rd (dirWord0_MK pat),
      fluxHold := s.on (dirWord0_FLUX_HOLD pat),
      bob := if typ = 3 then some bob else none }

/-- The instant of a body's last sample from the instant of its first. -/
def PlayBody.lastFrom (b : PlayBody) (g : Tgt) (start : Nat) : Nat := start + g.period * (b.len - 1)

/-- The instant by which acts are ordered: set and clear actions of markers go by their tick (R129). -/
def Act.when (a : Act) : Nat :=
  match a.kind with
  | .mark act _ _ => if act = 0 then a.at_ else a.at_ / 16 * 16
  | _ => a.at_

/-- The order in which acts of one instant apply: ascending instant, then tile and thread, then
issue order (R69, R120, R129). -/
def Act.before (a b : Act) : Bool :=
  decide (a.when < b.when) || (decide (a.when = b.when) && a.thr.lt b.thr)

/-- Insertion in that order, after those of the same rank. -/
def Act.insert (a : Act) : List Act → List Act
  | [] => [a]
  | b :: rest => if a.before b then a :: b :: rest else b :: a.insert rest

/-- Acts in the order in which they apply. -/
def Act.sort (l : List Act) : List Act := l.foldl (fun r a => a.insert r) []

/-- The pattern starts on a target, in the order in which they apply. -/
def State.startsOn (s : State) (g : Tgt) : List Act :=
  Act.sort (s.acts.filter (fun a => a.pattern.any (fun x => x.1 == g)))

/-- Whether a pattern start comes into its own: none on its target of the same instant comes after it
(R120), and none before it cancels a join (R123). -/
def State.stands (s : State) (a : Act) : Bool :=
  match a.pattern with
  | none => false
  | some (g, _) =>
      let l := s.startsOn g
      (l.filter (fun x => x.at_ == a.at_)).getLast? == some a
        && !(a.isJoin && l.any (fun x => decide (x.at_ < a.at_)))

/-- The pattern starts to come that stand. -/
def State.standing (s : State) : List (Act × Tgt × Option PlayBody) :=
  (s.acts.eraseDups.filter s.stands).filterMap (fun a => a.pattern.map (fun x => (a, x)))

/-- The play that starts on a target in this tick, while it has not been carried out; `none` inside
for a play of nothing. -/
def State.startingOn (s : State) (g : Tgt) : Option (Option Playing) :=
  ((s.startsOn g).filterMap (fun a =>
    if s.tick < a.at_ / 16 then none
    else a.pattern.map (fun x => x.2.map (fun y =>
      Playing.mk g y a.thr a.shot a.at_ (y.lastFrom g a.at_) none)))).getLast?

/-- The pattern playing on a target in this tick: its last sample does not lie before it (R122). -/
def State.playingOn (s : State) (g : Tgt) : Option Playing :=
  match s.startingOn g with
  | some p => p
  | none => s.plays.find? (fun p => p.tgt == g && decide (16 * s.tick ≤ p.last))

/-! Markers (R127-R129). -/

/-- Whether a tile holds the claim of a marker (R127, 10 R296). -/
def State.holdsMarker (s : State) (t m : Nat) : Bool := s.rd (claimMk_HOLDER m) == t + 1

/-- A pattern start with MK_EN = 1 schedules its marker with the settings of its dispatch tick (R128); the
claim counts at the start and while the pin is driven (R127). -/
def State.startMarker (s : State) (g : Tgt) (b : PlayBody) (start : Nat) (shot : Option Nat) : State :=
  let t := g.tile
  let m := b.marker
  if !b.mkEn then s
  else
    let ext := s.on (synMark_EXT t m)
    let delay := s.rd (synMark_DELAY t m)
    let pre := 16 * min 30 (s.rd (synMark_PRE t m))
    let from_ := start - pre + delay
    if s.on (synMark_PS_MODE t m) then
      let tail := 16 * s.rd (synMark_POST t m) + delay
      { s with pulses := s.pulses ++ [{ tile := t, marker := m, from_ := from_, span := some g,
                                        until_ := b.lastFrom g start + g.period + tail, tail := tail,
                                        play := some (g, start), ext := ext, shot := shot }] }
    else
      { s with pulses := s.pulses ++ [{ tile := t, marker := m, from_ := from_, span := none,
                                        until_ := from_ + 16 * max 1 (s.rd (synMark_PS_WIDTH t m)),
                                        play := some (g, start), ext := ext, shot := shot }] }

/-! Dispatch. -/

/-- The end of effect of the thread's last timed command, as its shot's part keeps it for C0
(R93; DEDUCED, log entry 12). -/
def State.effectUntil (s : State) (q : Thr) (shot : Option Nat) (tick : Nat) : State :=
  match shot with
  | none => s
  | some id => s.modShot id (fun x =>
      { x with parts := x.parts.map (fun p => if p.thr = q then { p with c0 := tick } else p) })

/-- A dispatched command waits for its instant (R64). -/
def State.addAct (s : State) (a : Act) : State := { s with acts := s.acts ++ [a] }

/-- The first bobbin play issued within a shot scope records the rollback position (R138). -/
def State.noteBob (s : State) (t : Nat) (b : Option PlayBody) (shot : Option Nat) : State :=
  match b, shot with
  | some body, some id =>
      match body.bob with
      | none => s
      | some k => s.modShot id (fun x =>
          if x.bobs.any (fun u => u.tile == t && u.b == k) then x
          else { x with bobs := { tile := t, b := k, rp := s.rd (bobRp_VALUE t k),
                                  loopsLeft := s.rd (bobLoop_LOOPS_LEFT t k) } :: x.bobs })
  | _, _ => s

/-- A shot dispatches a command to a flux channel (08 R257, R258). -/
def State.noteFlux (s : State) (g : Tgt) (shot : Option Nat) : State :=
  match g, shot with
  | .flux t k, some id => s.modShot id (fun x =>
      if x.fluxUsed.contains (t, k) then x else { x with fluxUsed := (t, k) :: x.fluxUsed })
  | _, _ => s

/-- A `play`, or a `jseg` that acts as one, takes effect at its stamp (R119). -/
def State.dispatchPlay (s : State) (q : Thr) (c : TimedCmd) (g : Tgt) (b : Option PlayBody) : State :=
  let start := g.instant (16 * (s.tick + 38) + c.fine.toNat)
  let s := match b with
    | some body => (s.startMarker g body start c.shot).effectUntil q c.shot (body.lastFrom g start / 16)
    | none => (s.bump (synCounts_NULL_PLAY g.tile)).effectUntil q c.shot (s.tick + 38)
  ((s.noteBob g.tile b c.shot).noteFlux g c.shot).addAct
    { thr := q, shot := c.shot, stamp := c.stamp, at_ := start, kind := .play g b }

/-- Whether a staged copy of the pattern on the target is filled (R88, R121). -/
def State.stagedFor (s : State) (g : Tgt) (pat : Nat) : Option Staged :=
  s.staged.find? (fun x => x.tgt == g && x.pat == pat && decide (x.filled ≤ s.tick))

/-- `jseg` at its dispatch tick (R122). -/
def State.dispatchJseg (s : State) (q : Thr) (c : TimedCmd) (g : Tgt) (pat : Nat)
    (b : Option PlayBody) : State :=
  let stamp := g.instant (16 * (s.tick + 38) + c.fine.toNat)
  match s.playingOn g with
  | none => s.dispatchPlay q c g b
  | some p =>
      if stamp / 16 < p.last / 16 then s.dispatchPlay q c g b
      else
        let hit := s.stagedFor g pat
        let join := p.last + g.period + (if hit.isSome then 0 else 320)
        let s := match hit with
          | some x => { s with staged := s.staged.erase x,
                               envRead := Tab.set s.envRead (g, join)
                                 { n := x.samples.length, recent := x.samples.reverse : Fetched } }
          | none => s.bump (synCounts_JOIN_GAP g.tile)
        let s := match b with
          | some body => (s.startMarker g body join c.shot).effectUntil q c.shot (body.lastFrom g join / 16)
          | none => (s.bump (synCounts_NULL_PLAY g.tile)).effectUntil q c.shot (join / 16)
        ((s.noteBob g.tile b c.shot).noteFlux g c.shot).addAct
          { thr := q, shot := c.shot, stamp := c.stamp, at_ := join, kind := .join g b }

/-- `stage` at its dispatch tick: the buffer is emptied, an earlier `stage` that has not filled it fills nothing,
and it is filled 18 ticks before the stamp
unless the entry would play nothing or is a bobbin's (R121). -/
def State.dispatchStage (s : State) (q : Thr) (c : TimedCmd) (g : Tgt) (pat : Nat)
    (b : Option PlayBody) : State :=
  let s := { s with staged := s.staged.filter (fun x => x.tgt != g),
                    acts := s.acts.filter (fun a => match a.kind with
                      | .stageFill g' .. => g' != g
                      | _ => true) }
  let s := s.effectUntil q c.shot (s.tick + 38)
  match b with
  | none => s
  | some body =>
      if body.bob.isSome then s
      else s.addAct { thr := q, shot := c.shot, stamp := c.stamp, at_ := 16 * (s.tick + 20),
                      kind := .stageFill g pat (s.reg ⟨.dirWord0, pat, 0, 0⟩)
                        (s.reg ⟨.dirWord1, pat, 0, 0⟩) }

/-- A command that acts on its unit at its stamp. -/
def State.dispatchAct (s : State) (q : Thr) (c : TimedCmd) (k : ActKind) (until_ : Nat) : State :=
  (s.effectUntil q c.shot until_).addAct
    { thr := q, shot := c.shot, stamp := c.stamp, at_ := 16 * (s.tick + 38) + c.fine.toNat,
      kind := k }

/-- A tone command on its resolved tone. -/
def State.dispatchTone (s : State) (q : Thr) (c : TimedCmd) (tgt : BitVec 8)
    (k : Nat → Nat → Nat → ActKind) : State :=
  match s.resolve q tgt with
  | .tone t ch n => s.dispatchAct q c (k t ch n) (s.tick + 38)
  | .flux .. => s

/-- A directory entry that SECDED cannot correct is a fault at the dispatch read (12 R339, locus
0x04). -/
def State.withEntry (s : State) (q : Thr) (pat : Nat) (k : State → State) : State :=
  if s.poisoned 0x04 0 (2 * pat) || s.poisoned 0x04 0 (2 * pat + 1) then s.poisonFault 0x04 q pat
  else k s

/-- The dispatch of one command to its unit (R64, R78). -/
def State.dispatch (s : State) (q : Thr) (c : TimedCmd) : State :=
  match c.kind with
  | .play tgt pat sc => s.withEntry q pat (fun s =>
      let g := s.resolve q tgt
      s.dispatchPlay q c g (s.bodyOf g pat sc))
  | .jseg tgt pat sc => s.withEntry q pat (fun s =>
      let g := s.resolve q tgt
      s.dispatchJseg q c g pat (s.bodyOf g pat sc))
  | .stage tgt pat => s.withEntry q pat (fun s =>
      let g := s.resolve q tgt
      s.dispatchStage q c g pat (s.bodyOf g pat none))
  | .setf tgt v => s.dispatchTone q c tgt (fun t ch k => .setf t ch k v)
  | .setp tgt v => s.dispatchTone q c tgt (fun t ch k => .setp t ch k v)
  | .vz tgt v => s.dispatchTone q c tgt (fun t ch k => .vz t ch k v)
  | .flux k v => ((s.effectUntil q c.shot (s.tick + 38)).noteFlux (.flux q.tile k) c.shot).addAct
      { thr := q, shot := c.shot, stamp := c.stamp, kind := .flux q.tile k v,
        at_ := (Tgt.flux q.tile k).instant (16 * (s.tick + 38) + c.fine.toNat) }
  | .acq mask len => (s.effectUntil q c.shot (s.tick + 38)).acquire q c.shot c.stamp c.fine.toNat
      mask len
  | .mark act m w => s.dispatchAct q c (.mark act m w)
      (if act = 0 then s.tick + 38 + max 1 w else s.tick + 38)
  | .emit ev => s.dispatchAct q c (.emit ev) (s.tick + 38)

/-- The front command leaves the queue in this tick: at most four do; a thread in Full issues again
in the next tick; a `wq` that waited for it is decided (R65, R67, 03 on `wq`). -/
def Thread.dequeued (t : Thread) (rest : List TimedCmd) (tick : Nat) (ft : Word) : Thread :=
  let t := { t with queue := rest, lastDispatch := ft, dispTick := tick,
                    dispCount := if t.dispTick = tick then t.dispCount + 1 else 1 }
  let t := if t.st = .full then { t with st := .running, readyAt := tick + 1 } else t
  if rest.isEmpty && t.waitingOn == some .queue then t.decideWait tick 0 ft else t

/-- Whether the thread's front command is at the head and may be examined in this tick (R65). -/
def State.headReady (s : State) (q : Thr) (c : TimedCmd) : Bool :=
  let t := s.thread q
  decide (c.issued < s.tick) && !(t.dispTick == s.tick && decide (4 ≤ t.dispCount))

/-- TIMED_COMMAND_DISPATCH (R64-R66): at its dispatch tick the front command is dispatched; one
that reaches the head after its dispatch tick is late, which is a fault. -/
def execTimedDispatch (q : Thr) (s : State) : Host.Outcome State Fault Refusal :=
  let t := s.thread q
  match t.queue with
  | [] => .next s
  | c :: rest =>
      if !s.headReady q c || !timeDue (c.stamp - 38) s.ft then .next s
      else if c.stamp - 38 = s.ft then
        .next ((s.setThread q (t.dequeued rest s.tick s.ft)).dispatch q c)
      else
        .next (((s.setThread q { t with queue := [] }).bump (thrCounts_LATE q.tile q.idx)).threadFault
          5 0 q 0)

end Sys2Proof.Machine
end

