-- ==== Sys2Proof/Machine/Acts.lean ====
section
/-! DEFINITION. What a dispatched command does at its instant, the end of patterns and marker
pulses, and the bobbins (04 R115-R139). -/

namespace Sys2Proof.Machine

open Fld

/-! Bobbins (R131-R139). -/

/-- A bobbin's data. -/
def State.bob (s : State) (t b : Nat) : BobRun := Tab.get s.bobs (t, b) {}

def State.setBob (s : State) (t b : Nat) (x : BobRun) : State :=
  { s with bobs := Tab.set s.bobs (t, b) x }

/-- N, the samples a ring holds (R131). -/
def State.bobN (s : State) (t b : Nat) : Nat := s.rd (bobCfg_SIZE t b) * 16384

/-- Bobbin states (R137). -/
def bobOff : Nat := 0
def bobFilling : Nat := 1
def bobPlaying : Nat := 2
def bobStarved : Nat := 3
def bobOverrun : Nat := 4

/-- The envelope of a play ramps to zero over 16 ns from an instant, whether it sounds yet or not; the play runs
on (R135). -/
def State.rampPlay (s : State) (g : Tgt) (start from_ : Nat) : State :=
  let f := Tab.get s.envRead (g, start) {}
  { s with
    envRead := Tab.set s.envRead (g, start) { f with ramp := some (f.ramp.getD from_) },
    plays := s.plays.map (fun p =>
      if p.tgt = g ∧ p.start = start ∧ p.ramp.isNone then { p with ramp := some from_ } else p) }

/-- An overrun: the tone ramps from the sample that would be read, the bobbin enters Overrun, and a fault of the
play's thread (R136). -/
def State.bobOverrun (s : State) (t b : Nat) (r : BobReader) : State :=
  let s := (s.wr (bobStatus_STATE t b) Machine.bobOverrun).bump (bobStatus_OVERRUNS t b)
  let s := s.setBob t b { s.bob t b with reader := none }
  (s.rampPlay r.tgt r.start (r.start + 16 * r.n)).threadFault 6 0 r.thr b

/-- Whether the armed loop body has been overwritten: WP − LOOP_MARK > N with loops left (R136;
DEDUCED, log entry 13). -/
def State.loopLost (s : State) (t b : Nat) : Bool :=
  decide (0 < s.rd (bobLoop_LOOPS_LEFT t b)) &&
    decide ((s.bob t b).mark + s.bobN t b < s.rd (bobWp_VALUE t b))

/-- Pending loop values are captured at the start of a play (R134). -/
def State.captureLoop (s : State) (t b : Nat) : State :=
  let x := s.bob t b
  if !x.loopPending then s
  else
    let mark := s.rd (bobLoopMark_VALUE t b)
    let end_ := s.rd (bobLoopEnd_VALUE t b)
    let s := s.setBob t b { x with mark := mark, end_ := end_, loopPending := false }
    if end_ ≤ mark then
      (s.wr (bobLoop_LOOPS_LEFT t b) 0).put (bobStatus_CFG_REFUSED t b) true
    else s.wr (bobLoop_LOOPS_LEFT t b) (s.rd (bobLoop_LOOP_COUNT t b))

/-- A play of a bobbin starts to read, 18 ticks before its first sample (R107, R132, R134, R136); one that
has been put off since the dispatch reads nothing. -/
def State.bobStart (s : State) (b : Nat) (r : BobReader) : State :=
  let t := r.tgt.tile
  let was := s.rd (bobStatus_STATE t b)
  if was = bobOff then s
  else
    let captures := (s.bob t b).loopPending
    let s := s.captureLoop t b
    let x := s.bob t b
    let s := s.setBob t b { x with reader := some r }
    if was = Machine.bobOverrun then s.bobOverrun t b r
    else if (captures ∧ s.bobN t b < x.end_ - x.mark) ∨ s.loopLost t b then s.bobOverrun t b r
    else s.wr (bobStatus_STATE t b) bobPlaying

/-- Whether a play of a bobbin is in progress, or has begun to read (R132, R137). -/
def State.bobBusy (s : State) (t b : Nat) : Bool :=
  (s.bob t b).reader.isSome || s.plays.any (fun p => p.tgt.tile == t && p.body.bob == some b)
    || s.standing.any (fun x => x.2.1.tile == t && x.2.2.any (fun y => y.bob == some b)
        && decide (x.1.at_ / 16 ≤ s.tick + 18))

/-- A play of a bobbin has ended or been cut: Filling, unless another is in progress (R137). -/
def State.bobStop (s : State) (t b : Nat) : State :=
  if !s.bobBusy t b
      && (s.rd (bobStatus_STATE t b) = bobPlaying || s.rd (bobStatus_STATE t b) = bobStarved) then
    s.wr (bobStatus_STATE t b) bobFilling
  else s

/-- An underrun (R135): the envelope ramps, Starved, counted, the event, and the starved flag of
every shot open on the tile. -/
def State.bobUnderrun (s : State) (t b : Nat) (r : BobReader) : State :=
  let s := (s.wr (bobStatus_STATE t b) bobStarved).bump (bobStatus_UNDERRUNS t b)
  let s := s.pulse (304 + 4 * t + b)
  let s := s.each (s.openOn t) (fun s id => s.modShot id (fun x =>
    if x.starved.contains t then x else { x with starved := t :: x.starved }))
  s.rampPlay r.tgt r.start (r.start + 16 * r.n)

/-- The byte of envelope memory at which a stream position of a bobbin lies (R113, R132). -/
def State.bobAddr (s : State) (t b pos : Nat) : Nat :=
  0x300000 + s.rd (bobCfg_BASE t b) * 65536 + 4 * (pos % max 1 (s.bobN t b))

/-- One read of a bobbin at its read tick: RP advances; past WP it underruns once (R132, R135). A
poisoned word is a fault at the read (12 R339, locus 0x03). -/
def State.bobRead (s : State) (t b : Nat) (r : BobReader) : State :=
  let rp := s.rd (bobRp_VALUE t b)
  let short := decide (s.rd (bobWp_VALUE t b) ≤ rp)
  let word := s.bobAddr t b rp / 8
  let bad := !short && s.poisoned 0x03 t word
  let s := if short && !r.dry then s.bobUnderrun t b r else s
  let s := s.setReg ⟨.bobRp, t, b, 0⟩ (BitVec.ofNat 64 (rp + 1))
  let f := Tab.get s.envRead (r.tgt, r.start) {}
  let w := if short ∨ r.dry then f.recent.headD 0
    else BitVec.ofNat 32 (Mem.load s.mem (Space.env.base t + s.bobAddr t b rp) 4)
  let s := { s with envRead := Tab.set s.envRead (r.tgt, r.start) (f.push w) }
  let r' := { r with n := r.n + 1, dry := r.dry || short }
  let s := (s.setBob t b { s.bob t b with reader := if r'.n < r.len then some r' else none }).bobReady t b
  if bad then s.poisonFault 0x03 r.thr word else s

/-- BOBBIN_LOOP_JUMP (R134, R136): at the captured LOOP_END with loops left, RP becomes LOOP_MARK;
a jump onto overwritten samples overruns. -/
def execBobbinLoopJump (t : BitVec 4) (b : BitVec 2) (s : State) : Host.Outcome State Fault Refusal :=
  let t := t.toNat
  let b := b.toNat
  let x := s.bob t b
  if s.rd (bobRp_VALUE t b) = x.end_ ∧ 0 < s.rd (bobLoop_LOOPS_LEFT t b) then
    let lost := s.loopLost t b
    let s := s.setReg ⟨.bobRp, t, b, 0⟩ (BitVec.ofNat 64 x.mark)
    let s := s.wr (bobLoop_LOOPS_LEFT t b) (s.rd (bobLoop_LOOPS_LEFT t b) - 1)
    match x.reader with
    | some r => .next (if lost then s.bobOverrun t b r else s.bobReady t b)
    | none => .next (s.bobReady t b)
  else .next s

/-- F, the floor of the refill engine (R133). -/
def State.bobFloor (s : State) (t b : Nat) : Nat :=
  let rp := s.rd (bobRp_VALUE t b)
  let m := if 0 < s.rd (bobLoop_LOOPS_LEFT t b) then min rp (s.bob t b).mark else rp
  (s.shots.flatMap Shot.bobs).foldl (fun m u => if u.tile = t ∧ u.b = b then min m u.rp else m) m

/-- CHUNK and THRESH as they act, in samples (R133: 0 acts as 1, and as CHUNK). -/
def State.bobChunk (s : State) (t b : Nat) : Nat := max 1 (s.rd (bobCfg_CHUNK t b)) * 1024
def State.bobThresh (s : State) (t b : Nat) : Nat :=
  let n := s.rd (bobCfg_THRESH t b)
  if n = 0 then s.bobChunk t b else n * 1024

/-- Whether the refill engine would issue a request (R133). -/
def State.bobWants (s : State) (t b : Nat) : Bool :=
  let w := (s.bob t b).requested
  s.on (bobCfg_ENABLE t b) && decide (s.bobThresh t b + w ≤ s.bobN t b + s.bobFloor t b)

/-- The extent of a feed that maps a stream position (11 R324). -/
def State.extentAt (s : State) (t b pos : Nat) : Option Extent :=
  match s.extents.find? (fun e => e.1 == (t, b) && decide (e.2.start ≤ pos)
      && decide (pos < e.2.start + e.2.count)) with
  | some e => some e.2
  | none => none

/-- BOBBIN_REFILL_REQUEST (R133; 11 R337): the next chunk is requested over the queue pair of the
FEED's ring, never beyond F + N; with no extent left FEED_DRY sets. -/
def execBobbinRefillRequest (t : BitVec 4) (b : BitVec 2) (s : State) :
    Host.Outcome State Fault Refusal :=
  let t := t.toNat
  let b := b.toNat
  let w := (s.bob t b).requested
  if !s.bobWants t b then .next s
  else
    match s.extentAt t b w with
    | none => .next (s.put (bobStatus_FEED_DRY t b) true)
    | some e =>
        let q := s.rd (cmdCfg_QP e.ref.ring)
        let n := min (min (s.bobChunk t b) (e.start + e.count - w)) (s.bobFloor t b + s.bobN t b - w)
        if n = 0 ∨ !s.canRead q then .next s
        else
          let s := s.setBob t b { s.bob t b with requested := w + n, since := none }
          .next (s.rdmaRead q e.rkey (e.hostAddr + BitVec.ofNat 64 (4 * (w - e.start))) (4 * n) (.refill t b w n))

/-- The bobbins whose refill engine would issue a request. -/
def State.bobsWanting (s : State) : List (Nat × Nat) :=
  (s.regs.filterMap (fun p => if p.1.name = .bobCfg then some (p.1.i, p.1.j) else none)).filter
    (fun p => s.bobWants p.1 p.2)

/-- Since when each of them waits (11 R338). -/
def State.ageRefills (s : State) : State :=
  s.each s.bobsWanting (fun s p =>
    let x := s.bob p.1 p.2
    if x.since.isSome then s else s.setBob p.1 p.2 { x with since := some s.tick })

/-- A bobbin put among others that wait, the oldest request first. -/
def State.byAge (s : State) (p : Nat × Nat) : List (Nat × Nat) → List (Nat × Nat)
  | [] => [p]
  | x :: rest =>
      if (s.bob p.1 p.2).since.getD s.tick < (s.bob x.1 x.2).since.getD s.tick then p :: x :: rest
      else x :: s.byAge p rest

/-- The refill requests due, oldest first (11 R338). -/
def State.refillOrder (s : State) : List (Nat × Nat) := s.bobsWanting.foldl (fun l p => s.byAge p l) []

/-- Write response samples in stream order: data below RP is discarded and counted (R133). -/
def State.bobData (s : State) (t b : Nat) : List (BitVec 32) → State
  | [] => s
  | d :: rest =>
      let wp := s.rd (bobWp_VALUE t b)
      let s :=
        if wp < s.rd (bobRp_VALUE t b) then s.bump (bobStatus_SKIPPED t b)
        else
          let a := s.bobAddr t b wp
          { s with mem := Mem.store s.mem (Space.env.base t + a) 4 d.toNat,
                   poison := s.poison.filter (fun p => decide (p ≠ (3, t, a / 8))) }
      (s.setReg ⟨.bobWp, t, b, 0⟩ (BitVec.ofNat 64 (wp + 1))).bobData t b rest

/-- Feed extents whose positions have all been written complete (11 R324). -/
def State.closeExtents (s : State) (t b : Nat) : State :=
  let wp := s.rd (bobWp_VALUE t b)
  let done := s.extents.filter (fun e => e.1 == (t, b) && decide (e.2.start + e.2.count ≤ wp))
  let s := { s with extents := s.extents.filter (fun e =>
    !(e.1 == (t, b) && decide (e.2.start + e.2.count ≤ wp))) }
  s.each done (fun s e =>
    s.complete e.2.ref cplOk 0 0 (BitVec.ofNat 64 (e.2.start + e.2.count)) 0)

/-- Whether the oldest outstanding refill of a bobbin goes over a queue pair in Error, which takes no response
(R139; 11 R304). -/
def State.refillDead (s : State) (t b : Nat) : Bool :=
  match s.outReqs.find? (fun r => match r.kind with
    | .refill t' b' _ _ => t' == t && b' == b
    | _ => false) with
  | some r => s.rd (qpCtrl_STATE r.q) == qpErrorState
  | none => true

/-- Response data of the oldest outstanding refill is written (R133). -/
def State.takeRefill (s : State) (t b : Nat) (data : List (BitVec 32)) : State :=
  if s.refillDead t b then s
  else
    let wp := s.rd (bobWp_VALUE t b)
    let data := data.take ((s.bob t b).requested - wp)
    let s := (s.bobData t b data).closeExtents t b
    let done := s.rd (bobWp_VALUE t b)
    { s with outReqs := s.outReqs.filter (fun r => match r.kind with
        | .refill t' b' st n => !(t' == t && b' == b && decide (st + n ≤ done))
        | _ => true) }.bobReady t b

/-- BOBBIN_REFILL_DATA (R133): response data arrives. -/
def execBobbinRefillData (t : BitVec 4) (b : BitVec 2) (data : List (BitVec 32)) (s : State) :
    Host.Outcome State Fault Refusal := .next (s.takeRefill t.toNat b.toNat data)

/-! Ends of patterns (R119, R128, R137). -/

/-- Patterns on tones whose samples have ended shape the output for 3 ns more (R108). -/
def State.addSkirts (s : State) (l : List Playing) : State :=
  { s with skirts := s.skirts ++ l.filter (fun p => !p.tgt.isFlux) }

/-- The pattern on a target is cut at an instant, without a ramp (R119); one that has played no sample by
then plays nothing (R120). -/
def State.cutTarget (s : State) (g : Tgt) (instant : Nat) : State :=
  let cut := s.plays.filter (fun p => p.tgt == g)
  let s := { s with plays := s.plays.filter (fun p => p.tgt != g) }
  let s := s.addSkirts ((cut.filter (fun p => decide (p.start < instant))).map (fun p =>
    { p with last := min p.last (p.lastBefore instant) }))
  s.each cut (fun s p =>
    let s := if instant ≤ p.start then s.unmark g p.start
      else if instant ≤ p.last then s.endSpan p (p.lastBefore instant) else s
    match p.body.bob with
    | some b =>
        let mine := (s.bob g.tile b).reader.any (fun r => r.tgt == g && r.start == p.start)
        (if mine then s.setBob g.tile b { s.bob g.tile b with reader := none } else s).bobStop g.tile b
    | none => s)

/-- The envelope sample n of a pattern, from memory (R113). -/
def State.envWord (s : State) (g : Tgt) (b : PlayBody) (n : Nat) : BitVec 32 :=
  if g.isFlux then BitVec.ofNat 32 (Mem.load s.mem (Space.env.base g.tile + b.base * 8 + 2 * n) 2)
  else BitVec.ofNat 32 (Mem.load s.mem (Space.env.base g.tile + b.base * 8 + 4 * n) 4)

/-- The envelope sample n of a play as it was read at its read tick (R107, R114); from memory where it has
not been read, but for a bobbin, which holds the last sample read (R135). -/
def State.envSample (s : State) (g : Tgt) (start : Nat) (b : PlayBody) (n : Nat) : BitVec 32 :=
  let f := Tab.get s.envRead (g, start) {}
  (f.at n).getD (if b.bob.isSome then f.recent.headD 0 else s.envWord g b n)

/-- The samples of a play up to number m are read. -/
def State.fetchTo (s : State) (g : Tgt) (start : Nat) (b : PlayBody) (m : Nat) : State :=
  let f := Tab.get s.envRead (g, start) {}
  if m ≤ f.n then s
  else
    let f := (List.range (m - f.n)).foldl (fun f _ => f.push (s.envWord g b f.n)) f
    { s with envRead := Tab.set s.envRead (g, start) f }

/-- The samples of a pattern that is no bobbin's which have been read by the end of a tick (R107). -/
def PlayBody.readBy (b : PlayBody) (g : Tgt) (start tick : Nat) : Nat :=
  if b.bob.isSome ∨ tick + 18 < start / 16 then 0
  else min b.len (if g.isFlux then 2 * (tick + 18 - start / 16) + 2 else tick + 18 - start / 16 + 1)

/-- The envelope reads of a tick (R107, R114): before the writes that land in it. -/
def State.fetchTick (s : State) : State :=
  let going := s.plays.map (fun p => (p.tgt, p.start, p.body))
    ++ s.standing.filterMap (fun x => x.2.2.map (fun b => (x.2.1, x.1.at_, b)))
  let keys := going.map (fun x => (x.1, x.2.1)) ++ s.skirts.map (fun p => (p.tgt, p.start))
  let s := { s with envRead := s.envRead.filter (fun e => keys.contains e.1) }
  s.each going (fun s x => s.fetchTo x.1 x.2.1 x.2.2 (x.2.2.readBy x.1 x.2.1 s.tick))

/-- A flux channel's level changes at a command of a shot, or of none: the shot keeps what stood before its
first change, the other shots that a command from outside has changed it (R118; 08 R258). The channel is
from now on the thread's (12 R343). -/
def State.changeLevel (s : State) (q : Thr) (shot : Option Nat) (t k : Nat) (v : BitVec 16) : State :=
  let old := BitVec.ofNat 16 (s.rd (fluxLvl_LVL t k))
  let r := s.fluxRun t k
  let s := s.setFluxRun t k { r with owner := some (q, (s.thread q).startedFt) }
  let s := { s with shots := s.shots.map (fun (x : Shot) =>
    if shot = some x.id then
      if x.fluxes.any (fun u => u.tile == t && u.k == k) then x
      else { x with fluxes := { tile := t, k := k, before := old, owner := r.owner } :: x.fluxes }
    else x.seesLevel t k v) }
  s.wr (fluxLvl_LVL t k) v.toNat

/-- E·S in Q1.15, to nearest, ties away from zero; 1.0, which the format does not hold, is unstated (08 R252;
DESIGN CHOICE and DEDUCED, log entries 8 and 36). -/
def holdLevel (e sc : Int) : BitVec 16 :=
  let r := roundDiv (e * sc) (2 ^ 15)
  if r = 32768 then BitVec.ofNat 16 (Config.unstated 5 [e, sc]) else BitVec.ofInt 16 r

/-- A flux pattern with FLUX_HOLD that plays to its end sets LVL to its last sample times its scale,
rounded to Q1.15 (08 R252). -/
def State.fluxHold (s : State) (p : Playing) : State :=
  match p.tgt with
  | .flux t k =>
      if p.body.fluxHold ∧ p.ramp = none then
        s.changeLevel p.thr p.shot t k
          (holdLevel (signedOf 16 (s.envSample p.tgt p.start p.body (p.body.len - 1)).toNat)
            (signedOf 16 p.body.scale.toNat))
      else s
  | .tone .. => s

/-! Acts at their instant. -/

/-- A pattern starts on its target: it cuts what plays there and any other play of its bobbin, cancels later
joins, counts a marker it may not drive, and an EXT marker ends the shot's replayability (R119, R123, R127,
R130, R132). A bobbin that is Off by now plays nothing (R112, R137). -/
def State.startPlay (s : State) (a : Act) (g : Tgt) (b : Option PlayBody) : State :=
  let was (k : Nat) : Nat := s.rd (bobStatus_STATE g.tile k)
  let off := b.any (fun body => body.bob.any (fun k => was k == bobOff))
  let s := s.cutTarget g a.at_
  let later (x : Act) : Bool := match x.kind with
    | .join g' _ => g' == g && decide (a.at_ < x.at_)
    | _ => false
  let gone := s.acts.filter later
  let s := s.each gone (fun s x => s.unmark g x.at_)
  let s := { s with acts := s.acts.filter (fun x => !later x) }
  match b with
  | none => s
  | some body =>
      if off then s.unmark g a.at_
      else
        let s := s.each (s.plays.filter (fun p => body.bob.isSome && p.body.bob == body.bob && p.tgt.tile == g.tile))
          (fun s p => s.cutTarget p.tgt a.at_)
        let s := { s with plays := s.plays ++
          [{ tgt := g, body := body, thr := a.thr, shot := a.shot, start := a.at_,
             last := body.lastFrom g a.at_, ramp := (Tab.get s.envRead (g, a.at_) {}).ramp }] }
        -- a play whose reads have begun goes on when the one before it is cut
        let s := match body.bob with
          | some k => if was k = bobPlaying ∨ was k = bobStarved then s.wr (bobStatus_STATE g.tile k) (was k) else s
          | none => s
        if !body.mkEn then s
        else if !s.holdsMarker g.tile body.marker then s.bump (synCounts_MK_IGN g.tile)
        else if s.on (synMark_EXT g.tile body.marker) then s.notReplayable a.shot
        else s

/-- The first 24 samples of an entry (R121). -/
def State.firstSamples (s : State) (t : Nat) (g : Tgt) (base len : Nat) : List (BitVec 32) :=
  (List.range (min 24 len)).map (fun n =>
    if g.isFlux then BitVec.ofNat 32 (Mem.load s.mem (Space.env.base t + base * 8 + 2 * n) 2)
    else BitVec.ofNat 32 (Mem.load s.mem (Space.env.base t + base * 8 + 4 * n) 4))

/-- A change of LEVEL among those on their way: those of one tick in thread order (R129). -/
def MarkEdge.insert (e : MarkEdge) : List MarkEdge → List MarkEdge
  | [] => [e]
  | x :: rest =>
      if e.at_ / 16 < x.at_ / 16 ∨ (e.at_ / 16 = x.at_ / 16 ∧ e.thr.lt x.thr) then e :: x :: rest
      else x :: e.insert rest

/-- `mark` at its stamp (R127-R130): a pulse, or a change of LEVEL, DELAY later. -/
def State.actMark (s : State) (a : Act) (act : BitVec 2) (m w : Nat) : State :=
  let t := a.thr.tile
  if !s.holdsMarker t m then s.bump (synCounts_MK_IGN t)
  else
    let s := if s.on (synMark_EXT t m) then s.notReplayable a.shot else s
    let at_ := a.at_ + s.rd (synMark_DELAY t m)
    if act = 0 then { s with pulses := s.pulses ++ [{ tile := t, marker := m, from_ := at_,
                                                              until_ := at_ + 16 * max 1 w, span := none }] }
    else { s with marker.edges := MarkEdge.insert { marker := m, on := act == 1, at_ := at_, thr := a.thr } s.marker.edges }

/-- What a dispatched command does at its instant. -/
def State.act (s : State) (a : Act) : State :=
  match a.kind with
  | .play g b => s.startPlay a g b
  | .join g b => s.startPlay a g b
  | .stageFill g pat w0 w1 =>
      { s with staged := { tgt := g, pat := pat, w0 := w0, w1 := w1, filled := s.tick,
                           samples := s.firstSamples g.tile g (bitsOf w0 32 19) (bitsOf w1 0 32) }
                         :: s.staged.filter (fun x => x.tgt != g) }
  | .setf t c k v =>
      let old := BitVec.ofNat 48 (s.rd (toneFreq_FREQ t c k))
      let s := { s with shots := s.shots.map (fun (x : Shot) =>
        if a.shot = some x.id then
          let u := x.toneUndo t c k
          x.setToneUndo { u with freq := some (u.freq.getD old) }
        else x.seesFreq t c k v) }
      s.wr (toneFreq_FREQ t c k) v.toNat
  | .setp t c k v =>
      let old := BitVec.ofNat 32 (s.rd (tonePhase_OFFSET t c k))
      let s := { s with shots := s.shots.map (fun (x : Shot) =>
        if a.shot = some x.id then
          let u := x.toneUndo t c k
          x.setToneUndo { u with offset := some (u.offset.getD old) }
        else x.seesOffset t c k v) }
      s.wr (tonePhase_OFFSET t c k) v.toNat
  | .vz t c k v =>
      let s := { s with shots := s.shots.map (fun (x : Shot) =>
        if a.shot = some x.id then
          let u := x.toneUndo t c k
          x.setToneUndo { u with vz := u.vz + v }
        else x) }
      s.wr (toneVz_VZ t c k) (BitVec.ofNat 48 (s.rd (toneVz_VZ t c k)) + v).toNat
  | .flux t k v => s.changeLevel a.thr a.shot t k v
  | .mark act m w => s.actMark a act m w
  | .emit ev => s.pulse (144 + 4 * a.thr.tile + ev)

/-- The acts of a kind up to an instant, in order. -/
def State.actsThrough (s : State) (kind : Act → Bool) (instant : Nat) : List Act :=
  Act.sort (s.acts.filter (fun a => kind a && decide (a.at_ ≤ instant)))

/-- The bobbin reads of this tick, and the start of those 18 ticks ahead of a play (R107). -/
def State.bobTick (s : State) : State :=
  let starts := (Act.sort (s.standing.map Prod.fst)).filterMap (fun a =>
    if a.at_ / 16 = s.tick + 18 then a.pattern.map (fun x => (a, x)) else none)
  let s := s.each starts (fun s x =>
    let g := x.2.1
    let s := { s with bobs := s.bobs.map (fun e =>
      if (e.2.reader.map BobReader.tgt) = some g then (e.1, { e.2 with reader := none }) else e) }
    match x.2.2 with
    | none => s
    | some body => match body.bob with
      | none => s
      | some b => s.bobStart b { tgt := g, start := x.1.at_, len := body.len, n := 0,
                                 thr := x.1.thr, shot := x.1.shot, dry := false })
  s.each s.bobs (fun s e => match (s.bob e.1.1 e.1.2).reader with
    | some r => s.bobRead e.1.1 e.1.2 r
    | none => s)

/-- Every act of a kind up to an instant happens. -/
def State.runActs (s : State) (kind : Act → Bool) (instant : Nat) : State :=
  s.each (s.actsThrough kind instant) (fun s a =>
    if s.acts.contains a then { s with acts := s.acts.erase a }.act a else s)

/-- PATTERN_END (R119, R137): the last sample of the pattern on a target has been played; the
envelope returns to zero, and a flux pattern may hold. -/
def execPatternEnd (tgt : Tgt) (s : State) : Host.Outcome State Fault Refusal :=
  match s.plays.find? (fun p => p.tgt == tgt && decide (p.last < 16 * s.tick)) with
  | none => .next s
  | some p =>
      let s := { s with plays := s.plays.erase p }.addSkirts [p]
      let s := s.fluxHold p
      match p.body.bob with
      | some b => .next (s.bobStop tgt.tile b)
      | none => .next s

/-! The marker pins (R127-R129). -/

/-- MARKER_PULSE_END (R128, R129): a pulse or span has ended; the pin falls unless LEVEL or another
pulse holds it. -/
def execMarkerPulseEnd (tile m : Nat) (s : State) : Host.Outcome State Fault Refusal :=
  match s.pulses.find? (fun p => p.tile == tile && p.marker == m && decide (p.until_ ≤ 16 * s.tick)) with
  | none => .next s
  | some p => .next { s with pulses := s.pulses.erase p }

/-- LEVEL of a marker at an instant of the present tick (R129). -/
def State.levelAt (s : State) (m instant : Nat) : Bool :=
  (s.marker.edges.filter (fun e => e.marker == m && decide (e.at_ ≤ instant))).foldl (fun _ e => e.on)
    (s.marker.level.getLsbD m)

/-- A marker pin at an instant of the present tick: POL xor (LEVEL or any pulse or span of the tile that
claims it) (R127, R129); an unclaimed marker drives low. What a seam channel drives is the matrix's (10 R298). -/
def State.markerPin (s : State) (m instant : Nat) : Bool :=
  match s.rd (claimMk_HOLDER m) with
  | 0 | 17 => false
  | h => s.on (synMark_POL (h - 1) m) ^^ (s.levelAt m instant ||
      s.pulses.any (fun x => x.tile == h - 1 && x.marker == m && decide (x.from_ ≤ instant)
        && decide (instant < x.until_)))

/-- A pattern start drives an EXT marker from the tick in which its pulse begins, also before sample 0
(R128, R130). -/
def State.markerStarts (s : State) : State :=
  s.each (s.pulses.filter (fun x => x.ext && decide (x.from_ / 16 = s.tick) && s.holdsMarker x.tile x.marker))
    (fun s x => s.notReplayable x.shot)

/-- The markers whose pin may be high: those claimed, and those that were high. -/
def State.markersInUse (s : State) : List Nat :=
  (s.regs.filterMap (fun p => if p.1.name = .claimMk then some p.1.i else none)
    ++ (if s.marker.pins = 0 then [] else (List.range 32).filter s.marker.pins.getLsbD)).eraseDups

/-- One pin at one instant: an edge is what the wiring sees (R128). -/
def State.pinStep (s : State) (m instant : Nat) : State :=
  let v := s.markerPin m instant
  if v = s.marker.pins.getLsbD m then s
  else { s with marker.pins := s.marker.pins ^^^ ((1 : BitVec 32) <<< m) }.send (.marker m v (instant / 16) (instant % 16))

/-- The marker pins over the present tick; what has changed LEVEL in it stands from now on. -/
def State.markerTick (s : State) : State :=
  let s := s.each s.markersInUse (fun s m => s.each (List.range 16) (fun s i => s.pinStep m (16 * s.tick + i)))
  let through := s.marker.edges.filter (fun e => decide (e.at_ < 16 * (s.tick + 1)))
  { s with
    marker.level := through.foldl (fun (l : BitVec 32) e =>
      if e.on then l ||| ((1 : BitVec 32) <<< e.marker) else l &&& ~~~((1 : BitVec 32) <<< e.marker)) s.marker.level,
    marker.edges := s.marker.edges.filter (fun e => decide (16 * (s.tick + 1) ≤ e.at_)) }

end Sys2Proof.Machine
end

