-- ==== Sys2Proof/Machine/Results.lean ====
section
/-! DEFINITION. Result records, the holding areas and the result queues (05 R164-R166;
11 R332-R336). -/

namespace Sys2Proof.Machine

open Fld

/-! Record headers (05 R164). -/

/-- The header of a record as it is formed; REPLAYS, CLIP, STARVED and CORR are set at commit. -/
def recordHeader (kind tile thread group shotNo chflags : Nat) (frame : Bool) : Word :=
  BitVec.ofNat 64 (kind % 16 + (tile % 16) * 2 ^ 4 + (if frame then 2 ^ 15 else 0)
    + (thread % 8) * 2 ^ 16 + (group % 8) * 2 ^ 19 + (shotNo % 2 ^ 16) * 2 ^ 24
    + (chflags % 2 ^ 24) * 2 ^ 40)

/-- The header with what its shot has met by now. -/
def Shot.stampHeader (x : Shot) (tile : Nat) (w : Word) : Word :=
  let w := withBits w 9 3 x.replays
  let w := withBits w 12 1 (if x.clip.contains tile then 1 else 0)
  let w := withBits w 13 1 (if x.starved.contains tile then 1 else 0)
  withBits w 14 1 (if x.corr.contains tile then 1 else 0)

/-- The words of a record with its header stamped. -/
def Shot.stampRecord (x : Shot) (tile : Nat) : List Word → List Word
  | [] => []
  | h :: rest => x.stampHeader tile h :: rest

/-! Result queues (R333, R334). -/

def State.rq (s : State) (t : Nat) : Rq := Tab.get s.rqs t {}
def State.setRq (s : State) (t : Nat) (q : Rq) : State := { s with rqs := Tab.set s.rqs t q }

/-- Words in a result queue (R333). -/
def Rq.count (q : Rq) : Nat := (q.wp - q.rp).toNat

/-- Whether a result queue has room for one more record beside those entering it. -/
def Rq.room (q : Rq) : Bool := decide (q.count + q.entering.length + 4 ≤ 4096)

/-- The words of a record as they enter, header first. -/
def recordWords (ws : List Word) (bad : Bool) : List RqWord :=
  match ws with
  | [] => []
  | h :: rest => { w := h, head := true, parityOk := !bad } :: rest.map (fun w => { w := w, head := false })

/-- A record begins to enter the result queue of a tile. -/
def State.enterRq (s : State) (t : Nat) (ws : List Word) (bad : Bool := false) : State :=
  let q := s.rq t
  s.setRq t { q with entering := q.entering ++ recordWords ws bad }

/-- One word enters the queue in each tick (R334). -/
def Rq.tick (q : Rq) (now : Nat) : Rq :=
  match q.entering with
  | [] => q
  | w :: rest =>
      { q with entering := rest, words := q.words ++ [{ w with at_ := now }], wp := q.wp + 1,
               pos := if w.head then 1 else q.pos + 1, posAt := now }

/-- The result queues of every tile advance by a tick. -/
def State.rqTick (s : State) : State :=
  { s with rqs := s.rqs.map (fun e => (e.1, e.2.tick s.tick)) }

/-! The holding areas (R332). -/

/-- Records a tile's holding area holds. -/
def State.heldRecords (s : State) (t : Nat) : Nat := (s.holding.filter (fun r => r.tile == t)).length

/-- A record that finds the holding area and the queue full is dropped, and its launch counts it. -/
def State.dropRecord (s : State) (t : Nat) (q : Thr) : State :=
  (s.bump (rqCounts_HOLD_LOST t)).modThread q (fun x => { x with recordsLost := x.recordsLost + 1 })

/-- A record is formed: in a shot scope it enters the holding area, or spills into the result queue
and ends the shot's replayability, or is dropped; outside, it goes behind the committed records that
wait (R158, R332, 12 R344). -/
def State.formRecord (s : State) (t : Nat) (q : Thr) (shot : Option Nat) (ws : List Word) : State :=
  let full := decide (2048 ≤ s.heldRecords t)
  match shot with
  | some id =>
      if !full then
        { s with holding := s.holding ++
            [{ tile := t, thr := q, shot := shot, committed := false, words := ws }] }
      else if (s.rq t).room then
        let ws := match s.shotById id with | some x => x.stampRecord t ws | none => ws
        ((s.bump (rqCounts_SPILLS t)).notReplayable shot).enterRq t ws
      else s.dropRecord t q
  | none =>
      let waiting := s.holding.any (fun r => r.tile == t && r.committed)
      if !waiting && (s.rq t).room then s.enterRq t ws
      else if !full then
        { s with holding := s.holding ++
            [{ tile := t, thr := q, shot := none, committed := true, words := ws }] }
      else s.dropRecord t q

/-- HOLDING_AREA_MOVE (R332, R334): the first committed record of the tile moves into the result
queue, when there is room, behind those whose words are still entering. -/
def execHoldingAreaMove (t : BitVec 4) (s : State) : Host.Outcome State Fault Refusal :=
  let t := t.toNat
  match s.holding.find? (fun r => r.tile == t && r.committed) with
  | none => .next s
  | some r =>
      if (s.rq t).room then .next ({ s with holding := s.holding.erase r }.enterRq t r.words r.bad) else .next s

/-- Committed records keep commit order: a shot's records go behind every committed one (R332). -/
def State.commitRecords (s : State) (x : Shot) : State :=
  let mine := s.holding.filter (fun r => r.shot == some x.id && !r.committed)
  let rest := s.holding.filter (fun r => !(r.shot == some x.id && !r.committed))
  let done := rest.filter HoldRec.committed
  let open_ := rest.filter (fun r => !r.committed)
  { s with holding := done ++ mine.map (fun r =>
      { r with committed := true, words := x.stampRecord r.tile r.words }) ++ open_ }

end Sys2Proof.Machine
end

