-- ==== Sys2Proof/Machine/Carrier.lean ====
section
/-! DEFINITION. The carrier e^(jφ) of a phase in 2^-48 turns, and the interpolator of a tone (02 R47; 04
R106, R108). -/

namespace Sys2Proof.Machine

/-- The unit of fixed-point angles and results: 2^-96. -/
def fixOne : Nat := 2 ^ 96

/-- 2π in that unit. -/
def fixTurn : Nat := 497805226624462170461043889244

/-- An alternating Taylor series from one term on: the next divides by (k + 1)(k + 2). -/
def alternate (x2 : Nat) : Nat → Nat → Nat → Int
  | 0, _, t => t
  | n + 1, k, t => t - alternate x2 n (k + 2) (t * x2 / fixOne / ((k + 1) * (k + 2)))

/-- Cosine and sine of an angle of at most an eighth of a turn. -/
def fixCos (x : Nat) : Int := alternate (x * x / fixOne) 16 0 fixOne
def fixSin (x : Nat) : Int := alternate (x * x / fixOne) 16 1 x

/-- Cosine of k/2^48 turns in the first quarter. -/
def quarterCos (k : Nat) : Int :=
  if k ≤ 2 ^ 45 then fixCos (k * fixTurn / 2 ^ 48) else fixSin ((2 ^ 46 - k) * fixTurn / 2 ^ 48)

/-- cos φ, to within 2^-80, and exact where it is 0, 1 or -1 (R106; DEDUCED, log entry 114). -/
def turnCos (p : BitVec 48) : Rat :=
  let r := p.toNat % 2 ^ 46
  let v : Int := match p.toNat / 2 ^ 46 with
    | 0 => quarterCos r
    | 1 => -quarterCos (2 ^ 46 - r)
    | 2 => -quarterCos r
    | _ => quarterCos (2 ^ 46 - r)
  (v : Rat) / (fixOne : Rat)

/-- sin φ. -/
def turnSin (p : BitVec 48) : Rat := turnCos (p - BitVec.ofNat 48 (2 ^ 46))

/-- The I and Q of a complex sample word, each in Q1.15 (R113). -/
def sampleI (w : BitVec 32) : Rat := (signedOf 16 (w.toNat % 2 ^ 16) : Int) / 2 ^ 15
def sampleQ (w : BitVec 32) : Rat := (signedOf 16 (w.toNat / 2 ^ 16) : Int) / 2 ^ 15

/-- A signed Q1.15 value. -/
def q15 (v : BitVec 16) : Rat := (signedOf 16 v.toNat : Int) / 2 ^ 15

/-- What the interpolator makes of envelope samples, each with its distance from the DAC sample in fine
steps: it is linear and its response ends 3 ns from a sample (R108). -/
def interpolate (ws : List (Nat × BitVec 32)) : Rat × Rat :=
  ws.foldl (fun z w => if w.1 < 48 then
    (z.1 + Config.interp w.1 * sampleI w.2, z.2 + Config.interp w.1 * sampleQ w.2) else z) (0, 0)

/-- Re(E e^(jφ)) (R106). -/
def onCarrier (e : Rat × Rat) (p : BitVec 48) : Rat := e.1 * turnCos p - e.2 * turnSin p

end Sys2Proof.Machine
end

