-- ==== Sys2Proof/Machine/SamplePath.lean ====
section
/-! DEFINITION. The path of a readout sample: slices, interleave correction, channeliser and mixing (05
R141, R143, R144, R148, R150). -/

namespace Sys2Proof.Machine

open Fld

/-! The converter (R141, R142). -/

/-- The slice that takes the sample at an instant of forest time, in fine steps (R141). -/
def adcSlice (instant : Nat) : Nat := instant % 32 / 2

/-- A code as the converter gives it: it saturates at ±2,047 (R141). -/
def adcCode (c : Int) : Int := limitTo 2047 c

/-- OVR_LEVEL as it acts: 96 to 160 (05, ADC.CFG). -/
def State.ovrLevel (s : State) (t : Nat) : Nat := max 96 (min 160 (s.rd (adcCfg_OVR_LEVEL t)))

/-- Whether the detector of a slice flags an input, in 2^-20 of full scale: its magnitude exceeds
OVR_LEVEL/128 (R142). -/
def State.overRange (s : State) (t : Nat) (input : Int) : Bool :=
  decide (s.ovrLevel t * 2 ^ 20 < 128 * input.natAbs)

/-- Whether a slice takes a sample in the present tick, and its instant in fine steps of device time (R141):
eight samples a tick, slices 0 to 7 in even ticks of forest time. -/
def State.sliceNow (s : State) (n : Nat) : Bool := s.ft.toNat % 2 == n / 8
def State.sliceInstant (s : State) (n : Nat) : Nat := 16 * s.tick + 2 * (n % 8)

/-- Forest time less device time, in fine steps. -/
def State.fineOffset (s : State) : Nat := 16 * (s.ft - BitVec.ofNat 64 s.tick).toNat

/-! Correction (R144). -/

/-- The device's estimate of the first or second difference at a sample, times its coefficient: of the codes
before it, nearest first, and the codes from it on.  The estimates are fixed and not given. -/
def scaledDifference (order : Nat) (coef : Int) (unit : Rat) (before after : List Int) : Rat :=
  if coef = 0 then 0 else (coef : Rat) * unit * Config.difference order before after

/-- A slice's corrected sample y (R144). -/
def corrected (w : Word) (before after : List Int) (code : Int) : Rat :=
  let off := signedOf 16 (bitsOf w 0 16)
  let gain := signedOf 16 (bitsOf w 16 16)
  (1 + (gain : Rat) / 2 ^ 18) * ((code : Rat) - (off : Rat) / 16)
    + scaledDifference 1 (signedOf 16 (bitsOf w 32 16)) (1 / 10 ^ 15) before after
    + scaledDifference 2 (signedOf 16 (bitsOf w 48 16)) (1 / 2 ^ 16) before after

/-- The coefficients of a slice in force at a device tick: those ACTIVE now, or those that an application after
that tick replaced (R146, R147). -/
def State.coefAt (s : State) (t k slice : Nat) : Word :=
  match (s.corrHist.filter (fun e => e.1 == t && decide (k < e.2.1))).getLast? with
  | some e => e.2.2.getD slice 0
  | none => s.reg ⟨.corrActive, t, slice, 0⟩

/-- Whether the ADC of a tile was disabled at a tick: what the last change of EN up to it left, else
what stood before the first change after it (05, ADC.CFG). -/
def State.adcOffAt (s : State) (t k : Nat) : Bool :=
  let h := s.adcHist.filter (fun e => e.1 == t)
  match h.find? (fun e => decide (e.2.1 ≤ k)), h.getLast? with
  | some e, _ => !e.2.2
  | none, some e => e.2.2
  | none, none => !s.on (adcCfg_EN t)

/-- The corrected samples of a tile from an instant of forest time on, one every two fine steps; zero where the
converter was disabled (R141, R144; 05, ADC.CFG). -/
def State.correctAll (s : State) (t : Nat) : Nat → List Int → List Int → List Rat
  | _, _, [] => []
  | n, before, c :: rest =>
      let k := (n - s.fineOffset) / 16
      (if s.adcOffAt t k then 0 else corrected (s.coefAt t k (adcSlice n)) before (c :: rest) c)
        :: s.correctAll t (n + 2) (c :: before) rest

/-! The channeliser and the mixing (R148, R150). -/

/-- The centre of a bin as a frequency word: 62.5 MHz apart, from 0 or from 4 GHz (R143, R148). -/
def binWord (band b : Nat) : Nat := b * 2 ^ 40 + band * 2 ^ 46

/-- The product of two complex numbers. -/
def cmul (a b : Rat × Rat) : Rat × Rat := (a.1 * b.1 - a.2 * b.2, a.1 * b.2 + a.2 * b.1)

/-- e^(−jφ). -/
def unmix (p : BitVec 48) : Rat × Rat := (turnCos p, -turnSin p)

/-- One sample of a bin, brought down from the bin's centre: of the 512 corrected samples from 32 ns before its
instant on (R148).  The response's coefficients are fixed and not given. -/
def binSample (band b : Nat) (ys : List Rat) : Rat × Rat :=
  ((ys.take 512).zipIdx).foldl (fun z y =>
    let k : Int := (y.2 : Int) - 256
    let v := cmul (Config.binTap band b k) (unmix (BitVec.ofInt 48 ((binWord band b : Int) * (2 * k))))
    (z.1 + y.1 * v.1, z.2 + y.1 * v.2)) (0, 0)

/-- φ_d of a channel at sample m (R150). -/
def DemodBank.mixPhase (b : DemodBank) (m : Nat) : BitVec 48 :=
  BitVec.ofNat 48 (bitsOf b.dfreq 0 48 * (128 * m) + bitsOf b.dphase 0 32 * 2 ^ 16)

/-- A component of a mixed sample: 16-bit signed (R150). -/
def mixPart (x : Rat) : Int := max (-32768) (min 32767 (roundAway x))

/-- Mixed sample m of a channel from the corrected samples about it (R150). -/
def DemodBank.mixed (b : DemodBank) (band m : Nat) (ys : List Rat) : Cplx :=
  let x := cmul (binSample band (bitsOf b.cfg 8 6) ys) (unmix (b.mixPhase m))
  ⟨mixPart x.1, mixPart x.2⟩

/-- The first sample of a window, counted from forest time 0, and the samples of a window: the multiples of 8
ticks of forest time in [W, E) (R148, R151). -/
def State.firstSample (s : State) (w : Window) : Nat := (w.w + s.fineOffset + 127) / 128
def State.sampleCount (s : State) (w : Window) : Nat :=
  (w.e + s.fineOffset + 127) / 128 - s.firstSample w

/-- The mixed samples of a window from the codes of its span of influence, the first of them 32 ns before its
first sample (R141-R150). -/
def State.mixedOf (s : State) (w : Window) (codes : List Int) : List Cplx :=
  let m := s.firstSample w
  let band := s.rd (adcCfg_BAND w.tile)
  let ys := s.correctAll w.tile (128 * m - 512) [] (codes.map adcCode)
  (List.range (s.sampleCount w)).map (fun j => w.bank.mixed band (m + j) (ys.drop (64 * j)))

/-- The bins of a tile that are computed and forwarded: those that an enabled channel selects (R149). -/
def State.binsUsed (s : State) (t : Nat) : List Nat :=
  ((List.range 24).filter (fun c => bitsOf (s.bankOf t c).cfg 0 1 == 1)).map (fun c => bitsOf (s.bankOf t c).cfg 8 6)

end Sys2Proof.Machine
end

