-- ==== Sys2Proof/Machine/Slots.lean ====
section
/-! DEFINITION. Writes of decision slots (06 R169-R176). -/

namespace Sys2Proof.Machine

open Fld

/-- The ranks of R173: a demodulation channel, a tack cell, a patch, a lane. -/
def DecSource.order : DecSource → Nat
  | .demod r => r
  | .tack n => 1000 + n
  | .patch p => 2000 + p
  | .fabric l => 3000 + l

/-- A word of KIND state, tack or pre-decoder with STATUS valid (R167). -/
def decisionWord (value : Nat) (time : Word) (amb anom fa : Bool) (status kind tile dev : Nat) : Word :=
  BitVec.ofNat 64 (value % 2 ^ 32 + (time.toNat % 2 ^ 10) * 2 ^ 32 + (if amb then 2 ^ 42 else 0)
    + (if anom then 2 ^ 43 else 0) + (if fa then 2 ^ 44 else 0) + (status % 4) * 2 ^ 45
    + (kind % 4) * 2 ^ 47 + (tile % 16) * 2 ^ 49 + (dev % 2 ^ 11) * 2 ^ 53)

/-- Write a slot in this tick: of several writers the one latest in the order of R173 stands, and
COLLIDE counts the slot once.  FQ and the ledger as they stand at the write are kept for `wdec`
(R180); the read of the ledger may meet a poisoned word (12 R341). -/
def State.writeSlot (s : State) (n : Nat) (word : Word) (src : DecSource) (shot : Option Nat) : State :=
  let x := s.slot n
  let again := x.wrote.isSome && x.tick == s.tick
  let fq := s.mapReg ⟨.decSlot, n, 0, 0⟩
  let s := if bitsOf fq 9 1 = 1 then s.ledgerRead [bitsOf fq 0 9 / 32] else s
  let y : Slot :=
    { word := word, wrote := some s.ft, tick := s.tick, old := if x.tick == s.tick then x.old else x.word,
      rank := src.order, fq := fq, flip := s.flipBit s.ledgerSeen (bitsOf fq 0 9),
      shot := shot,
      lane := match src with | .fabric l => some l | _ => none,
      collided := again, bad := false }
  let s := if again && !x.collided then s.bump decCounts_COLLIDE else s
  let s := if statusOf word = 1 then s.bump decCounts_ABSENT_RX
           else if statusOf word = 2 then s.bump decCounts_LOST_RX else s
  if again && decide (src.order < x.rank) then
    { s with slots := Tab.set s.slots n { x with collided := true } }
  else { s with slots := Tab.set s.slots n y }

/-- Empty the slots from FIRST to LAST: not a write (R169). -/
def State.clearSlots (s : State) (first last : Nat) : State :=
  { s with slots := s.slots.map (fun (e : Nat × Slot) =>
      if first ≤ e.1 ∧ e.1 ≤ last then
        (e.1, { Slot.empty with old := if e.2.tick = s.tick then e.2.old else e.2.word,
                                tick := s.tick })
      else e) }

/-- The slots written in this tick. -/
def State.writtenNow (s : State) : List (Nat × Slot) :=
  s.slots.filter (fun e => e.2.wrote.isSome && e.2.tick == s.tick)

end Sys2Proof.Machine
end

