-- ==== Sys2Proof/Machine/Readout.lean ====
section
/-! DEFINITION. The readout: ADC, coefficient sets, windows from their end to their record, banks,
kernel training and trace capture (05_readout; 06 R170-R172, R184). -/

namespace Sys2Proof.Machine

open Fld

/-- Whether bit lo of a written value is set. -/
def strobe (bits : Word) (f : RField) : Bool := bits.getLsbD f.lo

/-! The ADC (R141-R147). -/

/-- A change of EN is kept while a window may still hold samples of before it (05, ADC.CFG). -/
def State.noteAdcEn (s : State) (t : Nat) (en : Bool) : State :=
  if s.on (adcCfg_EN t) == en then s
  else { s with adcHist := (t, s.tick, en) :: s.adcHist.filter (fun e => decide (s.tick < e.2.1 + 2 ^ 18)) }

/-- A write of ADC.CFG: EN applies from the present tick; a write that changes BAND while EN = 1 is refused whole
(R143). -/
def State.onAdcCfg (s : State) (t : Nat) (new : Word) : State :=
  let f := adcCfg_BAND t
  if s.on (adcCfg_EN t) && bitsOf new f.lo f.width != s.rd f then s.put (adcCfg_CFG_REFUSED t) true
  else (s.noteAdcEn t (bitsOf new 0 1 == 1)).setReg f.reg new

/-- ADC_OVER_RANGE (R141, R142, R150, R153): a slice takes its sample of an input, in 2^-20 of full scale;
where its detector flags it, it is counted, and marks the windows whose span of influence contains it. -/
def execAdcOverRange (t slice : BitVec 4) (input : Int) (s : State) : Host.Outcome State Fault Refusal :=
  let t := t.toNat
  let n := slice.toNat
  if !s.on (adcCfg_EN t) || !s.sliceNow n || !s.overRange t input then .next s
  else
    let now := s.sliceInstant n
    let s := (s.bump (ovrCount_COUNT t n)).putBit (adcStatus_OVR_SEEN t) n true
    let s := { s with windows := s.windows.map (fun (w : Window) =>
      if w.tile = t ∧ !w.latched ∧ w.w ≤ now + 512 ∧ now < w.e + 512 then { w with ovr := true }
      else w) }
    .next (s.pulse (288 + t))

/-- ADC_CODE_CLIP (R141, R142): a slice takes a sample of a code; one that saturates at ±2,047 is counted. -/
def execAdcCodeClip (t slice : BitVec 4) (code : Int) (s : State) : Host.Outcome State Fault Refusal :=
  if s.on (adcCfg_EN t.toNat) && s.sliceNow slice.toNat && (adcCode code).natAbs == 2047 then
    .next (s.bump (adcStatus_CODE_CLIPS t.toNat))
  else .next s

/-- Whether a tile takes host coefficients (R30, R145). -/
def State.corrHost (s : State) (t : Nat) : Bool :=
  s.tileMode t (s.bitAt modeRdo_CORR_HOST t) Modes.corrHost

/-- Whether a channel is in host-assisted kernel mode (R30, R161). -/
def State.kernHost (s : State) (t c : Nat) : Bool :=
  s.tileMode t (s.bitAt (modeKernel_HOST t) c) (fun m => m.kernHost.getLsbD c)

/-- The pending set of a tile is replaced (R145). -/
def State.setCorrPend (s : State) (t : Nat) (ws : List Word) : State :=
  { s with corrPend := (t, ws, s.tick) :: s.corrPend.filter (fun p => p.1 != t) }

/-- A tile's coefficient words of one set. -/
def State.coefSet (s : State) (n : RegName) (t : Nat) : List Word :=
  (List.range 16).map (fun i => s.reg ⟨n, t, i, 0⟩)

/-- A tile's ADC boundary (R146). -/
def State.adcBoundary (s : State) (t : Nat) : Bool :=
  !s.shots.any (fun x => x.acqs.any (fun a => a.1 == t))
    && !s.acqReqs.any (fun a => a.tile == t && a.shot.isNone)
    && !s.windows.any (fun w => w.tile == t && !w.ended)

/-- Whether a capture of corrected samples has stored some of them by a tick, and stores more from it on
(R163). -/
def TraceRun.straddles (r : TraceRun) (k : Nat) : Bool :=
  r.corr && match r.first with
    | some first => decide (first < 16 * k + r.pre ∧ 16 * k + r.pre ≤ first + 2 * 131071)
    | none => false

/-- The pending set of a tile becomes ACTIVE (R146, R163). -/
def State.applyCorr (s : State) (t : Nat) : State :=
  match s.corrPend.find? (fun p => p.1 == t) with
  | none => s
  | some p =>
      let old := s.coefSet .corrActive t
      let s := s.each (List.range 16) (fun s i =>
        s.setReg ⟨.corrActive, t, i, 0⟩ (p.2.1.getD i 0))
      let s := { s with corrPend := s.corrPend.filter (fun p => p.1 != t),
                        corrHist := (t, s.tick, old) :: s.corrHist.filter (fun e => decide (s.tick < e.2.1 + 2 ^ 18)),
                        corrOnce := if s.corrOnce.contains t then s.corrOnce else t :: s.corrOnce }
      let s := s.bump (adcCorr_APPLIED t)
      if (Tab.find s.traces t).any (fun r => r.straddles s.tick) then s.put (traceCtrl_CORR_CHG t) true else s

/-- PERIOD in ticks: 0 acts as 1 ms (05, ADC.CORR). -/
def State.corrPeriod (s : State) (t : Nat) : Nat := max 1 (s.rd (adcCorr_PERIOD t)) * 1000000

/-- CORR_PERIOD_COPY (R144, R145): in hardware mode EST, with what the estimator has found since if
the input was active, becomes the pending set. -/
def execCorrPeriodCopy (t : BitVec 4) (est : Option (List Word)) (s : State) :
    Host.Outcome State Fault Refusal :=
  let t := t.toNat
  let s := match est with
    | some ws => s.each (List.range 16) (fun s i => s.setReg ⟨.corrEst, t, i, 0⟩ (ws.getD i 0))
    | none => s
  if s.corrHost t || s.tick % s.corrPeriod t != 0 then .next s
  else .next (s.setCorrPend t (s.coefSet .corrEst t))

/-- A write of ADC.CORR: COMMIT, then FORCE, then CLIP_CLR (R145, R147). -/
def State.onAdcCorr (s : State) (t : Nat) (bits new : Word) : State :=
  let s := s.setReg ⟨.adcCorr, t, 0, 0⟩ new
  let s :=
    if strobe bits (adcCorr_COMMIT t) then
      if s.corrHost t then s.setCorrPend t (s.coefSet .corrStage t)
      else s.put (adcCfg_CFG_REFUSED t) true
    else s
  let s :=
    if strobe bits (adcCorr_FORCE t) && s.corrPend.any (fun p => p.1 == t) then
      (s.each (s.openOn t) (fun s id => s.modShot id (fun x =>
        if x.corr.contains t then x else { x with corr := t :: x.corr }))).applyCorr t
    else s
  if strobe bits (adcCorr_CLIP_CLR t) then s.wr (adcStatus_CODE_CLIPS t) 0 else s

/-- CORR_APPLY (R146): a pending set is applied at the tile's next ADC boundary. -/
def execCorrApply (t : BitVec 4) (s : State) : Host.Outcome State Fault Refusal :=
  if s.adcBoundary t.toNat then .next (s.applyCorr t.toNat) else .next s

/-! Windows (R151-R157). -/

/-- WINDOW_OPEN (R154): forest time reaches the W of a waiting window. -/
def execWindowOpen (t : BitVec 4) (c : BitVec 5) (s : State) : Host.Outcome State Fault Refusal :=
  match s.held t.toNat c.toNat with
  | w :: _ =>
      if w.opened || decide (s.tick < w.w / 16) then .next s
      else .next { s with windows := s.windows.map (fun x =>
        if x = w then { x with opened := true } else x) }
  | [] => .next s

/-- WINDOW_END (R141-R151, R155, R157): the first window held on the channel reaches its end, with the ADC codes
of its span of influence, of which its mixed samples are formed; the next is Open if it starts at that end (R154); its dump, its decision and its part of the record follow 52, 54 and 56 ticks on. -/
def execWindowEnd (t : BitVec 4) (c : BitVec 5) (codes : List Int) (s : State) :
    Host.Outcome State Fault Refusal :=
  match s.held t.toNat c.toNat with
  | w :: _ =>
      if s.tick < w.e / 16 then .next s
      else .next { s with windows := s.windows.map (fun y =>
        if y = w then { y with opened := true, ended := true, x := s.mixedOf w codes }
        else if y.tile = w.tile ∧ y.c = w.c ∧ !y.ended ∧ y.w = w.e then { y with opened := true } else y) }
  | [] => .next s

/-! Kernel training (R161, R162). -/

/-- Sums of samples, index by index. -/
def addSums : List Cplx → List Cplx → List Cplx
  | [], ys => ys
  | xs, [] => xs
  | x :: xs, y :: ys => x.add y :: addSums xs ys

/-- A training run takes a dumped window of its channel (R161). -/
def State.trainWindow (s : State) (w : Window) : State :=
  match Tab.find s.trains w.tile with
  | none => s
  | some r =>
      if r.ch ≠ w.c then s
      else
        let label := r.rot % r.labels
        let r := { r with rot := r.rot + 1 }
        if w.ovr || w.disp then
          ({ s with trains := Tab.set s.trains w.tile r }).bump (trainCtrl_EXCL w.tile)
        else if r.counts.getD label 0 < r.target then
          let r := { r with counts := r.counts.set label (r.counts.getD label 0 + 1),
                            sums := r.sums.set label (addSums (r.sums.getD label []) (w.x.take r.tlen)) }
          { s with trains := Tab.set s.trains w.tile r }
        else { s with trains := Tab.set s.trains w.tile r }

/-- Integer square root, rounded down: the largest r ≤ 2^k − 1 + r₀ with r² ≤ n, bit by bit. -/
def isqrtFrom (n : Nat) : Nat → Nat → Nat
  | 0, r => r
  | k + 1, r => if (r + 2 ^ k) * (r + 2 ^ k) ≤ n then isqrtFrom n k (r + 2 ^ k) else isqrtFrom n k r

def isqrt (n : Nat) : Nat := isqrtFrom n 160 0

/-- The nearest integer to a / √d for d > 0, ties away from zero. -/
def roundOverSqrt (a : Int) (d : Nat) : Int :=
  let k := (isqrt (4 * a.natAbs * a.natAbs / d) + 1) / 2
  if 0 ≤ a then (k : Int) else -(k : Int)

/-- The squared magnitude of a point. -/
def Cplx.norm2 (z : Cplx) : Nat := (z.i * z.i + z.q * z.q).toNat

def Cplx.sub (a b : Cplx) : Cplx := ⟨a.i - b.i, a.q - b.q⟩

/-- The kernel of R161 step 1 from the sums of labels 0 and 1: the conjugate of the difference,
scaled so that the largest tap has magnitude 32,767/32,768, rounded to Q1.15 (DEDUCED, log entry 15). -/
def trainKernel (s0 s1 : List Cplx) (tlen : Nat) : List Cplx :=
  let d := (List.range tlen).map (fun n => (s1.getD n ⟨0, 0⟩).sub (s0.getD n ⟨0, 0⟩))
  let top := d.foldl (fun m z => max m z.norm2) 0
  if top = 0 then d
  else d.map (fun z => ⟨roundOverSqrt (32767 * z.i) top, roundOverSqrt (-32767 * z.q) top⟩)

/-- The mean point of a label under the new kernel (R161 step 2). -/
def trainMean (k sums : List Cplx) (n shift : Nat) : Cplx :=
  let acc := (k.zip sums).foldl (fun (a : Cplx) (p : Cplx × Cplx) => a.add (p.1.mul p.2)) ⟨0, 0⟩
  ⟨sat24 (roundDiv acc.i (n * 2 ^ (15 + shift))), sat24 (roundDiv acc.q (n * 2 ^ (15 + shift)))⟩

/-- A direction cosine rounded to Q1.15, of which 1.0 is nearest to 32,767/32,768 (DEDUCED, log entry 118); the
direction of two equal means is not stated (DESIGN CHOICE, log entry 8, sites 1 and 2). -/
def trainCosine (v : Int) (norm2 : Nat) (site : Nat) : Int :=
  if norm2 = 0 then signedOf 16 (Config.unstated site [v, 0] % 2 ^ 16)
  else min 32767 (roundOverSqrt (32768 * v) norm2)

/-- A boundary on the perpendicular bisector of two means (R161 step 3). -/
def trainBoundary (m0 m1 : Cplx) : Word :=
  let d := m1.sub m0
  let a := trainCosine d.i d.norm2 1
  let b := trainCosine d.q d.norm2 2
  let c := roundDiv (a * (m0.i + m1.i) + b * (m0.q + m1.q)) (2 ^ 16)
  BitVec.ofNat 64 (unsignedOf 16 a + unsignedOf 16 b * 2 ^ 16 + unsignedOf 32 c * 2 ^ 32)

/-- A tap as it stands in a kernel word. -/
def Cplx.tapBits (z : Cplx) : Nat := unsignedOf 16 z.i + unsignedOf 16 z.q * 2 ^ 16

/-- The kernel window with the first taps replaced. -/
def State.writeKernel (s : State) (t c : Nat) (k : List Cplx) : State :=
  s.each (List.range k.length) (fun s n =>
    let r : Reg := ⟨.kernel, t, c, n / 2⟩
    s.setReg r (withBits (s.reg r) (32 * (n % 2)) 32 (k.getD n ⟨0, 0⟩).tapBits))

/-- The staging bank of a channel becomes pending (R159). -/
def State.commitBank (s : State) (t c : Nat) : State :=
  { s with demodPend := Tab.set s.demodPend (t, c) (s.stagingBank t c) }

/-- Whether a run has all its windows (R161). -/
def TrainRun.full (r : TrainRun) : Bool :=
  (List.range r.labels).all (fun l => decide (r.target ≤ r.counts.getD l 0))

/-- TRAINING_DONE (R161): MP1 forms the kernel, the means and the boundaries, writes the staging
bank and commits; DONE sets and the training-done event is sent. -/
def execTrainingDone (t : BitVec 4) (s : State) : Host.Outcome State Fault Refusal :=
  let t := t.toNat
  match Tab.find s.trains t with
  | none => .next s
  | some r =>
      if !r.full then .next s
      else
        let sums (l : Nat) := r.sums.getD l []
        let k := trainKernel (sums 0) (sums 1) r.tlen
        let m (l : Nat) := trainMean k (sums l) r.target r.shift
        let s := s.writeKernel t r.ch k
        let s := (s.wr (acqCfg_KLEN t r.ch) r.tlen).wr (acqCfg_SHIFT t r.ch) r.shift
        let s := s.setReg ⟨.acqDisc0, t, r.ch, 0⟩ (trainBoundary (m 0) (m 1))
        let s := s.put (acqCfg_THREE t r.ch) (r.labels == 3)
        let s := if r.labels = 3 then
            s.setReg ⟨.acqDisc1, t, r.ch, 0⟩ (trainBoundary (m 1) (m 2)) else s
        let s := s.each (List.range r.labels) (fun s l =>
          s.setReg ⟨.trainMean, t, l, 0⟩
            (BitVec.ofNat 64 (unsignedOf 32 (m l).i + unsignedOf 32 (m l).q * 2 ^ 32)))
        let s := (s.commitBank t r.ch).put (trainCtrl_DONE t) true
        let s := (s.put (trainCtrl_BUSY t) false).pulse (368 + t)
        .next { s with trains := Tab.erase s.trains t }

/-- A write of ACQ_TRAIN.CTRL: START begins a run or sets ERR; ABORT ends one (R161, R162). -/
def State.onTrainCtrl (s : State) (t : Nat) (bits new : Word) : State :=
  let s := s.setReg ⟨.trainCtrl, t, 0, 0⟩ new
  let s :=
    if strobe bits (trainCtrl_START t) then
      let ch := s.rd (trainCtrl_CH t)
      let tlen := s.rd (trainCtrl_TLEN t)
      if s.kernHost t ch || s.on (trainCtrl_BUSY t) || decide (512 < tlen)
          || decide (tlen < 1) then s.put (trainCtrl_ERR t) true
      else
        let run : TrainRun :=
          { at_ := s.tick, ch := ch, labels := if s.on (trainCtrl_NSTATES3 t) then 3 else 2,
            target := 2 ^ min 16 (max 6 (s.rd (trainCtrl_LOG2N t))), tlen := tlen,
            shift := s.rd (trainCtrl_TSHIFT t) }
        (({ s with trains := Tab.set s.trains t run }).put (trainCtrl_BUSY t) true).wr (trainCtrl_EXCL t) 0
    else s
  if strobe bits (trainCtrl_ABORT t) then
    ({ s with trains := Tab.erase s.trains t }).put (trainCtrl_BUSY t) false
  else s

/-- A fitting run takes a dumped window of its demodulation channel (08 R259): labelled in rotation
B, R, point 0 and on; one with OVR or DISP is counted in EXCL and does not advance the rotation. A window
of an open shot can still be unpicked. -/
def State.fitWindow (s : State) (w : Window) : State :=
  match Tab.find s.fits w.tile with
  | none => s
  | some f =>
      if f.dch ≠ w.c ∨ f.target ≤ f.whole.rounds then s
      else if w.ovr || w.disp then s.bump (fitCtrl_EXCL w.tile)
      else
        let f := { f with later := f.later ++ [(w.shot, w.iq)] }
        { s with fits := Tab.set s.fits w.tile (f.fold (fun id => (s.shotById id).isSome)) }

/-! After the window (R157): the dump, the latch, the record. -/

/-- The dump at E + 52: the point, its state and its flags; a training run takes the window. -/
def State.dumpWindow (s : State) (w : Window) : State :=
  let p := w.bank.point w.x
  let s := if p.2 then s.bump (acqCounts_SAT w.tile w.c) else s
  let s := (s.trainWindow w).fitWindow { w with iq := p.1 }
  { s with windows := s.windows.map (fun y =>
      if y = w then { y with dumped := true, iq := p.1, sat := p.2, state := w.bank.stateOf p.1,
                             amb := w.bank.ambOf p.1, x := [] } else y) }

/-- The qubit slot bound to a demodulation channel for a thread (06 R184). -/
def State.boundSlot (s : State) (q : Thr) (c : Nat) : Option Nat :=
  ((List.range 24).find? (fun k => bitsOf (s.bindOf q k) 16 5 == c)).map (fun k => 24 * q.tile + k)

/-- The forest time of an instant. -/
def State.ftOf (s : State) (instant : Nat) : Word :=
  s.ft + BitVec.ofNat 64 (instant / 16) - BitVec.ofNat 64 s.tick

/-- A packed member joins its word (R171). -/
def State.joinPack (s : State) (w : Window) (slot : Nat) (m : PackMember) : State :=
  let p : Pack := (s.packs.find? (fun p => p.acq == w.acq && p.slot == slot)).getD
    { acq := w.acq, slot := slot, tile := w.tile, e := w.e, members := [] }
  { s with packs := { p with e := max p.e w.e, members := p.members ++ [m] } ::
      s.packs.filter (fun p => !(p.acq == w.acq && p.slot == slot)) }

/-- The latch at E + 54: the decision is written into its slot, or joins a packed word; the state
the record reports is fixed (06 R170-R172, R182-R184). -/
def State.latchWindow (s : State) (w : Window) : State :=
  let t := w.tile
  let c := w.c
  let en := s.mapOn (decSrc_EN t c)
  let pack := s.mapOn (decSrc_PACK t c)
  let slot := s.mapRd (decSrc_SLOT t c)
  let flip := (s.boundSlot w.thr c).map (s.flipBit s.ledgerSeen)
  let adj := s.mapOn (decSrc_ADJ t c) && !pack && en && flip.isSome
  let adjusted := BitVec.ofNat 2 (adjustState w.state.toNat (flip.getD false))
  let rpt := s.acqReqs.any (fun a => a.id == w.acq && a.frameRpt)
  let anom := w.ovr || w.disp || w.sat
  let s := { s with windows := s.windows.map (fun y =>
    if y = w then { y with latched := true, report := if rpt then adjusted else w.state } else y) }
  if !en then s
  else if pack then
    s.joinPack w slot { c := c, pos := s.mapRd (decSrc_POS t c) / 2 * 2, state := some w.state,
                        amb := w.amb, anom := anom }
  else
    s.writeSlot slot
      (decisionWord (if adj then adjusted.toNat else w.state.toNat) (s.ftOf w.e) w.amb anom adj 0 0 t
        (s.rd eswId_DEV)) (.demod (24 * t + c)) w.shot

/-- Whether a further channel of the `acq` may still join a packed word (DEDUCED, log entry 14). -/
def State.packOpen (s : State) (p : Pack) : Bool :=
  s.windows.any (fun w => w.acq == p.acq && !w.latched && s.mapOn (decSrc_EN w.tile w.c)
    && s.mapOn (decSrc_PACK w.tile w.c) && s.mapRd (decSrc_SLOT w.tile w.c) == p.slot)

/-- The members of a packed word with those of its `acq` that have no result, in ascending channel
(R171). -/
def State.packMembers (s : State) (p : Pack) : List PackMember :=
  let none_ := match s.acqReqs.find? (fun a => a.id == p.acq) with
    | some a => (a.results.filter (fun r => r.state.isNone && s.mapOn (decSrc_EN p.tile r.c)
        && s.mapOn (decSrc_PACK p.tile r.c) && s.mapRd (decSrc_SLOT p.tile r.c) == p.slot)).map
          (fun r => ({ c := r.c, pos := s.mapRd (decSrc_POS p.tile r.c) / 2 * 2, state := none,
                       amb := false, anom := false } : PackMember))
    | none => []
  (List.range 24).flatMap (fun c => (p.members ++ none_).filter (fun m => m.c == c))

/-- A packed word is written, at the latest latch of its members (R171, R173). -/
def State.writePack (s : State) (p : Pack) : State :=
  let ms := s.packMembers p
  let value := ms.foldl (fun v m =>
    (withBits (BitVec.ofNat 64 v) m.pos 2 (match m.state with | some x => x.toNat | none => 3)).toNat) 0
  let top := ms.foldl (fun n m => max n m.c) 0
  let s := { s with packs := s.packs.erase p }
  s.writeSlot p.slot (decisionWord value (s.ftOf p.e) (ms.any PackMember.amb) (ms.any PackMember.anom)
    false 0 0 p.tile (s.rd eswId_DEV)) (.demod (24 * p.tile + top))
    ((s.acqReqs.find? (fun a => a.id == p.acq)).bind AcqReq.shot)

/-- A channel's part of the record is complete at E + 56 (R157). -/
def State.finishWindow (s : State) (w : Window) : State :=
  let r : ChanResult := { c := w.c, state := some w.report, amb := w.amb, ovr := w.ovr, disp := w.disp,
                          sat := w.sat, iq := w.iq }
  { s with windows := s.windows.filter (fun y => y ≠ w),
           acqReqs := s.acqReqs.map (fun (a : AcqReq) =>
             if a.id = w.acq then { a with results := a.results ++ [r] } else a) }

/-! Records (R158, R164-R166). -/

/-- The result of channel c in a request, if it was named and not Off. -/
def AcqReq.result (a : AcqReq) (c : Nat) : Option ChanResult := a.results.find? (fun r => r.c == c)

/-- The low five flag bits of a channel. -/
def ChanResult.bits (r : ChanResult) : Nat :=
  (match r.state with | some x => x.toNat | none => 3) + (if r.amb then 4 else 0)
    + (if r.ovr then 8 else 0) + (if r.disp then 16 else 0)

/-- A channel field of a discriminated record (R165). -/
def AcqReq.field (a : AcqReq) (c : Nat) : Nat := match a.result c with | some r => r.bits | none => 3

/-- Word 1 of a discriminated record (R165). -/
def AcqReq.word1 (a : AcqReq) : Word :=
  BitVec.ofNat 64 (a.stamp.toNat % 2 ^ 48 + (a.ltag.toNat % 2 ^ 16) * 2 ^ 48)

/-- Twelve channel fields (R165). -/
def AcqReq.fields (a : AcqReq) (c0 : Nat) : Word :=
  BitVec.ofNat 64 ((List.range 12).foldl (fun v j => v + a.field (c0 + j) * 2 ^ (5 * j)) 0)

/-- A discriminated record (R165). -/
def AcqReq.discriminated (a : AcqReq) : List Word :=
  [recordHeader 1 a.tile a.thr.idx 0 a.shotNo 0 a.frameRpt, a.word1, a.fields 0, a.fields 12]

/-- The raw record of a group (R166). -/
def AcqReq.rawGroup (a : AcqReq) (g : Nat) : List Word :=
  let rs := (List.range 4).map (fun j => (j, a.result (4 * g + j)))
  let flags := rs.foldl (fun v p =>
    v + (match p.2 with | some r => r.bits + (if r.sat then 32 else 0) | none => 3) * 2 ^ (6 * p.1)) 0
  let v := rs.foldl (fun v p =>
    v + (match p.2 with
      | some r => if r.state.isSome then unsignedOf 24 r.iq.i + unsignedOf 24 r.iq.q * 2 ^ 24 else 0
      | none => 0) * 2 ^ (48 * p.1)) 0
  [recordHeader 2 a.tile a.thr.idx g a.shotNo flags a.frameRpt, BitVec.ofNat 64 v,
   BitVec.ofNat 64 (v / 2 ^ 64), BitVec.ofNat 64 (v / 2 ^ 128)]

/-- The records of a request: one, or one for each group named (R165, R166). -/
def AcqReq.records (a : AcqReq) : List (List Word) :=
  if a.raw then
    ((List.range 6).filter (fun g => (List.range 4).any (fun j => a.mask.getLsbD (4 * g + j)))).map
      a.rawGroup
  else [a.discriminated]

/-- Whether a request's record forms in this tick (R158). -/
def State.formsNow (s : State) (a : AcqReq) : Bool :=
  decide (a.formAt ≤ s.tick) && !s.windows.any (fun w => w.acq == a.id)

/-- A request's records are formed; its launch awaits one acquisition less (R158, R70). -/
def State.formAcq (s : State) (a : AcqReq) : State :=
  let s := { s with acqReqs := s.acqReqs.filter (fun b => b.id != a.id) }
  let s := s.each a.records (fun s ws => s.formRecord a.tile a.thr a.shot ws)
  let s := match a.shot with
    | some id => s.modShot id (fun x => { x with parts := x.parts.map (fun (p : ShotPart) =>
        if p.thr = a.thr then { p with arr := s.tick } else p) })
    | none => s
  s.modThread a.thr (fun t =>
    if t.startedFt = a.launch then { t with awaited := t.awaited - 1 } else t)

/-- The requests of a tick in the order of R158: ascending thread, then issue. -/
def State.formingAcqs (s : State) : List AcqReq :=
  let due := s.acqReqs.filter s.formsNow
  (List.range 8).flatMap (fun h => due.filter (fun a => a.thr.idx == h))

/-- The readout's work in a tick (R157, R158). -/
def State.readoutTick (s : State) : State :=
  let s := s.each (s.windows.filter (fun w => w.ended && !w.dumped && decide (w.e / 16 + 52 ≤ s.tick)))
    State.dumpWindow
  let s := s.each (s.windows.filter (fun w => w.dumped && !w.latched && decide (w.e / 16 + 54 ≤ s.tick)))
    State.latchWindow
  let s := s.each (s.packs.filter (fun p => !s.packOpen p)) State.writePack
  let s := s.each (s.windows.filter (fun w => w.latched && decide (w.e / 16 + 56 ≤ s.tick)))
    State.finishWindow
  s.each s.formingAcqs State.formAcq

/-! Banks (R159, R160). -/

/-- A channel's boundary (R160). -/
def State.demodBoundary (s : State) (t c : Nat) : Bool :=
  (s.held t c).isEmpty
    && !s.shots.any (fun x => x.acqs.any (fun a => a.1 == t && a.2.getLsbD c))
    && !s.acqReqs.any (fun a => a.tile == t && a.shot.isNone && a.mask.getLsbD c)

/-- A write of ACQ[c].CTRL (R159). -/
def State.onAcqCtrl (s : State) (t c : Nat) (bits : Word) : State :=
  if strobe bits (acqCtrl_COMMIT t c) then s.commitBank t c else s

/-- DEMOD_BANK_APPLY (R160). -/
def execDemodBankApply (t : BitVec 4) (c : BitVec 5) (s : State) : Host.Outcome State Fault Refusal :=
  let t := t.toNat
  let c := c.toNat
  match Tab.find s.demodPend (t, c) with
  | none => .next s
  | some b =>
      if !s.demodBoundary t c then .next s
      else
        let s := { s with demodBank := Tab.set s.demodBank (t, c) b,
                          demodPend := Tab.erase s.demodPend (t, c) }
        .next (s.wr (acqStatus_BANK_SEQ t c) (s.rd (acqStatus_BANK_SEQ t c) + 1))

/-- ACQ[c].STATUS as a read shows it (R154): STATE, HELD, PEND and the count of banks applied. -/
def State.acqStatusView (s : State) (t c : Nat) : Word :=
  let held := s.held t c
  let st := if bitsOf (s.bankOf t c).cfg 0 1 = 0 ∧ held.isEmpty then 0
    else match held with
      | [] => 1
      | w :: _ => if w.opened then 3 else 2
  BitVec.ofNat 64 (st + held.length * 4 + (if (Tab.find s.demodPend (t, c)).isSome then 16 else 0)
    + s.rd (acqStatus_BANK_SEQ t c) * 2 ^ 16)

/-! Trace capture (R163). -/

/-- A write of TRACE.CTRL: TRIG 0b11 leaves the field; GO arms a capture unless one is under way. -/
def State.onTraceCtrl (s : State) (t : Nat) (bits new : Word) : State :=
  let f := traceCtrl_TRIG t
  let new := if bitsOf new f.lo f.width = 3 then withBits new f.lo f.width (s.rd f) else new
  let s := s.setReg f.reg new
  if !strobe bits (traceCtrl_GO t) then s
  else if (Tab.find s.traces t).isSome then s.bump (traceCtrl_GO_IGN t)
  else
    let run : TraceRun := { start := if s.rd f = 0 then some (16 * s.tick) else none, corr := s.on (traceCtrl_CORR t) }
    (({ s with traces := Tab.set s.traces t run }).put (traceCtrl_BUSY t) true).put
      (traceCtrl_CORR_CHG t) false

/-- TRACE_TRIGGER (R163): the trigger instant comes; T0 is the forest time of the first stored
sample, PRE·1,024 samples of 2 fine steps before it. -/
def execTraceTrigger (t : BitVec 4) (s : State) : Host.Outcome State Fault Refusal :=
  let t := t.toNat
  match Tab.find s.traces t with
  | none => .next s
  | some r =>
      match r.start, r.first with
      | some at_, none =>
          if s.tick < at_ / 16 then .next s
          else
            let first := at_ / 2 * 2
            let pre := s.rd (traceCtrl_PRE t) * 2048
            let r := { r with first := some first, pre := pre }
            let s := { s with traces := Tab.set s.traces t r }
            -- a change among the samples stored before the trigger
            let s := if s.corrHist.any (fun e => e.1 == t && r.straddles e.2.1) then s.put (traceCtrl_CORR_CHG t) true else s
            .next (s.wr (traceT0_VALUE t)
              (unsignedOf 64 ((16 * (s.ftOf first).toNat + first % 16 : Nat) - (pre : Int))))
      | _, _ => .next s

/-- One stored sample (R163). -/
def traceWord (x : Int × Bool) : Nat :=
  unsignedOf 12 (limitTo 2047 x.1) * 16 + (if x.2 then 1 else 0)

/-- The buffer filled with samples from an index. -/
def fillTrace (m : List Host.Cell) (base : Nat) : Nat → List (Int × Bool) → List Host.Cell
  | _, [] => m
  | i, x :: rest => fillTrace (Mem.store m (base + 2 * i) 2 (traceWord x)) base (i + 1) rest

/-- The values a capture stores from an instant of forest time on: the codes, or the corrected samples rounded
(R144, R163). -/
def State.traceValues (s : State) (t : Nat) (corr : Bool) (start : Nat) (codes : List Int) : List Int :=
  if corr then (s.correctAll t start [] codes).map roundAway else codes

/-- TRACE_DONE (R163): after the last sample instant the buffer holds the samples, with their over-range flags,
and DONE sets. -/
def execTraceDone (t : BitVec 4) (samples : List (Int × Bool)) (s : State) :
    Host.Outcome State Fault Refusal :=
  let t := t.toNat
  match (Tab.find s.traces t).bind (fun r => r.first.map (fun first => (first, r))) with
  | none => .next s
  | some (first, r) =>
      if 16 * s.tick + r.pre < first + 2 * 131072 then .next s
      else
        let xs := samples.take 131072
        let values := s.traceValues t r.corr (first + s.fineOffset - r.pre) (xs.map (fun x => adcCode x.1))
        let s := { s with mem := fillTrace s.mem (Space.trace.base t) 0 (values.zip (xs.map Prod.snd)),
                          traces := Tab.erase s.traces t }
        .next ((s.put (traceCtrl_BUSY t) false).put (traceCtrl_DONE t) true)

end Sys2Proof.Machine
end

