-- ==== Sys2Proof/Machine/Predecoder.lean ====
section
/-! DEFINITION. The syndrome pre-decoder: ancillas, patches, escalation, defect forwards
(06 R187-R199, R417). -/

namespace Sys2Proof.Machine

open Fld

/-! Ancillas (R187). -/

def State.anc (s : State) (a : Nat) : Anc := Tab.get s.ancs a {}

/-- An ancilla closes a round on a word (R187). -/
def Anc.close (x : Anc) (w : Word) (bit : Nat) (diff : Bool) : Anc :=
  let r := w.getLsbD bit
  let n := x.rounds + 1
  let round : AncRound :=
    { n := n, s := if diff then r ^^ x.raw else r, valid := statusOf w == 0, amb := bitsOf w 42 1 == 1 }
  { rounds := n, raw := r, hist := (round :: x.hist).take 3 }

/-- The ancillas in use that follow a slot. -/
def State.ancsOn (s : State) (slot : Nat) : List Nat :=
  (List.range 192).filter (fun a => s.on (pdcAnc_EN a) && s.rd (pdcAnc_SLOT a) == slot)

/-- Every ancilla that follows a slot written in this tick closes a round on the word that stands
(R173, R187). -/
def State.closeRounds (s : State) : State :=
  if !s.on pdcCfg_EN then s
  else s.each s.writtenNow (fun s e =>
    s.each (s.ancsOn e.1) (fun s a =>
      let y := (s.anc a).close e.2.word (s.rd (pdcAnc_BIT a)) (s.on (pdcAnc_DIFF a))
      { s with ancs := Tab.set s.ancs a y }))

/-! Patches (R188-R190). -/

/-- NBITS as it acts. -/
def State.patchBits (s : State) (p : Nat) : Nat := max 1 (s.rd (patchCfg_NBITS p))

/-- Input i of a patch: its ancilla and PREV. -/
def State.patchInput (s : State) (p i : Nat) : Nat × Bool :=
  let f := bitsOf (s.reg ⟨.patchIn, p, i / 4, 0⟩) (16 * (i % 4)) 16
  (f % 256, f.testBit 8)

/-- The inputs of a patch. -/
def State.patchInputs (s : State) (p : Nat) : List (Nat × Bool) :=
  (List.range (s.patchBits p)).map (s.patchInput p)

/-- The owner thread of a patch. -/
def State.patchOwner (s : State) (p : Nat) : Thr := ⟨s.rd (patchCfg_OWNER_T p), s.rd (patchCfg_OWNER_H p)⟩

/-- The round a patch assembles next, if its inputs have closed what it needs (R188). -/
def State.patchReady (s : State) (p : Nat) : Option Nat :=
  let n := s.rd (patchRound_ROUND p) + 1
  let ins := s.patchInputs p
  let allPrev := ins.all (fun i => i.2)
  if s.on pdcCfg_EN && s.on (patchCfg_EN p) && Tab.find s.patchTick p != some s.tick
      && ins.all (fun i => decide ((if i.2 && !allPrev then n - 1 else n) ≤ (s.anc i.1).rounds)) then
    some n
  else none

/-- What an input contributes: its syndrome bit, whether it is no longer held, missing, ambiguous
(R187, R189). -/
def State.inputBit (s : State) (n : Nat) (i : Nat × Bool) : Bool × Bool × Bool × Bool :=
  let r := if i.2 then n - 1 else n
  let x := s.anc i.1
  if r = 0 then (false, false, false, false)
  else match x.hist.find? (fun h => h.n == r) with
    | some h => (h.s, false, !h.valid, h.amb)
    | none => (false, true, false, false)

/-- The mode a patch holds (R199). Of an owner that runs outside any shot scope it is the mode as written, at
once (DEDUCED, log entry 101: R30 would wait for its next launch start). -/
def State.patchModeNow (s : State) (p : Nat) : Nat :=
  if (s.thread (s.patchOwner p)).shot.isSome then Tab.get s.patchMode p (s.rd modeDec_DEC)
  else s.rd modeDec_DEC

/-- Whether a participant's shot is past its tick C0 (R93, R196). -/
def State.pastC0 (s : State) (x : Shot) (q : Thr) : Bool :=
  match x.parts.find? (fun p => p.thr == q) with
  | none => true
  | some p => p.ended.isSome && !(s.thread q).queue.any (fun c => c.shot == some x.id)
      && !s.acqReqs.any (fun a => a.shot == some x.id && a.thr == q) && decide (max p.c0 p.arr < s.tick)

/-- The owner's shot an assembly in this tick is attributed to (R196); in the tick of its unpick it is
still that shot, so that R417 takes the assembly's effects. -/
def State.patchShot (s : State) (q : Thr) : Option Nat :=
  match s.decTick.snaps.find? (fun u => u.2.1.contains q) with
  | some u => some u.1
  | none =>
      match s.shotOf q with
      | none => none
      | some id =>
          match s.shotById id with
          | some x => if s.pastC0 x q then none else some id
          | none => none

/-- The table index (R189). -/
def State.patchIndex (s : State) (p v : Nat) : Nat :=
  let b := s.rd (patchCfg_BASE p)
  (b / 2 ^ s.patchBits p * 2 ^ s.patchBits p + v) % 32768

/-- Whether a patch of a thread will assemble by the end of this tick, once the slots written in it have
closed their rounds (R93, R196). -/
def State.assemblesNow (s : State) (q : Thr) : Bool :=
  let s' := s.closeRounds
  (List.range 64).any (fun p => s.patchOwner p == q && (s'.patchReady p).isSome)

/-- PATCH_ASSEMBLY (R188, R189, R197): the patch assembles its next round. An uncorrectable table entry is a
fault of the patch's owner (12 R343). -/
def execPatchAssembly (p : BitVec 6) (s : State) : Host.Outcome State Fault Refusal :=
  let p := p.toNat
  match s.patchReady p with
  | none => .next s
  | some n =>
      let q := s.patchOwner p
      let bits := (s.patchInputs p).map (s.inputBit n)
      let v := ofBits (bits.map (fun b => b.1))
      let mode := s.patchModeNow p
      let entry := s.reg ⟨.pdcTable, s.patchIndex p v, 0, 0⟩
      let bad := s.poisoned 0x05 0 (s.patchIndex p v)
      let reason : Nat :=
        if mode = 2 then 5
        else if bits.any (fun b => b.2.1) then 4
        else if bits.any (fun b => b.2.2.1) then 2
        else if bits.any (fun b => b.2.2.2) ∧ s.on (patchCfg_AMB_ESC p) then 3
        else if bad then 6
        else if bitsOf entry 8 1 = 1 then 1 else 0
      let mask : BitVec 8 := if reason ≤ 1 then BitVec.ofNat 8 (bitsOf entry 0 8) else 0
      let shot := s.patchShot q
      let a : Assembly :=
        { patch := p, n := n, v := v, mask := mask, esc := reason != 0, reason := reason, tick := s.tick,
          ft := s.ft, mode := mode, shot := shot,
          shotNo := if shot.isSome then ((s.thread q).scopes - 1) % 2 ^ 16 else 0xFFFF,
          ltag := (s.thread q).launchTag }
      let s := { s with assemblies := s.assemblies ++ [a], patchTick := Tab.set s.patchTick p s.tick }
      let s := s.wr (patchRound_ROUND p) n
      let s := if reason = 0 then s else s.bump pdcCounts_ESCALATED
      let s := if reason = 2 then s.bump pdcCounts_MISSING
        else if reason = 4 then s.bump pdcCounts_OVERRUN_HIST else s
      .next (if reason = 6 then s.poisonFault 0x05 q (s.patchIndex p v) else s)

/-- The ledger bits a mask flips (R190). -/
def State.maskBits (s : State) (p : Nat) (mask : BitVec 8) : BitVec 768 :=
  (List.range 8).foldl (fun (m : BitVec 768) j =>
    let f := bitsOf (s.reg ⟨.patchTgt, p, j / 4, 0⟩) (16 * (j % 4)) 16
    let q := f % 512
    if mask.getLsbD j && f.testBit 15 && decide (q < 384) then
      m ^^^ ((1 : BitVec 768) <<< (if f.testBit 9 then 2 * q else 2 * q + 1))
    else m) 0

/-- VALUE of a pre-decoder result (R168). -/
def patchValue (mask esc reason v : Nat) : Nat :=
  mask % 256 + (esc % 2) * 2 ^ 8 + (reason % 8) * 2 ^ 9 + (v % 2 ^ 15) * 2 ^ 12

/-- A word of KIND pre-decoder (R192, R195). -/
def patchWord (value reason : Nat) (time : Word) (tile dev : Nat) : Word :=
  decisionWord value time (reason == 3) (reason == 2 || reason == 4) false 0 1 tile dev

/-- Words 2 and 3 of a defect record (R194). -/
def Assembly.word2 (a : Assembly) : Word :=
  BitVec.ofNat 64 (a.v % 2 ^ 15 + a.patch * 2 ^ 16 + a.reason * 2 ^ 24 + (a.n % 2 ^ 32) * 2 ^ 32)
def Assembly.word3 (a : Assembly) (dev : Nat) : Word := BitVec.ofNat 64 (a.mask.toNat + dev * 2 ^ 8)

/-- A defect record of a local patch (R193, R194). -/
def State.defectRecord (s : State) (a : Assembly) : State :=
  let q := s.patchOwner a.patch
  s.formRecord q.tile q a.shot
    [recordHeader 3 q.tile q.idx 0 a.shotNo 0 false,
     BitVec.ofNat 64 (a.ft.toNat % 2 ^ 48 + (a.ltag.toNat % 2 ^ 16) * 2 ^ 48),
     a.word2, a.word3 (s.rd eswId_DEV)]

/-- A defect forward taken by this device, with the source its slot write is of (R195): the first
RXMAP entry in use that matches, else a defect record with REASON 7. -/
def State.takeForward (s : State) (src : DecSource) (f : DefectForward) : State :=
  match (List.range 16).find? (fun i => s.on (rxMap_EN i) && s.rd (rxMap_DEV i) == f.dev.toNat
      && s.rd (rxMap_PATCH i) == f.patch.toNat) with
  | some i =>
      let reason := bitsOf f.word2 24 3
      s.writeSlot (s.rd (rxMap_SLOT i))
        (patchWord (patchValue (bitsOf f.word3 0 8) (if reason = 0 then 0 else 1) reason (bitsOf f.word2 0 15))
          reason (f.a.setWidth 64) 0 f.dev.toNat) src none
  | none =>
      s.formRecord 0 ⟨0, 0⟩ none
        [recordHeader 3 0 0 0 0xFFFF 0 false, f.a.setWidth 64, withBits f.word2 24 3 7, f.word3]

/-- The defect forward of an assembly (R193, R235). -/
def Assembly.forward (a : Assembly) (dev : Nat) : DefectForward :=
  { dev := BitVec.ofNat 11 dev, patch := BitVec.ofNat 6 a.patch, a := a.ft.setWidth 32,
    word2 := a.word2, word3 := a.word3 dev }

/-- The lane that leads to a device (R202). -/
def State.laneToward (s : State) (dev : Nat) : Nat :=
  s.rd (if dev / 16 = s.rd eswId_DEV / 16 then routeMember_LANE (dev % 16) else routeGrove_LANE (dev / 16))

/-- A defect forward is sent to the patch's neighbour; a shot whose group it leaves is no longer
replayable (R193, R235, 12 R344). -/
def State.sendForward (s : State) (a : Assembly) : State :=
  let me := s.rd eswId_DEV
  let dest := s.rd (patchCfg_NDEV a.patch)
  if dest = me then s.takeForward (.patch a.patch) (a.forward me)
  else
    let lane := s.laneToward dest
    let s := match a.shot with
      | some id => match s.shotById id with
        | some x => if s.outsideGroup x lane then s.notReplayable (some id) else s
        | none => s
      | none => s
    s.sendBulk 0 dest 3 me [(a.ft.setWidth 32) ++ (a.word3 me) ++ a.word2]

/-- The escalation of an assembly (R193, R199); the record of an unpicked shot is freed with it (R417). -/
def State.escalate (s : State) (a : Assembly) : State :=
  let dest := s.rd (patchCfg_ESC_DEST a.patch)
  let host := a.mode == 2 || dest == 0 || dest == 2
  let near := a.mode != 2 && (dest == 1 || dest == 2)
  let s := if !host then s else if a.mode = 0 then s.bump pdcCounts_DROP_ESC
    else if a.undone then s else s.defectRecord a
  if near then s.sendForward a else s

/-- PATCH_RESULT (R190-R193): at A + 12 the ledger is updated, the result slot written and the
escalation formed. Of a shot unpicked earlier in that tick the update and its removal leave the ledger as it
is (R186, R417). -/
def execPatchResult (p : BitVec 6) (s : State) : Host.Outcome State Fault Refusal :=
  match s.assemblies.find? (fun a => a.patch == p.toNat && decide (a.tick + 12 ≤ s.tick)) with
  | none => .next s
  | some a =>
      let s := { s with assemblies := s.assemblies.erase a }
      -- what the host sets in the tick stands (R186)
      let m : BitVec 768 := if a.undone then 0 else s.maskBits a.patch a.mask &&& ~~~s.decTick.set
      let s := if m = 0 then s
        else (s.ledgerRead ((List.range 12).filter (fun i => (m >>> (64 * i)).setWidth 64 ≠ 0#64))).setLedger (s.ledger ^^^ m)
      let s := match a.shot with
        | some id => s.modShot id (fun x => { x with undo := x.undo ^^^ m })
        | none => s
      let s := if s.on (patchCfg_RES_EN a.patch) then
          s.writeSlot (s.rd (patchCfg_RES_SLOT a.patch))
            (patchWord (patchValue a.mask.toNat (if a.esc then 1 else 0) a.reason a.v) a.reason a.ft
              (s.rd (patchCfg_OWNER_T a.patch)) (s.rd eswId_DEV)) (.patch a.patch) a.shot
        else s
      .next (if a.esc then s.escalate a else s)

/-- DEFECT_FORWARD_RX (R195): a forward has been received, on the lane that leads to its sender. -/
def execDefectForwardRx (f : DefectForward) (s : State) : Host.Outcome State Fault Refusal :=
  .next (s.takeForward (.fabric (s.laneToward f.dev.toNat)) f)

/-! Enabling (R198). -/

/-- Whether the patch and ancilla set-up refuses an enable (R198). -/
def State.pdcRefuses (s : State) : Bool :=
  let ps := (List.range 64).filter (fun p => s.on (patchCfg_EN p))
  let named := ps.flatMap (fun p => (s.patchInputs p).map (fun i => (i.1, s.patchOwner p)))
  named.any (fun i => !s.on (pdcAnc_EN i.1) || named.any (fun j => j.1 == i.1 && j.2 != i.2))

/-- A write of PDC.CFG (R198). -/
def State.onPdcCfg (s : State) (new : Word) : State :=
  let was := s.on pdcCfg_EN
  let s' := s.setReg ⟨.pdcCfg, 0, 0, 0⟩ new
  if bitsOf new 0 1 = 1 ∧ !was then
    if s.pdcRefuses then (s'.put pdcCfg_EN false).put pdcStatus_ERR true
    else
      let s' := s'.each (List.range 64) (fun s p => s.wr (patchRound_ROUND p) 0)
      { s' with ancs := [], patchTick := [] }
  else s'

/-- A write of PDC.ANC or PDC.PATCH: refused while EN = 1 (R198). -/
def State.onPdcSetup (s : State) (r : Reg) (new : Word) : State :=
  if s.on pdcCfg_EN then s.put pdcStatus_CFG_REFUSED true else s.setReg r new

/-- A write of a table entry: undefined while EN = 1 (R198, 12 R353); it clears poison (12 R341). -/
def State.onPdcTable (s : State) (i : Nat) (new : Word) : State :=
  let s := { s with poison := s.poison.filter (fun p => decide (p ≠ (5, 0, i))) }
  let s := if s.on pdcCfg_EN then s.undefined 2 else s
  s.setReg ⟨.pdcTable, i, 0, 0⟩ new

/-- A write of DEC.CLEAR (R169). -/
def State.onDecClear (s : State) (bits : Word) : State :=
  s.clearSlots (bitsOf bits 0 12) (bitsOf bits 16 12)

/-- A write of MODE_DEC: 0b11 leaves the field (R199). -/
def State.onModeDec (s : State) (new : Word) : State :=
  if bitsOf new 0 2 = 3 then s else s.setReg ⟨.modeDec, 0, 0, 0⟩ new

/-- The snapshot of an owner's patches at a `shot.begin` (R196). -/
def State.patchSnap (s : State) (q : Thr) : PatchSnap :=
  let ps := (List.range 64).filter (fun p => s.on (patchCfg_EN p) && s.patchOwner p == q)
  { rounds := ps.map (fun p => (p, s.rd (patchRound_ROUND p))),
    ancs := ((ps.flatMap (fun p => (s.patchInputs p).map Prod.fst)).eraseDups).map (fun a => (a, s.anc a)) }

/-- The owner's patches take a new mode at its `shot.begin` (R199). -/
def State.takePatchModes (s : State) (q : Thr) : State :=
  s.each ((List.range 64).filter (fun p => s.patchOwner p == q)) (fun s p =>
    { s with patchMode := Tab.set s.patchMode p (s.rd modeDec_DEC) })

end Sys2Proof.Machine
end

