-- ==== Sys2Proof/Machine/Lanes.lean ====
section
/-! DEFINITION. The state of an Eswen lane: bring-up, loss, equaliser guards, markers, and the
writes of its set-up (07 R200, R210-R221, R225, R228). -/

namespace Sys2Proof.Machine

open Fld

/-! Changes of state (R210-R213). -/

/-- The lanes of the group or pair a lane belongs to that are in use (R220, R221). -/
def State.groupOf (s : State) (l : Nat) : List Nat :=
  let lead := s.leadLane l
  s.bondMembers lead ++ (s.copies lead).filter (fun m => s.rd (laneStatus_STATE m) != laneDisabled)

/-- Bulk and decision traffic of a lane that leaves Active: nothing of it is kept but whole messages
not yet begun (R236; DEDUCED, log entry 17). -/
def LaneRun.closed (x : LaneRun) : LaneRun :=
  { x with ready := [], force2 := [], replay := [], inq := [], nakTx := false, nakRx := false,
           outq := x.outq.dropWhile (fun p => !p.first), txSeq := 0, rxSeq := 0, bad := [], got := [] }

/-- A single lane enters a state other than Active; leaving Active pulses lane-down (R212), and DOWN goes
out for what was forwarded from the lane (R225). -/
def State.laneTo (s : State) (l st : Nat) : State :=
  let lead := s.leadLane l
  let up := s.laneUp l
  let was := s.laneActive lead
  let s := (s.wr (laneStatus_STATE l) st).putBit eswStatus_ACTIVE l false
  let s := s.modLane l (fun x =>
    { x with since := s.tick, goodMarks := 0, badMarks := 0, skewBad := false, missRun := 0, apart := false,
             measured := false })
  let s := if up then s.pulse (432 + l) else s
  if was && !s.laneActive lead then (s.modLane lead LaneRun.closed).tellDown lead else s

/-- The other lanes of an Active bonded group (R220). -/
def State.bondMates (s : State) (l : Nat) : List Nat :=
  if s.laneUp l && s.laneMode l != 1 then (s.bondMembers (s.leadLane l)).filter (fun m => m != l && s.laneUp m)
  else []

/-- A lane enters a state other than Active. The other lanes of its bonded group leave Active with it: for
Align or Lock the same state, else Lock with LOST set, as at loss of the group (R220; DEDUCED, log entry 119). -/
def State.toLaneState (s : State) (l st : Nat) : State :=
  let mates := s.bondMates l
  let s := s.laneTo l st
  if st = laneAlign ∨ st = laneLock then s.each mates (fun s m => s.laneTo m st)
  else s.each mates (fun s m => (s.laneTo m laneLock).put (laneStatus_LOST m) true)

/-- A lane enters Quiet for a reason (R210, R211). -/
def State.toQuiet (s : State) (l reason : Nat) : State :=
  (s.toLaneState l laneQuiet).wr (laneStatus_QUIET_REASON l) reason

/-- A lane enters Detect, where its CFG comes into force (R213). -/
def State.toDetect (s : State) (l : Nat) : State :=
  let s := s.toLaneState l laneDetect
  s.modLane l (fun x => { x with cfg := s.reg ⟨.laneCfg, l, 0, 0⟩ })

/-- A lane enters Disabled (R213); leaving Quiet this way doubles the backoff as well (R211). -/
def State.toDisabled (s : State) (l : Nat) : State :=
  let quiet := s.rd (laneStatus_STATE l) == laneQuiet
  let s := s.toLaneState l laneDisabled
  s.modLane l (fun x => { x with cfg := s.reg ⟨.laneCfg, l, 0, 0⟩,
                                 backoff := if quiet then min 1024 (2 * x.backoff) else x.backoff })

/-- A lane enters Active (R210-R212, R225): lane-up pulses, its marks are cleared, and UP goes out
when the group or pair has become Active. -/
def State.toActive (s : State) (l : Nat) : State :=
  let lead := s.leadLane l
  let was := s.laneActive lead
  let s := ((s.wr (laneStatus_STATE l) laneActiveSt).wr (laneStatus_QUIET_REASON l) 0).putBit
    eswStatus_ACTIVE l true
  let s := (s.wr (laneStatus_DOWN_DEVS l) 0).pulse (400 + l)
  let s := s.modLane l (fun x => { x with since := s.tick, backoff := 1, lockFails := 0, missRun := 0,
                                          badMarks := 0, down := [], marks := [] })
  if !was && s.laneActive lead then
    let s := s.modLane lead LaneRun.closed
    (((s.wr (laneStatus_DOWN_DEVS lead) 0).modLane lead (fun x => { x with down := [], marks := [] }))).tellUp lead
  else s

/-- A write of a lane's CFG (R210, R213). -/
def State.onLaneCfg (s : State) (l : Nat) (new : Word) : State :=
  let s := s.setReg ⟨.laneCfg, l, 0, 0⟩ new
  if bitsOf new 0 1 = 0 then
    if s.rd (laneStatus_STATE l) = laneDisabled then s.modLane l (fun x => { x with cfg := new })
    else s.toDisabled l
  else if s.rd (laneStatus_STATE l) = laneDisabled ∧ !s.dormant then s.toDetect l
  else s

/-- Entry into Dormant disables every lane; leaving it, enabled lanes go to Detect (R210). -/
def State.lanesDormant (s : State) : State :=
  s.each (List.range 32) (fun s l =>
    if s.rd (laneStatus_STATE l) = laneDisabled then s else s.toDisabled l)
def State.lanesWake (s : State) : State :=
  s.each (List.range 32) (fun s l =>
    if s.rd (laneStatus_STATE l) ≠ laneDisabled then s
    else if s.on (laneCfg_EN l) then s.toDetect l
    else s.modLane l (fun x => { x with cfg := s.reg ⟨.laneCfg, l, 0, 0⟩ }))

/-- DOWN or UP for this device itself on every Active lane (R228). -/
def State.tellSelf (s : State) (up : Bool) : State :=
  s.each ((List.range 32).filter (fun l => s.leadLane l == l && s.laneActive l)) (fun s l =>
    s.sendDevice l up (s.rd eswId_DEV))

/-- Forest time is loaded while valid: lanes in Exchange or Active enter Align; their buffers are
cleared, and entries in flight are discarded (R219). -/
def State.realignLanes (s : State) : State :=
  s.each (List.range 32) (fun s l =>
    let st := s.rd (laneStatus_STATE l)
    if st = laneExchange ∨ st = laneActiveSt then
      let s := s.laneTo l laneAlign
      let s := s.modLane l (fun x => { x.closed with outq := [] })
      { s with deliveries := s.deliveries.filter (fun d => d.lane != s.leadLane l) }
    else s)

/-! Bring-up (R210, R211). -/

/-- LANE_LOSS_OF_SIGNAL (R210). -/
def execLaneLossOfSignal (l : BitVec 5) (s : State) : Host.Outcome State Fault Refusal :=
  let st := s.rd (laneStatus_STATE l.toNat)
  if st = laneDisabled ∨ st = laneQuiet ∨ st = laneDetect then .next s
  else .next (s.toDetect l.toNat)

/-- LANE_DETECT (R210): a far-end receiver is detected; a signal has been received for 10 us, or
none arrived within 10 ms. -/
def execLaneDetect (l : BitVec 5) (signal : Bool) (s : State) : Host.Outcome State Fault Refusal :=
  let l := l.toNat
  if s.rd (laneStatus_STATE l) ≠ laneDetect then .next s
  else if signal then
    .next ((s.toLaneState l laneTrain).modLane l (fun x => { x with lockFails := 0 }))
  else .next (s.toQuiet l 1)

/-- The presets of the transmit FIR: pre-cursor and post-cursor in tenths of a dB (R214). -/
def presetCursors (preset : Nat) : Int × Int :=
  [(0, 0), (0, -25), (0, -45), (0, -60), (-15, -35), (-20, -60), (-30, -75), (-35, -95)].getD (preset % 8) (0, 0)

/-- The cursors of a lane's transmitter, by the preset agreed in Train (R214). -/
def State.laneFir (s : State) (l : Nat) : Int × Int := presetCursors (s.rd (laneEq_PRESET l))

/-- LANE_TRAINED (R210, R214, R215): adaptation has converged with the given taps and CTLE step, and
the far end has chosen a preset; the snapshot is taken. -/
def execLaneTrained (l : BitVec 5) (preset : BitVec 3) (ctle : BitVec 4) (taps : Vector Int 12) (s : State) :
    Host.Outcome State Fault Refusal :=
  let l := l.toNat
  if s.rd (laneStatus_STATE l) ≠ laneTrain then .next s
  else
    let s := ((s.wr (laneEq_PRESET l) preset.toNat).wr (laneEq_CTLE l) ctle.toNat).toLaneState l laneLock
    .next (s.modLane l (fun x =>
      { x with taps := taps, snap := taps, snapCtle := ctle.toNat, calm := true }))

/-- LANE_LOCKED (R206, R210): CDR lock and 64 valid training headers; the descrambler is loaded with
the state at the next slot. -/
def execLaneLocked (l : BitVec 5) (scr : BitVec 31) (s : State) : Host.Outcome State Fault Refusal :=
  let l := l.toNat
  if s.rd (laneStatus_STATE l) ≠ laneLock then .next s
  else .next ((s.toLaneState l laneAlign).modLane l (fun x => { x with lockFails := 0, rxScr := scr }))

/-- Whether a lane's group or pair has a size that may come up (R220). -/
def State.groupSized (s : State) (l : Nat) : Bool :=
  let n := (s.bondMembers (s.leadLane l)).length
  n == 1 || n == 2 || n == 4

/-- LANE_ALIGNED (R210, R218, R220): two valid markers in a row, the whole group in Align or beyond,
and its skew, in ps, within 16 ns. -/
def execLaneAligned (l : BitVec 5) (skew : BitVec 20) (s : State) : Host.Outcome State Fault Refusal :=
  let l := l.toNat
  if s.rd (laneStatus_STATE l) ≠ laneAlign ∨ (s.lane l).goodMarks < 2 ∨ !s.groupSized l
      ∨ (s.groupOf l).any (fun m => decide (s.rd (laneStatus_STATE m) < laneAlign)
          || s.rd (laneStatus_STATE m) == laneQuiet) then .next s
  else if 16000 < skew.toNat then .next (s.modLane l (fun x => { x with skewBad := true }))
  else .next (s.toLaneState l laneExchange)

/-- The hop latency of a flight in ps (R218). -/
def hopLatency (flight : Nat) : Nat := 36 + (flight + 999) / 1000

/-- The one-way flight in ps: the round trips of the 64 exchanges less the fixed internal delays, in 1/256
tick, halved (R218); to the nearest ps (DESIGN CHOICE, log entry 120). -/
def flightOf (trips : Nat) : Nat := min 0xFFFF ((trips * 1000 + 16384) / 32768)

/-- Whether a lane is on its way through Align or Exchange and its flight not yet known. -/
def State.laneAligning (s : State) (l : Nat) : Bool :=
  let st := s.rd (laneStatus_STATE l)
  st == laneAlign || (st == laneExchange && !(s.lane l).measured)

/-- The lanes of a group or pair leave Exchange together, when the flight of each that is on its way is known:
L is that of the largest flight, and that of an Active mate of a pair does not change (R218, R220, R221;
DEDUCED, log entry 120). -/
def State.exchangeEnd (s : State) (l : Nat) : State :=
  let g := if (s.groupOf l).contains l then s.groupOf l else [l]
  if !(s.lane l).measured || g.any s.laneAligning then s
  else
    let new := g.filter (fun m => (s.lane m).measured)
    let lat := match if (s.copies (s.leadLane l)).isEmpty then none else g.find? s.laneUp with
      | some m => s.laneLat m
      | none => hopLatency (((g.filter (fun m => (s.lane m).measured || s.laneUp m)).map
          (fun m => s.rd (laneStatus_FLIGHT m))).foldl max 0)
    s.each new (fun s m => ((s.wr (laneStatus_LAT m) lat).modLane m (fun x => { x with measured := false })).toActive m)

/-- LANE_EXCHANGED (R210, R218, R220, R221): the partner's identity and the flight are known.  Lanes of one
group that reach different partners, and a partner with this device's number, are undefined (R353 U6, U4). -/
def execLaneExchanged (l : BitVec 5) (dev : BitVec 11) (lane : BitVec 5) (trips : BitVec 32) (s : State) :
    Host.Outcome State Fault Refusal :=
  let l := l.toNat
  if s.rd (laneStatus_STATE l) ≠ laneExchange then .next s
  else
    let s := ((s.wr (laneStatus_PARTNER_DEV l) dev.toNat).wr (laneStatus_PARTNER_LANE l) lane.toNat).wr
      (laneStatus_FLIGHT l) (flightOf trips.toNat)
    let cfg := (s.lane l).cfg
    if bitsOf cfg 8 1 = 1 ∧ (bitsOf cfg 16 11 ≠ dev.toNat ∨ bitsOf cfg 27 5 ≠ lane.toNat) then
      finish (s.toQuiet l 6)
    else
      let mates := (s.groupOf l).filter (fun m => m != l && (s.laneUp m || (s.lane m).measured))
      let s := if dev.toNat = s.rd eswId_DEV then s.undefined 4 else s
      let s := if mates.any (fun m => s.rd (laneStatus_PARTNER_DEV m) != dev.toNat) then s.undefined 6 else s
      finish ((s.modLane l (fun x => { x with measured := true })).exchangeEnd l)

/-- The time limit of a state, in ticks (R210). -/
def laneLimit (st : Nat) : Option Nat :=
  if st = laneTrain then some 100000000
  else if st = laneLock then some 1000000
  else if st = laneAlign then some 131072
  else if st = laneExchange then some 1000000
  else none

/-- Whether a lane has been too long in its state. -/
def State.laneOverdue (s : State) (l : Nat) : Bool :=
  match laneLimit (s.rd (laneStatus_STATE l)) with
  | some n => decide ((s.lane l).since + n ≤ s.tick) && !(s.lane l).measured
  | none => false

/-- LANE_STATE_TIMEOUT (R210). -/
def execLaneStateTimeout (l : BitVec 5) (s : State) : Host.Outcome State Fault Refusal :=
  let l := l.toNat
  let st := s.rd (laneStatus_STATE l)
  if !s.laneOverdue l then .next s
  else if st = laneTrain then .next (s.toQuiet l 2)
  else if st = laneLock then
    let n := (s.lane l).lockFails + 1
    let s := s.modLane l (fun x => { x with lockFails := n % 3 })
    .next (if n < 3 then s.toLaneState l laneTrain else s.toQuiet l 3)
  else if st = laneAlign then .next (s.toQuiet l (if (s.lane l).skewBad then 7 else 4))
  else .next (s.toQuiet l 5)

/-- Whether the backoff of a lane in Quiet has ended (R211). -/
def State.quietOver (s : State) (l : Nat) : Bool :=
  s.rd (laneStatus_STATE l) == laneQuiet
    && decide ((s.lane l).since + (s.lane l).backoff * 1000000 ≤ s.tick)

/-- QUIET_BACKOFF_END (R210, R211): back to Detect; the next backoff is twice as long. -/
def execQuietBackoffEnd (l : BitVec 5) (s : State) : Host.Outcome State Fault Refusal :=
  let l := l.toNat
  if s.quietOver l then
    .next ((s.toDetect l).modLane l (fun x => { x with backoff := min 1024 (2 * x.backoff) }))
  else .next s

/-- TRAINING_STITCH_RX (R210). -/
def execTrainingStitchRx (l : BitVec 5) (s : State) : Host.Outcome State Fault Refusal :=
  let st := s.rd (laneStatus_STATE l.toNat)
  if st = laneAlign ∨ st = laneExchange ∨ st = laneActiveSt then .next (s.toLaneState l.toNat laneLock)
  else .next s

/-! Loss (R220, R221, R228). -/

/-- A lane declares loss: it leaves Active for Lock and LOST sets; loss on a bonded lane is loss of
its group. -/
def State.declareLoss (s : State) (l : Nat) : State :=
  let ls := if s.laneUp l then l :: s.bondMates l else []
  s.each ls (fun s m => (s.laneTo m laneLock).put (laneStatus_LOST m) true)

/-- LANE_LOSS (R228): eight slots in a row without a valid or correctable stitch. -/
def execLaneLoss (l : BitVec 5) (s : State) : Host.Outcome State Fault Refusal :=
  if s.laneUp l.toNat && decide (8 ≤ (s.lane l.toNat).missRun) then .next (s.declareLoss l.toNat)
  else .next s

/-! Equaliser guards (R215). -/

/-- EQ_GUARD_PERIOD (R215): the transitions and slicer errors of the last 65,536 UI, and the CTLE step
and taps the adaptation has reached, unless it was frozen for the period. -/
def execEqGuardPeriod (l : BitVec 5) (transitions exc : BitVec 17) (ctle : BitVec 4) (taps : Vector Int 12)
    (s : State) : Host.Outcome State Fault Refusal :=
  let l := l.toNat
  let x := s.lane l
  let d := s.rd (laneEq_DENS_MIN l)
  let e := s.rd (laneEq_EXC_MIN l)
  let frozen := s.on (laneEq_FROZEN l)
  let taps := if frozen then x.taps else taps
  let ctle := if frozen then s.rd (laneEq_CTLE l) else ctle.toNat
  let act := decide (d * 256 ≤ transitions.toNat) && decide (e ≤ exc.toNat)
  let low := decide (transitions.toNat < 2 * (d * 256)) || decide (exc.toNat < 2 * e)
  let drift := (taps.toList.zip x.snap.toList).any (fun p => decide (s.rd (laneEq_DRIFT_LIM l) < (p.1 - p.2).natAbs))
  let s := s.put (laneEq_FROZEN l) (!act && !s.on (laneEq_FREEZE_DIS l))
  if low && !s.on (laneEq_GUARD_DIS l) && drift then
    .next (((s.wr (laneEq_CTLE l) x.snapCtle).bump (laneCounts1_RESTORES l)).setLane l
      { x with taps := x.snap, calm := x.calm && act })
  else .next ((s.wr (laneEq_CTLE l) ctle).setLane l { x with taps := taps, calm := x.calm && act })

/-! Received slots. -/

/-- The header of a received stitch as decoded: its TYPE, and the stitch with a single-bit error of its header
corrected; none for a double-bit error (R204). -/
def openHeader (w : Nat) : Option (Nat × Nat × Nat) :=
  (headerType (w % 256)).map (fun t =>
    (t, w / 256 * 256 + headerOf t, if headerOf t = w % 256 then 0 else 1))

/-- Bits corrected on a lane: CORR_BITS, the ERRCNT of the next marker, and the equaliser's guard (R205, R215,
R216). -/
def State.correctedBits (s : State) (l k : Nat) : State :=
  (s.bumpBy (laneCounts0_CORR_BITS l) k).modLane l (fun x =>
    { x with errCnt := x.errCnt + k, calm := x.calm && k == 0 })

/-- A slot has been received on a lane: the descrambler moves past it (R206). -/
def State.slotPassed (s : State) (l : Nat) : State :=
  s.modLane l (fun x => { x with rxScr := (prbsSlot x.rxScr).2, rxSlot := x.rxSlot + 1 })

/-- Whether the window of a sender slot is invalid or incomplete on a lane, group or pair (R221,
R227). -/
def State.windowBad (s : State) (lead n : Nat) : Bool :=
  if (s.copies lead).isEmpty then (s.bondMembers lead).any (fun m => (s.lane m).bad.contains n)
  else (lead :: s.copies lead).all (fun m => !s.laneUp m || (s.lane m).bad.contains n)

/-- Each outgoing stitch that would have carried forwards from a window is sent with TYPE 0x2
(R225). -/
def State.forceForwards (s : State) (lead n : Nat) : State :=
  let w := slotWindow n
  let slots := ((List.range w.2).map (fun (i : Nat) => slotOf (w.1 + i + s.laneLat lead).toNat)).eraseDups
  s.each (s.forwardLanes lead none) (fun s o =>
    s.modLane (s.leadLane o) (fun x => { x with force2 := x.force2 ++ slots }))

/-- The window of slot n on a physical lane is bad; bulk slots have no window. -/
def State.markBad (s : State) (l n : Nat) : State :=
  let lead := s.leadLane l
  let s := s.modLane l (fun x => { x with bad := (n :: x.bad).take 64 })
  if n % 4 ≠ 3 ∧ s.windowBad lead n then s.forceForwards lead n else s

/-- A slot of an Active lane passes without a valid or correctable stitch (R228). -/
def State.slotMissed (s : State) (l : Nat) : State :=
  (s.modLane l (fun x => { x with missRun := x.missRun + 1 })).markBad l (s.lane l).rxSlot

/-- A bad marker: two in a row take the lane to Align (R217). -/
def State.badMarker (s : State) (l : Nat) : State :=
  let s := s.bump (laneCounts2_MARKER_ERR l)
  let s := s.modLane l (fun x => { x with badMarks := x.badMarks + 1, calm := true })
  if 2 ≤ (s.lane l).badMarks then s.toLaneState l laneAlign else s

/-- A slot of an Active lane holds no valid or correctable stitch; in a marker slot the marker is
missing (R217, R228). -/
def State.slotInvalid (s : State) (l : Nat) : State :=
  let marker := (s.lane l).rxSlot % 4096 == 4095
  let s := ((s.bump (laneCounts1_MISSING l)).slotMissed l).slotPassed l
  if marker then s.badMarker l else s

/-- STITCH_SLOT_INVALID (R204, R217, R228): a slot passes with no valid or correctable stitch. -/
def execStitchSlotInvalid (l : BitVec 5) (s : State) : Host.Outcome State Fault Refusal :=
  let l := l.toNat
  let marker := (s.lane l).rxSlot % 4096 == 4095
  let st := s.rd (laneStatus_STATE l)
  if st = laneActiveSt then .next (s.slotInvalid l)
  else if st = laneAlign then
    .next ((s.slotPassed l).modLane l (fun x => { x with goodMarks := if marker then 0 else x.goodMarks }))
  else if st = laneExchange then .next (s.slotPassed l)
  else .next s

/-- A marker received from the parent: t_r − t_s, at 1/256 tick (R45, R216). -/
def State.skewReceived (s : State) (l : Nat) (sent arrival : Int) : State :=
  if s.skewOn l && decide (s.skewRun.received < s.skewMarkers) then
    { s with skewRun := { s.skewRun with received := s.skewRun.received + 1,
                                         down := s.skewRun.down + (arrival - sent) } }
  else s

/-- What follows from a good marker in Active: the two ends' forest times are compared, and the
equaliser's snapshot is taken at the end of a calm period (R215, R217). -/
def State.goodMarker (s : State) (l : Nat) (w : Nat) (arrival : Word) (frac : BitVec 8) : State :=
  let s := s.skewReceived l (256 * (w / 2 ^ 8 % 2 ^ 64)) (256 * arrival.toNat + frac.toNat)
  let x := s.lane l
  let d := dist64 arrival (BitVec.ofNat 64 (w / 2 ^ 8 % 2 ^ 64 + s.laneLat l))
  let both := w.testBit 88 && s.on timeStatus_FT_VALID
  let apart := both && decide (1 < d.natAbs)
  let s := s.setLane l { x with badMarks := 0, missRun := 0, calm := true, apart := apart,
                                snap := if x.calm then x.taps else x.snap,
                                snapCtle := if x.calm then s.rd (laneEq_CTLE l) else x.snapCtle }
  if apart then (s.bump (laneCounts2_FT_MISMATCH l)).pulse (464 + l) else s

/-- MARKER_RX (R204, R216, R217): a marker with the time of its arrival at 1/256 tick, as the receiver takes it; a
header with one bit in error is corrected first. In
Align two good ones in a row are asked for; in Active a bad one is counted. -/
def execMarkerRx (l : BitVec 5) (wire : BitVec 256) (arrival : Word) (frac : BitVec 8)
    (s : State) :
    Host.Outcome State Fault Refusal :=
  let l := l.toNat
  let st := s.rd (laneStatus_STATE l)
  let w := wire.toNat
  if st < laneAlign ∨ laneActiveSt < st then .next s
  else
    let x := s.lane l
    let head := (openHeader w).filter (fun h => h.1 == 5)
    let crc := head.any (fun h => crcGood h.2.1)
    let s := match head with
      | some h => if crc && st == laneActiveSt then s.correctedBits l h.2.2 else s
      | none => s
    let scr := decide (BitVec.ofNat 31 (w / 2 ^ 112) = (prbsSlot x.rxScr).2)
    let slot := if crc then w / 2 ^ 8 % 2 ^ 64 / 8 else x.rxSlot
    let s := if crc then s else s.bump (laneCounts0_CRC_ERR l)
    let s := if crc ∨ st ≠ laneActiveSt then s else s.slotMissed l
    let s := (s.slotPassed l).modLane l (fun y => { y with rxSlot := slot + 1, missRun := if crc then 0 else y.missRun })
    if st = laneActiveSt then .next (if crc && scr then s.goodMarker l w arrival frac else s.badMarker l)
    else .next (s.modLane l (fun y => { y with goodMarks := if crc && scr then y.goodMarks + 1 else 0 }))

/-! Expectation timers (R226). -/

/-- The absolute tick of a 48-bit tick (R49). -/
def State.absTick (s : State) (v : Nat) : Int := (s.ft.toNat : Int) + dist48 (BitVec.ofNat 64 v) s.ft

/-- An expectation timer starts from k = 0 (R226). -/
def State.startExp (s : State) (e : Nat) : State :=
  { s with exps := Tab.set s.exps e { origin := s.absTick (s.rd (eswExp0_ORIGIN e)) } }

/-- A write of ORIGIN, or of the second word (R226). -/
def State.onExp0 (s : State) (e : Nat) (new : Word) : State :=
  let s := s.setReg ⟨.eswExp0, e, 0, 0⟩ new
  if s.on (eswExp1_EN e) then s.startExp e else s

/-- A write of the second word: the timer starts when EN is set, and afresh when PERIOD or COUNT is
written while EN = 1; each half of the word holds a part of COUNT (R226). -/
def State.onExp1 (s : State) (e : Nat) (new : Word) : State :=
  let s := s.setReg ⟨.eswExp1, e, 0, 0⟩ new
  if s.on (eswExp1_EN e) then s.startExp e else s

/-- The number of ticks a timer yields: ORIGIN only with PERIOD 0; none for no bound. -/
def State.expCount (s : State) (e : Nat) : Option Nat :=
  if s.rd (eswExp1_PERIOD e) = 0 then some 1
  else if s.rd (eswExp1_COUNT e) = 0 then none else some (s.rd (eswExp1_COUNT e))

/-- One tick of an expectation timer: ticks past, or falling while its anchor is Idle, are passed
over. -/
def State.expTick (s : State) (e : Nat) (x : ExpRun) : ExpRun :=
  let p := s.rd (eswExp1_PERIOD e)
  let now : Int := s.ft.toNat
  let next := x.origin + x.k * p
  let behind := (now - next).toNat
  let skip := if p = 0 then (if behind = 0 then 0 else 1) else (behind + p - 1) / p
  let k := x.k + skip
  let beyond := match s.expCount e with | some c => decide (c ≤ k) | none => false
  if beyond then { x with k := k }
  else if x.origin + k * p = now then
    if (s.thread ⟨s.rd (eswExp1_ANC_T e), s.rd (eswExp1_ANC_H e)⟩).st = .idle then { x with k := k + 1 }
    else { x with k := k + 1, done := min 0xFFFF (x.done + 1), hit := some s.tick }
  else { x with k := k }

/-- NEXT and DONE (07, ESW.EXP). -/
def State.expView (s : State) (e : Nat) : Word :=
  let x := Tab.get s.exps e {}
  BitVec.ofNat 64 (((x.origin + x.k * s.rd (eswExp1_PERIOD e)) % 2 ^ 48).toNat + x.done * 2 ^ 48)

/-- The timers anchored on a thread move by a pause shift (R226). -/
def State.shiftExpTimers (s : State) (q : Thr) (d : Nat) : State :=
  s.each (s.exps.filter (fun p => s.rd (eswExp1_ANC_T p.1) == q.tile && s.rd (eswExp1_ANC_H p.1) == q.idx))
    (fun s p =>
      let x : ExpRun := { p.2 with origin := p.2.origin + d }
      { s with exps := Tab.set s.exps p.1 x }.wr (eswExp0_ORIGIN p.1) (s.rd (eswExp0_ORIGIN p.1) + d))

/-- The timers' positions, for a checkpoint of threads (R226). -/
def State.expTimersOf (s : State) (qs : List Thr) : List (Nat × Nat) :=
  (s.exps.filter (fun p => qs.contains ⟨s.rd (eswExp1_ANC_T p.1), s.rd (eswExp1_ANC_H p.1)⟩)).map
    (fun p => (p.1, p.2.k))

/-! Deliveries and expectations (R224, R227). -/

/-- What the fabric does at the start of a tick: lanes that waited in Exchange for a mate go on, due
deliveries are written, expectation timers move. -/
def State.fabricTick (s : State) : State :=
  let s := s.each ((List.range 32).filter (fun l => (s.lane l).measured)) (fun s l => s.exchangeEnd l)
  let due := s.deliveries.filter (fun d => decide (d.tick ≤ s.tick))
  let s := { s with deliveries := s.deliveries.filter (fun d => decide (s.tick < d.tick)),
                    delivered := due.map (fun (d : Delivery) => (d.lane, d.entry)) }
  let s := s.each due (fun s d => s.writeSlot d.slot d.word (.fabric d.lane) none)
  { s with exps := s.exps.map (fun (p : Nat × ExpRun) =>
      (p.1, if s.on (eswExp1_EN p.1) then s.expTick p.1 p.2 else p.2)) }

/-- A word as a receive entry writes it (R224, R227). -/
def State.rxWord (s : State) (l r value : Nat) (time : Word) (amb anom fa : Bool) (status : Nat) : Word :=
  decisionWord value time amb anom fa status (s.rd (rxr0_KIND l r)) (s.rd (rxr0_SRC_TILE l r))
    (s.rd (rxr0_SRC_DEV l r))

/-- Whether a receive entry's decision is due in this tick (R226). -/
def State.expected (s : State) (l r : Nat) : Bool :=
  s.on (rxr0_EN l r) && s.on (rxr0_DLV l r) &&
    (match s.rd (rxr1_EXP l r) with
     | 1 => s.threads.any (fun p => match p.2.waitingOn with
         | some (.dec _ n _ ref) => n == s.rd (rxr0_SLOT l r)
             && ref + BitVec.ofNat 64 (s.rd (rxr1_EXP_OFF l r)) == s.ft
         | _ => false)
     | 2 => (Tab.get s.exps (s.rd (rxr1_EXP_SEL l r)) {}).hit == some s.tick
     | _ => false)

/-- EXPECTATION_TICK (R227): an expected tick without a delivery of the entry. -/
def execExpectationTick (l : BitVec 5) (r : BitVec 9) (s : State) : Host.Outcome State Fault Refusal :=
  let l := l.toNat
  let r := r.toNat
  if !s.expected l r || s.delivered.contains (l, r) then .next s
  else
    let s := { s with delivered := (l, r) :: s.delivered }
    let lat := s.laneLat l
    let time := s.ft - BitVec.ofNat 64 (s.rd (rxr1_PRE l r) + lat)
    let put (st : Nat) : State := s.writeSlot (s.rd (rxr0_SLOT l r))
      (s.rxWord l r 0 time false false false st) (.fabric l) none
    if !s.laneActive l || (s.lane l).down.contains (s.rd (rxr0_SRC_DEV l r)) then .next (put 1)
    else if s.windowBad l (slotOf (s.ft.toNat - lat)) then
      let s := put 2
      .next { s with lostNow := (s.rd (rxr0_SLOT l r), l) :: s.lostNow }
    else .next (s.bump (laneCounts2_NOSHOW l))

/-! Transmit entries (R222) and receive entries (07, ESW.RXR). -/

/-- The decisions written in this tick by local sources are sent by the TXR entries that name their
slots; a send outside the shot's group ends its replayability (R222, 12 R344). -/
def State.sendDecisions (s : State) : State :=
  s.each (s.writtenNow.filter (fun e => decide (e.2.rank < 3000) && statusOf e.2.word == 0)) (fun s e =>
    s.each (s.txEntries e.1) (fun s i =>
      let lane := s.rd (txr_LANE i)
      let s := match e.2.shot with
        | some id => match s.shotById id with
          | some x => if s.outsideGroup x lane then s.notReplayable (some id) else s
          | none => s
        | none => s
      let lead := s.leadLane lane
      if s.laneActive lead then
        s.readyOn lead { cls := 1, key := i, ready := s.tick,
                         bits := decisionEntry (s.rd (txr_ROUTE i)) e.2.word }
      else s))

/-- Word 1 is staged (07, ESW.RXR). -/
def State.onRxr1 (s : State) (l r : Nat) (new : Word) : State :=
  { s with rxrStage := Tab.set s.rxrStage (l, r) new }

/-- Word 0 commits both words; stitches of windows that have begun meet the entry as it was. -/
def State.onRxr0 (s : State) (l r : Nat) (new : Word) : State :=
  let w0 := s.reg ⟨.rxr0, l, r, 0⟩
  let w1 := s.reg ⟨.rxr1, l, r, 0⟩
  let old := ((s.ft, w0, w1) :: Tab.get s.rxrOld (l, r) []).take 8
  let s := { s with rxrOld := Tab.set s.rxrOld (l, r) old }
  (s.setReg ⟨.rxr0, l, r, 0⟩ new).setReg ⟨.rxr1, l, r, 0⟩ (Tab.get s.rxrStage (l, r) w1)

/-- The words of a receive entry for the stitch of a slot. -/
def State.rxrFor (s : State) (l r n : Nat) : Word × Word :=
  let late := (Tab.get s.rxrOld (l, r) []).filter (fun o =>
    decide ((slotWindow n).1 ≤ (o.1.toNat : Int)) && decide ((o.1.toNat : Int) ≤ (slotWindow n).1 + 512))
  match late.getLast? with
  | some o => o.2
  | none => (s.reg ⟨.rxr0, l, r, 0⟩, s.reg ⟨.rxr1, l, r, 0⟩)

end Sys2Proof.Machine
end

