-- ==== Sys2Proof/Machine/Flux.lean ====
section
/-! DEFINITION. The fast-flux channels: the chain, its banks, the samples of a tick, and the fitting
run (08 R251-R260). -/

namespace Sys2Proof.Machine

open Fld

/-! The chain (R253, R254). -/

/-- A number limited to ±b, and whether it was. -/
def limitPm (b x : Rat) : Rat × Bool := if b < x then (b, true) else if x < -b then (-b, true) else (x, false)

/-- One section: its state and its output (R253). -/
def sectionStep (w : Word) (droop : Bool) (st u : Rat) : Rat × Rat :=
  let a : Rat := (bitsOf w 0 32 : Nat) / 2 ^ 32
  let b : Rat := (signedOf 32 (bitsOf w 32 32) : Int) / 2 ^ 24
  let st' := a * st + (1 - a) * u
  (st', u + b * (st' - (if droop then 0 else u)))

/-- Section i of a bank's chain, if enabled: the sections' states, the value passed on, and the
samples limited so far. -/
def FluxBank.section (k : FluxBank) (p : List Rat × Rat × Nat) (i : Nat) : List Rat × Rat × Nat :=
  if (bitsOf k.chain 0 4).testBit i then
    let r := sectionStep (k.secs.getD i 0) ((bitsOf k.chain 4 4).testBit i) (p.1.getD i 0) p.2.1
    let v := limitPm 8 r.2
    (p.1.set i r.1, v.1, p.2.2 + (if v.2 then 1 else 0))
  else p

/-- FIR tap n of a bank, in units of 1.0 (R253). -/
def FluxBank.tap (k : FluxBank) (n : Nat) : Rat :=
  (signedOf 16 (bitsOf (k.fir.getD (n / 4) 0) (16 * (n % 4)) 16) : Int) / 2 ^ 14

/-- The FIR over a history, latest first. -/
def FluxBank.firOf (k : FluxBank) (h : List Rat) : Rat :=
  (h.zip ((List.range 64).map k.tap)).foldl (fun y p => y + p.1 * p.2) 0

/-- The output code of y, and whether it saturates (R254). -/
def FluxBank.codeOf (k : FluxBank) (y : Rat) : Int × Bool :=
  let off := max (-8192) (min 8191 (signedOf 16 (bitsOf k.chain 32 16)))
  let g : Rat := (bitsOf k.chain 16 16 : Nat) / 2 ^ 15
  let c := roundAway (8192 * g * y) + off
  (max (-8192) (min 8191 c), decide (c < -8192) || decide (8191 < c))

/-- One sample through the chain: the run with its states and code, the samples limited, and whether
the code saturates. -/
def FluxRun.sample (r : FluxRun) (x : Rat) : FluxRun × Nat × Bool :=
  let p := (List.range 4).foldl r.bank.section (r.secs, x, 0)
  let h := (p.2.1 :: r.hist).take 64
  let y := if bitsOf r.bank.chain 8 1 = 1 then limitPm 8 (r.bank.firOf h) else (p.2.1, false)
  let c := r.bank.codeOf y.1
  ({ r with secs := p.1, hist := h, x := x, codes := r.codes ++ [c.1], sq := r.sq + c.1.natAbs ^ 2 },
   p.2.2 + (if y.2 then 1 else 0), c.2)

/-! The input (R251, R252, R258). -/

/-- The level of a channel. -/
def State.fluxLevel (s : State) (t k : Nat) : Rat := (s.rdS (fluxLvl_LVL t k) : Int) / 2 ^ 15

/-- Sample n of a flux pattern, as read at its read tick, times its scale (R252; 04 R107, R114). -/
def State.fluxSample (s : State) (p : Playing) (n : Nat) : Rat :=
  let e := signedOf 16 (s.envSample p.tgt p.start p.body n).toNat
  ((e : Int) : Rat) / 2 ^ 15 * ((signedOf 16 p.body.scale.toNat : Int) / 2 ^ 15)

/-- The input of a channel at a sample instant, and its ramp after it. -/
def State.fluxInput (s : State) (t k instant : Nat) (r : FluxRun) : Rat × Option (Nat × Rat) :=
  match s.plays.find? (fun p => p.tgt == .flux t k && decide (p.start ≤ instant) && decide (instant ≤ p.last)) with
  | some p => (s.fluxSample p ((instant - p.start) / 8), none)
  | none =>
      let lvl := s.fluxLevel t k
      match r.ramp with
      | none => (lvl, none)
      | some (n, v) => (v + (lvl - v) * ((n + 1 : Nat) : Rat) / 32, if n + 1 < 32 then some (n + 1, v) else none)

/-- Whether a flux channel converts (R256). -/
def State.fluxOn (s : State) (t k : Nat) : Bool :=
  s.on (fluxCtrl_ENABLE t k) && s.active && s.bitAt dieStatus_QREADY (t / 4)

/-- The flux channels that are enabled, or have anything to hold. -/
def State.fluxChannels (s : State) : List (Nat × Nat) :=
  (s.regs.filterMap (fun p => if p.1.name = .fluxCtrl then some (p.1.i, p.1.j) else none)
    ++ s.fluxRuns.map Prod.fst).eraseDups

/-- The sample of one channel at an instant: code zero while it does not convert (R253-R256). -/
def State.fluxStep (s : State) (instant : Nat) (g : Nat × Nat) : State :=
  let t := g.1
  let k := g.2
  let r := s.fluxRun t k
  let x := s.fluxInput t k instant r
  let r := { r with ramp := x.2 }
  if !s.fluxOn t k then
    s.setFluxRun t k { r with x := x.1, secs := [0, 0, 0, 0], hist := [], codes := r.codes ++ [0] }
  else
    let p := r.sample x.1
    let s := (s.setFluxRun t k p.1).bumpBy (fluxIsat_COUNT t k) p.2.1
    if p.2.2 then ((s.bump (fluxClip_COUNT t k)).put (fluxCtrl_CLIPPED t k) true).pulse (272 + t) else s

/-- The flux patterns whose last sample lies before an instant end, and may hold (R252). -/
def State.endFlux (s : State) (instant : Nat) : State :=
  s.each (s.plays.filter (fun p => p.tgt.isFlux && decide (p.last < instant))) (fun s p =>
    { s with plays := s.plays.erase p }.fluxHold p)

/-- The two flux samples of the present tick, with what starts, ends and changes at them (R251). -/
def State.fluxTick (s : State) : State :=
  let s := { s with fluxRuns := s.fluxRuns.map (fun (e : (Nat × Nat) × FluxRun) => (e.1, { e.2 with codes := [] })) }
  s.each [16 * s.tick, 16 * s.tick + 8] (fun s i =>
    let s := (s.endFlux i).runActs Act.isFlux i
    s.each s.fluxChannels (fun s g => s.fluxStep i g))

/-! Writes and banks (R252, R256, R257). -/

/-- The staging bank: the banked registers as written. -/
def State.fluxStaging (s : State) (t k : Nat) : FluxBank :=
  { chain := s.reg ⟨.fluxChain, t, k, 0⟩,
    secs := (List.range 4).map (fun i => s.reg ⟨.fluxSec, t, k, i⟩),
    fir := (List.range 16).map (fun i => s.reg ⟨.fluxFir, t, k, i⟩) }

/-- The staging bank becomes pending (R257). -/
def State.fluxPend (s : State) (t k : Nat) : State :=
  (s.setFluxRun t k { s.fluxRun t k with pend := some (s.fluxStaging t k) }).put (fluxCtrl_PEND t k) true

/-- A write of FLX.CTRL: ENABLE, and COMMIT as a strobe (R256, R257). -/
def State.onFluxCtrl (s : State) (t k : Nat) (bits new : Word) : State :=
  let s := (s.setReg ⟨.fluxCtrl, t, k, 0⟩ new).put (fluxCtrl_COMMIT t k) false
  let s := s.setFluxRun t k
    (if s.on (fluxCtrl_ENABLE t k) then s.fluxRun t k
     else { s.fluxRun t k with secs := [0, 0, 0, 0], hist := [] })
  if strobe bits (fluxCtrl_COMMIT t k) then s.fluxPend t k else s

/-- A register write of LVL, from outside every shot (R118, R252, R258). -/
def State.onFluxLvl (s : State) (t k : Nat) (new : Word) : State :=
  let s := s.setReg ⟨.fluxLvl, t, k, 0⟩ new
  let v := BitVec.ofNat 16 (s.rd (fluxLvl_LVL t k))
  let s := s.setFluxRun t k { s.fluxRun t k with owner := none }
  { s with shots := s.shots.map (fun x => x.seesLevel t k v) }

/-- Whether a flux channel is at its boundary: of a pattern that plays, a sample lies in this tick or later
(R257). -/
def State.fluxBoundary (s : State) (t k : Nat) : Bool :=
  !s.plays.any (fun p => p.tgt == .flux t k && decide (16 * s.tick ≤ p.last))
    && !s.shots.any (fun x => x.fluxUsed.contains (t, k))
    && !s.acts.any (fun a => match a.kind with
      | .play g _ | .join g _ => g == .flux t k
      | .flux t' k' _ => t' == t && k' == k
      | _ => false)

/-- FLUX_BANK_APPLY (R257): the pending bank is applied whole at the boundary. -/
def execFluxBankApply (t k : BitVec 4) (s : State) : Host.Outcome State Fault Refusal :=
  let t := t.toNat
  let k := k.toNat
  let r := s.fluxRun t k
  match r.pend with
  | none => .next s
  | some b =>
      if !s.fluxBoundary t k then .next s
      else
        let s := (s.setFluxRun t k { r with bank := b, pend := none }).put (fluxCtrl_PEND t k) false
        .next (s.wr (fluxCtrl_BANK_SEQ t k) (s.rd (fluxCtrl_BANK_SEQ t k) + 1))

/-! Fitting (R259, R260). -/

/-- DELAY of a point. -/
def State.fitDelay (s : State) (t j : Nat) : Nat :=
  bitsOf (s.reg ⟨.fitDelay, t, j / 2, 0⟩) (32 * (j % 2)) 32

/-- The sections disabled in the bank in force. -/
def FluxBank.freeSections (k : FluxBank) : List Nat :=
  (List.range 4).filter (fun i => !(bitsOf k.chain 0 4).testBit i)

/-- Whether a start of a fitting run is refused (R259). -/
def State.fitRefused (s : State) (t : Nat) : Bool :=
  let n := s.rd (fitCtrl_NPTS t)
  s.tileMode t (s.bitAt modeFlux_FIT_HOST t) Modes.fitHost || (Tab.find s.fits t).isSome || decide (n < 4) || decide (200 < n)
    || (s.on (fitCtrl_FIR_FIT t)
        && !(List.range 64).all (fun d => (List.range n).any (fun j => s.fitDelay t j == d)))
    || decide ((s.fluxRun t (s.rd (fitCtrl_CH t))).bank.freeSections.length < s.rd (fitCtrl_NSEC t))

/-- A write of FLX_FIT.CTRL (R259). -/
def State.onFitCtrl (s : State) (t : Nat) (bits new : Word) : State :=
  let s := ((s.setReg ⟨.fitCtrl, t, 0, 0⟩ new).put (fitCtrl_START t) false).put (fitCtrl_ABORT t) false
  let s :=
    if strobe bits (fitCtrl_START t) then
      if s.fitRefused t then s.put (fitCtrl_ERR t) true
      else
        let run : FitRun :=
          { ch := s.rd (fitCtrl_CH t), dch := s.rd (fitCtrl_DCH t), npts := s.rd (fitCtrl_NPTS t),
            target := 2 ^ max 4 (min 12 (s.rd (fitCtrl_LOG2N t))),
            nsec := s.rd (fitCtrl_NSEC t), fir := s.on (fitCtrl_FIR_FIT t) }
        ({ s with fits := Tab.set s.fits t run }.put (fitCtrl_BUSY t) true).wr (fitCtrl_EXCL t) 0
    else s
  if strobe bits (fitCtrl_ABORT t) then
    { s with fits := Tab.erase s.fits t }.put (fitCtrl_BUSY t) false
  else s

/-- The normalised response at point j: the mean points of a run, of which each sum has the same number of windows
(R260). -/
def FitRun.response (f : FitRun) (j : Nat) : Rat :=
  let b := f.sums.getD 0 ⟨0, 0⟩
  let r := f.sums.getD 1 ⟨0, 0⟩
  let m := f.sums.getD (j + 2) ⟨0, 0⟩
  let u : Cplx := ⟨r.i - b.i, r.q - b.q⟩
  (((m.i - b.i) * u.i + (m.q - b.q) * u.q : Int) : Rat) / ((u.i * u.i + u.q * u.q : Int) : Rat)

/-- The points of a run: delay in 0.5 ns, and response. -/
def State.fitPoints (s : State) (t : Nat) (f : FitRun) : List (Nat × Rat) :=
  (List.range f.npts).map (fun j => (s.fitDelay t j, f.response j))

/-- Terms in ascending τ. -/
def insertTerm (a : Rat × Rat) : List (Rat × Rat) → List (Rat × Rat)
  | [] => [a]
  | b :: rest => if a.2 < b.2 then a :: b :: rest else b :: insertTerm a rest

/-- The fitted terms (a, τ in ns), each τ between 4 ns and 1 ms, in ascending τ: the fit is to the points of delay 64
and more (R260 step 1; DESIGN CHOICE, log entry 123). -/
def fitTerms (nsec : Nat) (ps : List (Nat × Rat)) : List (Rat × Rat) :=
  let far := ps.filter (fun p => decide (64 ≤ p.1))
  ((List.range nsec).map (fun k =>
    let m := Config.fitTerm k far
    (m.1, max 4 (min 1000000 m.2)))).foldl (fun l m => insertTerm m l) []

/-- e^(−x) for x from 0 on, in units of 2^-64: by the series for x / 2^10, squared ten times (R260 step 2). -/
def expDown (x : Rat) : Nat :=
  let one : Int := 2 ^ 64
  let u := roundAway (x * 18446744073709551616 / 1024)
  let series := (List.range 24).foldr (fun (n : Nat) (acc : Int) => one - u * acc / (one * ((n : Int) + 1))) one
  ((List.range 10).foldl (fun v _ => v * v / one) series).toNat

/-- ALPHA and BETA of the exact inverse of a term, to the nearest value the registers hold; with 1 + a not positive
there is none, and what is written is not stated (R260 step 2; DESIGN CHOICE, log entry 123). -/
def fitSection (term : Rat × Rat) : Word :=
  let a := term.1
  if 1 + a ≤ 0 then BitVec.ofNat 64 (Config.unstated 3 [a.num, a.den])
  else
    let alpha := min 0xFFFFFFFF ((expDown (1 / (2 * (1 + a) * term.2)) + 2 ^ 31) / 2 ^ 32)
    let beta := max (-2147483648) (min 2147483647 (roundAway (a / (1 + a) * 16777216)))
    BitVec.ofNat 64 (alpha + unsignedOf 32 beta * 2 ^ 32)

/-- A list of samples through one section from zero state. -/
def throughSection (w : Word) : Rat → List Rat → List Rat
  | _, [] => []
  | st, u :: rest => let p := sectionStep w false st u
                     p.2 :: throughSection w p.1 rest

/-- The first 64 samples of the step response as the new sections correct it: a step's samples are the points with
delays 0 to 63 (R260 step 3). -/
def fitStep (ps : List (Nat × Rat)) (secs : List Word) : List Rat :=
  let r := (List.range 64).map (fun n => ((ps.find? (fun p => p.1 == n)).map Prod.snd).getD 0)
  secs.foldl (fun x w => throughSection w 0 x) r

/-- Sample n of the convolution of two lists. -/
def convolveAt (a b : List Rat) (n : Nat) : Rat :=
  (List.range (n + 1)).foldl (fun y i => y + a.getD i 0 * b.getD (n - i) 0) 0

/-- The first n samples of the inverse of a sequence of which the first sample is not zero. -/
def inverseOf (r : List Rat) : Nat → List Rat
  | 0 => []
  | n + 1 =>
      let q := inverseOf r n
      let y := (List.range n).foldl (fun y i => y + q.getD i 0 * r.getD (n - i) 0) 0
      q ++ [((if n = 0 then 1 else 0) - y) / r.getD 0 0]

/-- The sums of the samples from each on (the transpose of a convolution with a step). -/
def sumOf (l : List Rat) : Rat := l.foldl (· + ·) 0

/-- The 64 taps with sum 1 that bring 64 samples r closest to a unit step in least squares (R260 step 3): with q the
inverse of r, the taps that reach the step exactly, less the least-squares direction of the sum. -/
def fitTaps (r : List Rat) : List Rat :=
  let q := inverseOf r 64
  let exact := (List.range 64).map (convolveAt q (List.replicate 64 1))
  -- the transposed inverse applied to ones, then the inverse
  let back := (List.range 64).map (fun n => sumOf (q.take (64 - n)))
  let dir := (List.range 64).map (convolveAt q back)
  let excess := (sumOf exact - 1) / sumOf dir
  (exact.zip dir).map (fun p => p.1 - excess * p.2)

/-- The new FIR: the active one convolved with the taps, cut to 64 and to the nearest value the registers hold.  With
a first sample of zero the taps are not unique, and what is written is not stated (R260 step 3; DESIGN CHOICE, log
entry 123). -/
def fitFir (k : FluxBank) (r : List Rat) : List Nat :=
  if r.getD 0 0 = 0 then (List.range 64).map (fun (n : Nat) => Config.unstated 3 [(n : Int)])
  else
    let g := fitTaps r
    let h := (List.range 64).map k.tap
    (List.range 64).map (fun n => unsignedOf 16 (max (-32768) (min 32767 (roundAway (convolveAt h g n * 16384)))))

/-- One fitted section, written in tail mode (R260). -/
def State.writeSection (s : State) (t ch i : Nat) (w : Word) : State :=
  let s := s.setReg ⟨.fluxSec, t, ch, i⟩ w
  (s.putBit (fluxChain_SEC_EN t ch) i true).putBit (fluxChain_SEC_MODE t ch) i false

/-- The fitted FIR, written (R260). -/
def State.writeFir (s : State) (t ch : Nat) (taps : List Nat) : State :=
  let s := s.each (List.range 16) (fun s w => s.setReg ⟨.fluxFir, t, ch, w⟩
    (BitVec.ofNat 64 ((List.range 4).foldl (fun v j => v + (taps.getD (4 * w + j) 0 % 2 ^ 16) * 2 ^ (16 * j)) 0)))
  s.put (fluxChain_FIR_EN t ch) true

/-- RESID: over which instants the deviation is taken is not stated (R260; DESIGN CHOICE, log entry 8). -/
def fitResidual (f : FitRun) : Nat := Config.unstated 3 (f.sums.flatMap (fun z => [z.i, z.q]))

/-- FLX_FIT_DONE (R259, R260): after its rotations the run ends.  A reference nearer than 1,024 to the
baseline sets ERR; else sections and FIR are written and committed, and fit done is sent. -/
def execFlxFitDone (t : BitVec 4) (s : State) : Host.Outcome State Fault Refusal :=
  let t := t.toNat
  match Tab.find s.fits t with
  | none => .next s
  | some f =>
      let f := f.whole
      if f.rounds < f.target then .next s
      else
        let s := { s with fits := Tab.erase s.fits t }.put (fitCtrl_BUSY t) false
        let b := f.sums.getD 0 ⟨0, 0⟩
        let r := f.sums.getD 1 ⟨0, 0⟩
        let d2 := (r.i - b.i) ^ 2 + (r.q - b.q) ^ 2
        if d2 < (1024 * f.target : Nat) ^ 2 then .next (s.put (fitCtrl_ERR t) true)
        else
          let bank := (s.fluxRun t f.ch).bank
          let ps := s.fitPoints t f
          let secs := (fitTerms f.nsec ps).map fitSection
          let s := s.each (bank.freeSections.zip secs) (fun s p => s.writeSection t f.ch p.1 p.2)
          let s := if f.fir then s.writeFir t f.ch (fitFir bank (fitStep ps secs)) else s
          let s := (s.fluxPend t f.ch).wr (fitResid_VALUE t) (fitResidual f)
          .next ((s.put (fitCtrl_DONE t) true).pulse (384 + t))

end Sys2Proof.Machine
end

