-- ==== Sys2Proof/Machine/Bias.lean ====
section
/-! DEFINITION. The bias outputs: targets, updates, slews, range changes, compliance, parking,
synchronous writes, drift tracking (08 R239-R250; 01 R18-R20). -/

namespace Sys2Proof.Machine

open Fld

def State.biasOut (s : State) (d b : Nat) : BiasOut := Tab.get s.biasOuts (d, b) {}
def State.setBiasOut (s : State) (d b : Nat) (x : BiasOut) : State :=
  { s with biasOuts := Tab.set s.biasOuts (d, b) x }

/-! Targets (R239, R240, R245). -/

/-- The 20-bit limit (R240). -/
def sat20 (z : Int) : Int := max (-524288) (min 524287 z)

/-- The full scale of a range, in A or in V (R239). -/
def fullScale (range : Nat) : Rat := if range = 0 then 1 / 10000 else if range = 1 then 1 / 1000
  else if range = 2 then 1 / 100 else 5

/-- The value that a code sets in a range, in A or in V (R239). -/
def biasValue (range : Nat) (code : Int) : Rat := code * fullScale range / 524288

/-- What an output puts out: nothing while its switch is open (R246); in the 250 ns of a hold the output before it,
else the code at the DAC in the range in use (R239, R242). -/
def State.biasLevel (s : State) (d b : Nat) : Option Rat :=
  if !s.on (biasStatus_CONNECTED d b) then none
  else
    match (s.biasOut d b).kept with
    | some (code, range, last) =>
        if s.tick < last then some (biasValue range code)
        else some (biasValue (s.rd (biasStatus_CUR_RANGE d b)) (s.rdS (biasStatus_DAC d b)))
    | none => some (biasValue (s.rd (biasStatus_CUR_RANGE d b)) (s.rdS (biasStatus_DAC d b)))

/-- LSB per microsecond of a slew setting in a range (R239, R241). -/
def slewStep (range slew : Nat) : Rat :=
  let n : Rat := ((max 100 (min 1000000000 slew) * 524288 : Nat) : Rat)
  if range = 0 then n / 10 ^ 7 else if range = 1 then n / 10 ^ 8 else n / 10 ^ 9

/-- Whether a park case decides for an output (R245). -/
def State.parks (s : State) (d b : Nat) : Bool :=
  s.on (bdieStatus_CLR_ACTIVE d) || s.on (bdieStatus_PARK_ORDER d) || !(s.biasOut d b).written

/-- The park target: code, range, slew rate. -/
def State.parkTarget (s : State) (d b : Nat) : Int × Nat × Nat :=
  (s.rdS (biasPark_PARK_CODE d b), s.rd (biasPark_PARK_RANGE d b), s.rd (biasPark_PARK_SLEW d b))

/-- The target an output follows (R240, R245). -/
def State.biasTarget (s : State) (d b : Nat) : Int × Nat × Nat :=
  if s.parks d b then s.parkTarget d b
  else (sat20 (s.rdS (biasCode_CODE d b) + s.rdS (biasCode_TRIM d b)), s.rd (biasCfg_RANGE d b),
        s.rd (biasCfg_SLEW d b))

/-- Whether the Dormant hold stops an output: every case but BIAS_CLR_N (R245). -/
def State.biasHeld (s : State) (d : Nat) : Bool :=
  s.on (bdieStatus_DORMANT_HOLD d) && !s.on (bdieStatus_CLR_ACTIVE d)

/-! Updates (R241-R244). -/

/-- A step toward a value by at most `by_`. -/
def slewToward (acc goal by_ : Rat) : Rat :=
  if acc < goal then min goal (acc + by_) else max goal (acc - by_)

/-- One update of an output toward the target taken at the last update: its data and the range in
use (R241, R243). -/
def BiasOut.move (x : BiasOut) (cur : Nat) : BiasOut × Nat :=
  let by_ := slewStep cur x.tgt.2.2
  match x.ranging with
  | .none => ({ x with acc := slewToward x.acc x.tgt.1 by_ }, cur)
  | .toZero =>
      let acc := slewToward x.acc 0 by_
      if acc = 0 then ({ x with acc := 0, ranging := .hold 5 }, x.tgt.2.1) else ({ x with acc := acc }, cur)
  | .hold (n + 1) => ({ x with ranging := .hold n }, cur)
  | .hold 0 => ({ x with ranging := .none, acc := slewToward x.acc x.tgt.1 by_ }, cur)

/-- The target at this update is taken; another range than the one in use begins a range change, or
switches at once during the hold (R243). -/
def BiasOut.take (x : BiasOut) (cur : Nat) (tgt : Int × Nat × Nat) : BiasOut × Nat :=
  let x := { x with tgt := tgt }
  match x.ranging with
  | .none => if tgt.2.1 = cur then (x, cur) else ({ x with ranging := .toZero }, cur)
  | .toZero => (x, cur)
  | .hold _ => if tgt.2.1 = cur then (x, cur) else ({ x with ranging := .hold 5 }, tgt.2.1)

/-- Whether an output in a current range is at compliance: at or beyond ±3.9 V, and its current off its target's by
more than 1 % of full scale (R244). -/
def BiasOut.atCompliance (x : BiasOut) (cur : Nat) (load : BiasLoad) : Bool :=
  let goal : Rat := if x.tgt.2.1 = 3 then 0 else biasValue x.tgt.2.1 x.tgt.1
  decide (cur ≠ 3) && decide (3900000 ≤ load.volts.natAbs)
    && decide (fullScale cur / 100 < ratAbs ((load.amps : Rat) / 10 ^ 12 - goal))

/-- Compliance and limit flags of an output (R244). -/
def State.biasFlags (s : State) (d b : Nat) (load : BiasLoad) : State :=
  let cur := s.rd (biasStatus_CUR_RANGE d b)
  let x := s.biasOut d b
  let compl := x.atCompliance cur load
  let stuck := if compl then x.stuck + 1 else 0
  let s := (s.setBiasOut d b { x with stuck := stuck }).put (biasStatus_COMPL d b) compl
  let opens := decide (8 ≤ stuck) && !s.on (biasStatus_OPEN d b)
  let limits := decide (12000000000 ≤ load.amps.natAbs) && cur == 3 && !s.on (biasStatus_CLIM d b)
  let s := if opens then s.put (biasStatus_OPEN d b) true else s
  let s := if limits then s.put (biasStatus_CLIM d b) true else s
  if opens || limits then s.pulse (503 + d) else s

/-- The code at the DAC: the accumulator to the nearest code (R241). -/
def BiasOut.code (x : BiasOut) : Int := sat20 (roundAway x.acc)

/-- One update of an output's data and of the range in use: under a Dormant hold the target is the present code and
nothing moves; else it moves toward the target taken at the last update, and takes its target (R241, R245). -/
def BiasOut.update (x : BiasOut) (cur : Nat) (held : Bool) (tgt : Int × Nat × Nat) : BiasOut × Nat :=
  if held then ({ x with tgt := (x.code, cur, x.tgt.2.2), still := true }, cur)
  else
    let m := if x.still then (x, cur) else x.move cur
    ({ m.1 with still := false }).take m.2 tgt

/-- One update of one output: a major transition keeps the output before it for 250 ns (R242); SLEWING says that
the code differs from the target's. -/
def State.biasUpdateOut (s : State) (d b : Nat) (load : BiasLoad) : State :=
  let cur := s.rd (biasStatus_CUR_RANGE d b)
  let old := s.rd (biasStatus_DAC d b)
  let p := (s.biasOut d b).update cur (s.biasHeld d) (s.biasTarget d b)
  let dac := unsignedOf 20 p.1.code
  let major := s.on (biasCfg_DGL_EN d b) && dac / 2 ^ 14 != old / 2 ^ 14
  let x := { p.1 with kept := if major then some (signedOf 20 old, cur, s.tick + 250) else none }
  let s := ((s.setBiasOut d b x).wr (biasStatus_CUR_RANGE d b) p.2).wr (biasStatus_DAC d b) dac
  let s := if major then s.bump (biasStatus_HOLDS d b) else s
  let s := s.put (biasStatus_RANGING d b) (x.ranging != .none)
  let s := s.put (biasStatus_SLEWING d b) (decide (x.code ≠ x.tgt.1))
  (s.put (biasStatus_PARKED d b) (s.parks d b && !s.biasHeld d)).biasFlags d b load

/-- BIAS_UPDATE (R241-R245): a ready die updates its outputs; the sender gives the voltage and the current of
outputs, which decide about compliance and the current limit. -/
def execBiasUpdate (d : BitVec 1) (loads : List BiasLoad) (s : State) : Host.Outcome State Fault Refusal :=
  let d := d.toNat
  if !s.on (bdieStatus_READY d) then .next s
  else .next (s.each (List.range 192) (fun s b =>
    s.biasUpdateOut d b ((loads.find? (fun x => x.out == b)).getD ⟨b, 0, 0⟩)))

/-- Outputs of a die with OPEN or CLIM set (08, BDIE.STATUS). -/
def State.openCount (s : State) (d : Nat) : Nat :=
  min 255 ((List.range 192).filter (fun b => s.on (biasStatus_OPEN d b) || s.on (biasStatus_CLIM d b))).length

/-! Register writes (R240, R247, R248). -/

/-- Whether a write covers a bit of its register (R8). -/
def Half.covers (h : Half) (bit : Nat) : Bool :=
  match h with
  | .whole => true
  | .low => decide (bit < 32)
  | .high => decide (32 ≤ bit)

/-- CODE or RANGE has been written: the output follows its registers (R246, R247). -/
def State.biasWritten (s : State) (d b : Nat) : State :=
  s.setBiasOut d b { s.biasOut d b with written := true }

/-- A write of OUT.CFG: RANGE is refused under BIAS_CLR_N, staged while SYNC = 1 (R247, R248). -/
def State.onBiasCfg (s : State) (d b : Nat) (h : Half) (new : Word) : State :=
  let old := s.rd (biasCfg_RANGE d b)
  let s := s.setReg ⟨.biasCfg, d, b, 0⟩ (withBits new 0 2 old)
  if !h.covers 0 then s
  else if s.on (bdieStatus_CLR_ACTIVE d) then s.bump (bdieStatus_REFUSED d)
  else if s.on (biasCfg_SYNC d b) then
    (s.setBiasOut d b { s.biasOut d b with stRange := some (BitVec.ofNat 2 (bitsOf new 0 2)) }).put
      (biasStatus_STAGED d b) true
  else (s.wr (biasCfg_RANGE d b) (bitsOf new 0 2)).biasWritten d b

/-- A write of OUT.CODE: CODE and TRIM (R240, R247, R248). -/
def State.onBiasCode (s : State) (d b : Nat) (h : Half) (new : Word) : State :=
  if s.on (bdieStatus_CLR_ACTIVE d) then s.bump (bdieStatus_REFUSED d)
  else
    let s := if h.covers 32 then s.wr (biasCode_TRIM d b) (bitsOf new 32 13) else s
    if !h.covers 0 then s
    else if s.on (biasCfg_SYNC d b) then
      (s.setBiasOut d b { s.biasOut d b with stCode := some (BitVec.ofNat 20 (bitsOf new 0 20)) }).put
        (biasStatus_STAGED d b) true
    else (s.wr (biasCode_CODE d b) (bitsOf new 0 20)).biasWritten d b

/-- The staged values of an output become its target; under BIAS_CLR_N they are discarded and
counted as refused (R248). -/
def State.applyStaged (s : State) (d b : Nat) : State :=
  let x := s.biasOut d b
  if x.stCode.isNone && x.stRange.isNone then s
  else
    let s := (s.setBiasOut d b { x with stCode := none, stRange := none }).put (biasStatus_STAGED d b) false
    if s.on (bdieStatus_CLR_ACTIVE d) then s.bump (bdieStatus_REFUSED d)
    else
      let s := match x.stCode with | some c => s.wr (biasCode_CODE d b) c.toNat | none => s
      let s := match x.stRange with | some r => s.wr (biasCfg_RANGE d b) r.toNat | none => s
      s.biasWritten d b

/-- A write of BDIE.APPLY (R248). -/
def State.onBdieApply (s : State) (d : Nat) (bits : Word) : State :=
  if strobe bits (bdieApply_APPLY d) then s.each (List.range 192) (fun s b => s.applyStaged d b) else s

/-! The die and its pins (R245-R247; 14 R385). -/

/-- Consecutive samples at 50 MHz after which a level of RST_N or BIAS_CLR_N counts (14 R374). -/
def pinSamples : Nat := 50

/-- BIAS_CLR_N (R247; 14 R374): the level it has had at so many consecutive samples. Low, every output of both dies
parks; back high, each stays at park until its next write. -/
def execBiasClrN (low : Bool) (samples : Nat) (s : State) : Host.Outcome State Fault Refusal :=
  if samples < pinSamples then .next s
  else .next (s.each [0, 1] (fun s d =>
    let s := s.put (bdieStatus_CLR_ACTIVE d) low
    if low then
      { s with biasOuts := s.biasOuts.map (fun e =>
          if e.1.1 = d then (e.1, { e.2 with written := false }) else e) }
    else s))

/-- Whether a bias die has a park table: one received, or the default (R246). -/
def State.hasTable (s : State) (d : Nat) : Bool := s.boot.tables.contains d || s.on (bdieStatus_PARK_DEFAULT d)

/-- BIAS_DIE_READY (R246): by then the die has its park table, received or by default; the switches close at code 0 in PARK_RANGE, and the outputs slew to park. -/
def execBiasDieReady (d : BitVec 1) (s : State) : Host.Outcome State Fault Refusal :=
  let d := d.toNat
  if s.on (bdieStatus_READY d) || !s.boot.biasGood.contains d || !s.hasTable d then .next s
  else
    let s := (s.put (bdieStatus_READY d) true).putBit dieStatus_BREADY d true
    .next (s.each (List.range 192) (fun s b =>
      let s := (s.put (biasStatus_CONNECTED d b) true).put (biasStatus_PARKED d b) true
      let s := (s.wr (biasStatus_CUR_RANGE d b) (s.rd (biasPark_PARK_RANGE d b))).wr (biasStatus_DAC d b) 0
      s.setBiasOut d b { tgt := s.parkTarget d b }))

/-- An output's registers take its park values (R246; 14 R385): PARK, and CODE, RANGE and SLEW while
the output has not been written. -/
def State.takePark (s : State) (d b : Nat) (w : Word) : State :=
  let s := s.setReg ⟨.biasPark, d, b, 0⟩ (withBits w 22 10 0)
  if (s.biasOut d b).written then s
  else ((s.wr (biasCode_CODE d b) (bitsOf w 0 20)).wr (biasCfg_RANGE d b) (bitsOf w 20 2)).wr
    (biasCfg_SLEW d b) (bitsOf w 32 32)

/-- PARK_TABLE_TIMEOUT (R246): without a table 18 ms after power-on, the default table. -/
def execParkTableTimeout (d : BitVec 1) (s : State) : Host.Outcome State Fault Refusal :=
  let d := d.toNat
  if s.on (bdieStatus_READY d) || !s.boot.biasGood.contains d || s.boot.tables.contains d then .next s
  else .next ((s.each (List.range 192) (fun s b => s.takePark d b (BitVec.ofNat 64 (100 * 2 ^ 32)))).put
    (bdieStatus_PARK_DEFAULT d) true)

/-- PARK_TABLE_RX (R246; 14 R385): a table reaches the die. -/
def execParkTableRx (d : BitVec 1) (table : List Word) (s : State) : Host.Outcome State Fault Refusal :=
  let d := d.toNat
  if !s.boot.biasGood.contains d then .next s
  else
    let s := { s with boot := { s.boot with tables := d :: s.boot.tables.filter (fun x => x != d) } }
    .next ((s.each ((List.range 192).zip table) (fun s p => s.takePark d p.1 p.2)).put
      (bdieStatus_PARK_DEFAULT d) false)

/-- A command to a bias die is dropped: the link error bit and a seam fault event (01 R18). -/
def State.dropBiasCommand (s : State) (d : Nat) : State :=
  (s.putBit dieStatus_BLINK_ERR d true).pulse 502

/-- Whether the link carries the next command that the trunk sends of itself, within eight repeats
(01 R18; how often a command fails its CRC is not the block's, log entry 99). -/
def State.linkCarries (s : State) : Bool := decide (Config.linkErrors s.linkSeq ≤ 8)

/-- An order of the trunk to a bias die: it sets a bit of the die, or is dropped (01 R18; R247). -/
def State.orderDie (s : State) (d : Nat) (f : RField) (on : Bool) : State :=
  let s' := { s with linkSeq := s.linkSeq + 1 }
  if s.linkCarries then s'.put f on else s'.dropBiasCommand d

/-- The orders of the trunk to the bias dies that are ready (R247): park order and hold. -/
def State.parkOrder (s : State) (on : Bool) : State :=
  s.each ([0, 1].filter (s.bitAt dieStatus_BREADY)) (fun s d => s.orderDie d (bdieStatus_PARK_ORDER d) on)
def State.dormantHold (s : State) (on : Bool) : State :=
  s.each ([0, 1].filter (s.bitAt dieStatus_BREADY)) (fun s d => s.orderDie d (bdieStatus_DORMANT_HOLD d) on)

/-! Drift tracking (R249). -/

/-- Whether an output is tracked by the device: t, k of its output number. -/
def State.tracked (s : State) (d b : Nat) : Bool :=
  let j := 192 * d + b
  !s.bitAt (modeBias_HOST (j / 64)) (j % 64) && s.bitAt dieStatus_BREADY d
    && !s.on (biasStatus_SLEWING d b) && !s.on (biasStatus_RANGING d b) && !s.on (biasStatus_PARKED d b)

def State.mon (s : State) (d : Nat) : MonRun := Tab.get s.mons d {}
def State.setMon (s : State) (d : Nat) (x : MonRun) : State := { s with mons := Tab.set s.mons d x }

/-- TRIM one LSB toward zero error, within its limits (R249). -/
def State.trimToward (s : State) (d b : Nat) (error : Int) : State :=
  let trim := s.rdS (biasCode_TRIM d b)
  let next := if 0 < error then trim - 1 else if error < 0 then trim + 1 else trim
  if next < -4096 ∨ 4095 < next then s.put (biasStatus_TRIM_LIM d b) true
  else s.wr (biasCode_TRIM d b) (unsignedOf 13 next)

/-- BIAS_DRIFT_TRACK (R249): MP1 compares the readback that a tracking conversion has made of an output with the
expected value of its register target, and moves TRIM. -/
def execBiasDriftTrack (d : BitVec 1) (b : BitVec 8) (s : State) : Host.Outcome State Fault Refusal :=
  let d := d.toNat
  let b := b.toNat
  match (s.mon d).readback with
  | none => .next s
  | some (out, code) =>
      if out ≠ b then .next s
      else
        let s := s.setMon d { s.mon d with readback := none }
        if !s.tracked d b || s.on (bdieStatus_CLR_ACTIVE d) then .next s
        else .next (s.trimToward d b
          (code - Config.readback d b (sat20 (s.rdS (biasCode_CODE d b) + s.rdS (biasCode_TRIM d b)))))

end Sys2Proof.Machine
end

