-- ==== Sys2Proof/Machine/Channels.lean ====
section
/-! DEFINITION. The routing channels of the seam matrix and the events that enter them (10 R284-R289). -/

namespace Sys2Proof.Machine

open Fld

/-! Channels (R284-R289). -/

/-- Whether a source may be routed on an asynchronous channel (R284). -/
def asyncSource (n : Nat) : Bool :=
  decide (n < 20) || n == 499 || (decide (501 ≤ n) && decide (n ≤ 510))

/-- A channel or tack cell as in force in this tick: a write acts from the tick after (R289). -/
def State.seamReg (s : State) (r : Reg) : Word := (Tab.find s.seamOld r).getD (s.reg r)

/-- The value before a write of this tick is kept. -/
def State.seamWrite (s : State) (r : Reg) (new : Word) : State :=
  let s := if (Tab.find s.seamOld r).isSome then s else { s with seamOld := Tab.set s.seamOld r (s.reg r) }
  s.setReg r new

/-- Channel n in force. -/
def State.chWord (s : State) (n : Nat) : Word := s.seamReg ⟨.seamCh, n, 0, 0⟩

/-- Whether a channel word is enabled and routes a source (R286). -/
def routes (w : Word) (src : Nat) : Bool :=
  bitsOf w 32 1 == 1 && (bitsOf w 0 9 == src || (bitsOf w 9 1 == 1 && bitsOf w 16 9 == src))

/-- Numbers in ascending order. -/
def ascending (l : List Nat) : List Nat :=
  l.foldl (fun r n => r.takeWhile (fun m => decide (m ≤ n)) ++ n :: r.dropWhile (fun m => decide (m ≤ n))) []

/-- The channels whose registers have been written. -/
def State.chansUsed (s : State) : List Nat :=
  ascending (s.regs.filterMap (fun p => if p.1.name = .seamCh then some p.1.i else none))

/-- Whether a channel keeps what it carries: a resynchronised one written in this tick does not
(R288, R289). -/
def State.chKeeps (s : State) (n : Nat) : Bool :=
  decide (n < 32) || (Tab.find s.seamOld ⟨.seamCh, n, 0, 0⟩).isNone

/-- The channels in use that route a source. -/
def State.chansOf (s : State) (src : Nat) : List Nat :=
  s.chansUsed.filter (fun n => routes (s.chWord n) src && s.chKeeps n)

/-- An event enters a channel: consumers meet it 2 ticks on; a second event of the tick merges
(R286, R287; R288 for the consumers of an asynchronous channel). -/
def State.enterChannel (s : State) (n : Nat) : State :=
  if s.seamPipe.contains (n, s.tick + 2) then s.bump (seamCh_MERGED n)
  else { s with seamPipe := s.seamPipe ++ [(n, s.tick + 2)],
                asyncNow := if n < 32 then n :: s.asyncNow else s.asyncNow }

/-- The asynchronous channels on which a source makes an event in Dormant: those in WAKE wake the device, unless the
host has written REQ in the tick (R288, R299; 01 R26). -/
def State.dormantEvent (s : State) (chans : List Nat) : State :=
  let wakes := chans.any (s.bitAt seamTask_WAKE) && s.pwrRun.wrote != some s.tick
  { s with wakeDue := s.wakeDue || wakes, asyncNow := chans ++ s.asyncNow }

/-- The raw comparator output of an input crosses: its asynchronous channels follow at once, without the converter's
delay and whatever edge came before (R285, R288). -/
def State.rawEdge (s : State) (i : Nat) : State :=
  let chans := (s.chansOf i).filter (fun n => decide (n < 32))
  if s.dormant then s.dormantEvent chans else s.each chans State.enterChannel

/-- SEAM_EVENT (R285-R288, R299): a source makes an event in this tick.  Sources 0-19 have entered the asynchronous
channels as raw comparator outputs.  In Dormant only the asynchronous channels work, which drive their markers, and
those in WAKE wake the device. -/
def execSeamEvent (src : BitVec 9) (s : State) : Host.Outcome State Fault Refusal :=
  let src := src.toNat
  let chans := s.chansOf src
  if src = 511 then .next s
  else if s.dormant then .next (s.dormantEvent (chans.filter (fun n => decide (n < 32))))
  else .next (s.each (chans.filter (fun n => decide (20 ≤ src) || decide (32 ≤ n))) State.enterChannel)

end Sys2Proof.Machine
end

