-- ==== Sys2Proof/Machine/Tdc.lean ====
section
/-! DEFINITION. The time-to-digital converters: edges, measurement units, event queues, statistics,
PT_CAL (09 R261-R276). -/

namespace Sys2Proof.Machine

open Fld

/-! Event queues (R271). -/

/-- The overflow word (R270). -/
def overflowWord (n : Nat) : Word := BitVec.ofNat 64 (n % 2 ^ 32 + 2 * 2 ^ 62)

/-- A word enters a queue of a size, behind an overflow word if words were dropped; answers the queue
and the words dropped. -/
def EvQueue.push (q : EvQueue) (cap : Nat) (w : Word) : EvQueue × Nat :=
  if cap ≤ q.words.length then ({ q with dropped := q.dropped + 1 }, 1)
  else
    let q := if q.dropped = 0 then q
      else { q with words := q.words ++ [⟨overflowWord q.dropped, true⟩], dropped := 0 }
    if cap ≤ q.words.length then ({ q with dropped := 1 }, 1)
    else ({ q with words := q.words ++ [⟨w, true⟩] }, 0)

/-- The head word is popped, or the last word popped is returned again: the word, whether the queue
was empty, and the queue. -/
def EvQueue.pop (q : EvQueue) : Word × Bool × EvQueue :=
  match q.words with
  | [] => (q.lastPop, true, q)
  | x :: rest => (x.w, false, { q with words := rest, lastPop := x.w })

/-- Whether the parity of the head word fails. -/
def EvQueue.headBad (q : EvQueue) : Bool := q.words.head?.any (fun x => !x.parityOk)

/-- Word i loses its parity (12 R339). -/
def EvQueue.spoil (q : EvQueue) (i : Nat) : EvQueue :=
  { q with words := q.words.take i ++ ((q.words.drop i).take 1).map (fun x => { x with parityOk := false })
      ++ q.words.drop (i + 1) }

/-! Units. -/

def State.tdcUnit (s : State) (u : Nat) : TdcUnit := Tab.get s.tdcUnits u {}
def State.setTdcUnit (s : State) (u : Nat) (x : TdcUnit) : State :=
  { s with tdcUnits := Tab.set s.tdcUnits u x }

/-- Whether a unit is a precision unit. -/
def precision (u : Nat) : Bool := decide (8 ≤ u)

/-- WINDOW as it acts, in 1/1,024 tick (R263). -/
def State.tdcWindow (s : State) (u : Nat) : Int := 1024 * max 1 (min 1000000 (s.rd (tdcCfg_WINDOW u)))

/-- The resolution and the dead time of a unit, in 1/1,024 tick (R267, R268). -/
def tdcStep (u : Nat) : Int := if precision u then 4 else 32
def tdcDead (u : Nat) : Int := if precision u then 20 * 1024 else 4 * 1024

/-- The crossings of which the edges have been seen by now end here: 1/1,024 ticks of the device (R262). -/
def State.tdcNow (s : State) : Int := 1024 * ((s.tick : Int) - 3)

/-- OFFSET of a source; CAL has none (R261, R274). -/
def State.tdcOffset (s : State) (src : Nat) : Int := if src < 20 then s.rdS (tdcIn_OFFSET src) else 0

/-- The least timestamp of a unit's start or stop source that a crossing from an instant on can have: OFFSET is
subtracted, and a trigger input's step rounds down (R261). -/
def State.tdcFrom (s : State) (src : Nat) (real : Int) : Int :=
  let t := real - s.tdcOffset src
  if src < 16 then t / 32 * 32 else t
def State.tdcStarts (s : State) (u : Nat) (real : Int) : Int := s.tdcFrom (s.rd (tdcCfg_START_SRC u)) real
def State.tdcStops (s : State) (u : Nat) (real : Int) : Int := s.tdcFrom (s.rd (tdcCfg_STOP_SRC u)) real

/-- A unit enters Recovering at an instant; a recalibration that has found no gap for 10 ms extends
it by 100 ns (R268, R275). -/
def State.tdcRecover (s : State) (u : Nat) (at_ : Int) : State :=
  let x := s.tdcUnit u
  let late := precision u && decide (x.calAt + 11000000 ≤ s.tick)
  s.setTdcUnit u { x with phase := .recovering (at_ + tdcDead u + (if late then 102400 else 0)),
                          calAt := if late then s.tick else x.calAt }

/-- A measurement ends without a stop, when its window has passed at the stop input (R265). -/
def State.tdcNoStop (s : State) (u : Nat) (start : Int) : State :=
  (s.bump (tdcCounts_NOSTOP u)).tdcRecover u (start + s.tdcWindow u + s.tdcOffset (s.rd (tdcCfg_STOP_SRC u)))

/-- How long a stop is held in Armed: up to WINDOW in signed mode, and in unsigned mode while it may
still be coincident with a start (R266, R267). -/
def State.tdcHold (s : State) (u : Nat) : Int :=
  if s.rd (tdcCfg_MODE u) = 2 then s.tdcWindow u else tdcStep u - 1

/-- A unit as it stands for an edge that crosses at an instant: windows of which no later crossing can be a stop,
dead times, and held stops that no later crossing can be a start for, have ended (log entry 122). -/
def State.tdcSettle (s : State) (u : Nat) (now : Int) : State :=
  let s := match (s.tdcUnit u).phase with
    | .opened t => if t + s.tdcWindow u < s.tdcStops u now then s.tdcNoStop u t else s
    | _ => s
  let s := match (s.tdcUnit u).phase with
    | .recovering e => if e ≤ now then s.setTdcUnit u { s.tdcUnit u with phase := .armed } else s
    | _ => s
  match (s.tdcUnit u).held with
  | some h => if h + s.tdcHold u < s.tdcStarts u now then
      (s.setTdcUnit u { s.tdcUnit u with held := none }).bump (tdcCounts_IGN_STOP u) else s
  | none => s

/-- A result of a unit: it enters the queue 2 or 20 ticks after the timestamp is formed (R262). -/
def State.tdcResult (s : State) (u : Nat) (w : Word) (delta : Option Int) : State :=
  let r : TdcResult :=
    { due := s.tick + (if precision u then 20 else 2), unit := u, word := w, delta := delta }
  { s with tdcResults := s.tdcResults ++ [r] }

/-- An interval ends at an instant with a length (R265-R268, R270). -/
def State.tdcInterval (s : State) (u : Nat) (delta at_ : Int) : State :=
  let coinc := decide (delta.natAbs < (tdcStep u).toNat)
  let d := if coinc then 0 else delta
  let x := s.tdcUnit u
  let n := x.seq + 1
  let w := BitVec.ofNat 64 (unsignedOf 40 d + (if coinc then 2 ^ 40 else 0)
    + (if s.rd (tdcCfg_MODE u) = 2 then 2 ^ 41 else 0) + (n % 2 ^ 16) * 2 ^ 46 + 2 ^ 62)
  ((s.setTdcUnit u { x with seq := n, held := none }).tdcResult u w (some d)).tdcRecover u at_

/-- Whether a held stop is paired with a start: in signed mode within WINDOW, in unsigned mode when coincident
(R265-R267). -/
def State.tdcPairs (s : State) (u : Nat) (delta : Int) : Bool :=
  decide (delta.natAbs < (tdcStep u).toNat)
    || (s.rd (tdcCfg_MODE u) == 2 && decide ((delta.natAbs : Int) ≤ s.tdcWindow u))

/-- A start edge, stamped t and crossing at an instant, reaches a unit in an interval mode (R265-R268). -/
def State.tdcStart (s : State) (u : Nat) (t real : Int) : State :=
  match (s.tdcUnit u).phase with
  | .off => s
  | .armed =>
      match (s.tdcUnit u).held with
      | some h =>
          if s.tdcPairs u (h - t) then s.tdcInterval u (h - t) real
          else (s.setTdcUnit u { s.tdcUnit u with phase := .opened t, held := none }).bump (tdcCounts_IGN_STOP u)
      | none => s.setTdcUnit u { s.tdcUnit u with phase := .opened t }
  | _ => s.bump (tdcCounts_IGN_START u)

/-- A stop edge reaches a unit in an interval mode; one whose timestamp lies before the start of an Open unit,
as offsets may make it, is ignored in unsigned mode unless coincident, in signed mode beyond WINDOW (R265-R267,
R269). -/
def State.tdcStop (s : State) (u : Nat) (t real : Int) : State :=
  match (s.tdcUnit u).phase with
  | .off => s
  | .armed =>
      let x := s.tdcUnit u
      let s := if x.held.isSome then s.bump (tdcCounts_IGN_STOP u) else s
      s.setTdcUnit u { x with held := some t }
  | .opened a =>
      if t < a ∧ !s.tdcPairs u (t - a) then s.bump (tdcCounts_IGN_STOP u)
      else s.tdcInterval u (t - a) real
  | .recovering _ => s.bump (tdcCounts_IGN_STOP u)

/-- An edge of a source reaches a unit (R264-R269). -/
def State.tdcFeed (s : State) (e : TdcEdge) (u : Nat) : State :=
  let src := e.src
  let t := e.inst
  let real := e.real
  let isStart := s.rd (tdcCfg_START_SRC u) == src
  let isStop := s.rd (tdcCfg_STOP_SRC u) == src
  if !s.on (tdcCfg_EN u) then s
  else if s.rd (tdcCfg_MODE u) = 0 then
    if isStart then
      let n := (s.tdcUnit u).seq + 1
      let s := s.setTdcUnit u { s.tdcUnit u with seq := n }
      let t := (e.time % 2 ^ 56).toNat
      s.tdcResult u (BitVec.ofNat 64 ((if precision u then t else t / 32 * 32) + src * 2 ^ 56)) none
    else s
  else
    let s := if isStart || isStop then s.tdcSettle u real else s
    if isStart && isStop then
      match (s.tdcUnit u).phase with
      | .opened _ => s.tdcStop u t real
      | _ => s.tdcStart u t real
    else if isStart then s.tdcStart u t real
    else if isStop then s.tdcStop u t real
    else s

/-! Statistics (R273). -/

/-- An interval joins a collection; the N-th ends it. -/
def State.tdcStat (s : State) (u : Nat) (d : Int) : State :=
  match (s.tdcUnit u).stat with
  | none => s
  | some r =>
      let r := { r with n := r.n + 1, sum := r.sum + d, squares := r.squares + d * d,
                        least := if r.n = 0 then d else min r.least d,
                        most := if r.n = 0 then d else max r.most d }
      if r.n < r.target then s.setTdcUnit u { s.tdcUnit u with stat := some r }
      else
        let n : Int := r.n
        let mean := roundAway (64 * (r.sum : Rat) / n)
        let spread := (4096 * (n * r.squares - r.sum * r.sum)).toNat
        let sd := (isqrt (4 * spread) / r.n + 1) / 2
        let s := s.setTdcUnit u { s.tdcUnit u with stat := none }
        let s := s.setReg ⟨.statMean, u - 8, 0, 0⟩ (BitVec.ofNat 64 (unsignedOf 64 mean))
        let s := s.wr (statSd_VALUE (u - 8)) sd
        let s := (s.wr (statMinmax_MIN (u - 8)) (unsignedOf 32 r.least)).wr (statMinmax_MAX (u - 8)) (unsignedOf 32 r.most)
        ((s.put (statCtrl_BUSY (u - 8)) false).put (statCtrl_DONE (u - 8)) true).pulse (36 + u)

/-- A result enters its queue, the statistics and the seam matrix (R262, R270, R271, R273). -/
def State.tdcEnter (s : State) (r : TdcResult) : State :=
  let u := r.unit
  let s := s.pulse (20 + u)
  let s := match r.delta with | some d => s.tdcStat u d | none => s
  if s.on (tdcCfg_NOQ u) then s
  else
    let x := s.tdcUnit u
    let before := x.queue.words.length
    let p := x.queue.push 512 r.word
    let s := (s.setTdcUnit u { x with queue := p.1 }).bumpBy (tdcCounts_DROPPED u) p.2
    let th := 32 * s.rd (tdcCfg_Q_THRESH u)
    if th ≠ 0 ∧ before < th ∧ th ≤ p.1.words.length then s.pulse (32 + u) else s

/-! Edges. -/

/-- Edges in the order of their crossings. -/
def TdcEdge.insert (e : TdcEdge) : List TdcEdge → List TdcEdge
  | [] => [e]
  | b :: rest => if e.real < b.real then e :: b :: rest else b :: e.insert rest

/-- What the converters do at the start of a tick: timestamps formed now reach the units and the seam
matrix, and results enter their queues. -/
def State.tdcTick (s : State) : State :=
  let due := (s.tdcEdges.filter (fun e => decide (e.due ≤ s.tick))).foldl (fun l e => e.insert l) []
  let s := { s with tdcEdges := s.tdcEdges.filter (fun e => decide (s.tick < e.due)) }
  let s := s.each due (fun s e =>
    let s := if e.src < 20 then s.pulse e.src else s
    s.each (List.range 12) (fun s u => s.tdcFeed e u))
  let done := s.tdcResults.filter (fun r => decide (r.due ≤ s.tick))
  let s := { s with tdcResults := s.tdcResults.filter (fun r => decide (s.tick < r.due)) }
  s.each done State.tdcEnter

/-- TDC_EDGE (R261, R262): the signal of an enabled input crosses its threshold in this tick, at a
1/1,024-tick position; too close to the input's last edge it is none.  Intervals and dead times count ticks, which
a load of forest time does not move (R276; DEDUCED, log entry 122).  The asynchronous channels take every crossing,
also where no tick runs to stamp it; in Dormant the comparators of TI0-TI15 alone are powered (10 R285). -/
def execTdcEdge (i : BitVec 5) (frac : BitVec 10) (s : State) : Host.Outcome State Fault Refusal :=
  let i := i.toNat
  if 20 ≤ i ∨ !s.on (tdcIn_EN i) ∨ (s.dormant ∧ 16 ≤ i) then .next s
  else
    let s := s.rawEdge i
    if !s.on timeStatus_PLL_LOCK then .next s else
    let t : Int := 1024 * s.tick + frac.toNat
    let gap : Int := if i < 16 then 2048 else 8192
    if (match Tab.find s.tdcLast i with | some l => decide (t - l < gap) | none => false) then .next s
    else
      let inst := s.tdcFrom i t
      let e : TdcEdge := { due := s.tick + 4, src := i, time := inst + 1024 * ((s.ft.toNat : Int) - s.tick), real := t, inst := inst }
      .next { s with tdcLast := Tab.set s.tdcLast i t, tdcEdges := s.tdcEdges ++ [e] }

/-- Whether a unit's window has passed without a stop (R265). -/
def State.tdcExpired (s : State) (u : Nat) : Bool :=
  match (s.tdcUnit u).phase with
  | .opened t => decide (t + s.tdcWindow u < s.tdcStops u s.tdcNow)
  | _ => false

/-- TDC_WINDOW_EXPIRY (R265). -/
def execTdcWindowExpiry (u : BitVec 4) (s : State) : Host.Outcome State Fault Refusal :=
  let u := u.toNat
  match (s.tdcUnit u).phase with
  | .opened t => if t + s.tdcWindow u < s.tdcStops u s.tdcNow then .next (s.tdcNoStop u t) else .next s
  | _ => .next s

/-- Whether a held stop is too old (R266). -/
def State.tdcStale (s : State) (u : Nat) : Bool :=
  match (s.tdcUnit u).held with
  | some h => decide (h + s.tdcHold u < s.tdcStarts u s.tdcNow)
  | none => false

/-- TDC_HELD_STOP_EXPIRY (R266). -/
def execTdcHeldStopExpiry (u : BitVec 4) (s : State) : Host.Outcome State Fault Refusal :=
  let u := u.toNat
  if s.tdcStale u then
    .next ((s.setTdcUnit u { s.tdcUnit u with held := none }).bump (tdcCounts_IGN_STOP u))
  else .next s

/-- Whether a unit's dead time has ended (R268). -/
def State.tdcRecovered (s : State) (u : Nat) : Bool :=
  match (s.tdcUnit u).phase with
  | .recovering e => decide (e ≤ s.tdcNow)
  | _ => false

/-- TDC_RECOVERY_END (R268). -/
def execTdcRecoveryEnd (u : BitVec 4) (s : State) : Host.Outcome State Fault Refusal :=
  let u := u.toNat
  if s.tdcRecovered u then .next (s.setTdcUnit u { s.tdcUnit u with phase := .armed }) else .next s

/-- Whether a precision unit recalibrates now: every 1 ms, in Armed with no held stop (R275). -/
def State.tdcRecals (s : State) (u : Nat) : Bool :=
  let x := s.tdcUnit u
  precision u && x.phase == .armed && x.held.isNone && decide (x.calAt + 1000000 ≤ s.tick)

/-- TDC_RECALIBRATE (R275): for 100 ns edges are ignored and counted as in Recovering. -/
def execTdcRecalibrate (u : BitVec 4) (s : State) : Host.Outcome State Fault Refusal :=
  let u := u.toNat
  if s.tdcRecals u then
    .next (s.setTdcUnit u { s.tdcUnit u with phase := .recovering (s.tdcNow + 102400), calAt := s.tick })
  else .next s

/-! Registers (R263, R271, R273). -/

/-- Whether an enable of a unit is refused (R263). -/
def tdcRefuses (u : Nat) (w : Word) : Bool :=
  let mode := bitsOf w 1 2
  let a := bitsOf w 8 5
  let b := bitsOf w 16 5
  let usable (x : Nat) : Bool := if precision u then decide (16 ≤ x) && decide (x < 20) else decide (x < 16)
  mode == 3 || !usable b || !(usable a || (precision u && a == 20 && mode != 0))

/-- A write of a unit's CFG (R263). -/
def State.onTdcCfg (s : State) (u : Nat) (new : Word) : State :=
  let r : Reg := ⟨.tdcCfg, u, 0, 0⟩
  let was := s.on (tdcCfg_EN u)
  let en := bitsOf new 0 1 == 1
  if en && (was || tdcRefuses u new) then s.put (tdcCfg_CFG_REFUSED u) true
  else
    let s := s.setReg r new
    if en then
      s.setTdcUnit u { s.tdcUnit u with phase := if bitsOf new 1 2 = 0 then .off else .armed,
                                        held := none, seq := 0, stat := none, calAt := s.tick }
    else
      let s := if was && precision u then s.put (statCtrl_BUSY (u - 8)) false else s
      s.setTdcUnit u { s.tdcUnit u with phase := .off, held := none, stat := none }

/-- A write of Q_STATUS: FLUSH empties the queue while EN = 0; words dropped before are still told by the next
overflow word (R271). -/
def State.onTdcQStatus (s : State) (u : Nat) (bits new : Word) : State :=
  let s := (s.setReg ⟨.tdcQStatus, u, 0, 0⟩ new).put (tdcQStatus_FLUSH u) false
  if strobe bits (tdcQStatus_FLUSH u) && !s.on (tdcCfg_EN u) then
    s.setTdcUnit u { s.tdcUnit u with queue := { (s.tdcUnit u).queue with words := [] } }
  else s

/-- LEVEL (R271). -/
def State.tdcLevel (s : State) (u : Nat) : Nat := (s.tdcUnit u).queue.words.length

/-- Whether a domain holds a unit's queue (10 R297). -/
def State.holdsTdc (s : State) (u domain : Nat) : Bool := s.rd (claimTdc_HOLDER u) == domain + 1

/-- A read of Q_DATA that pops, by a requester of a domain (R271; 10 R297). -/
def State.popTdc (s : State) (u domain : Nat) : State × MStatus × Word :=
  if !s.holdsTdc u domain then (s.bump seamStatus_DENIED, .denied, 0)
  else
    let x := s.tdcUnit u
    let p := x.queue.pop
    let s := s.setTdcUnit u { x with queue := p.2.2 }
    let s := if p.2.1 then s.put (tdcQStatus_UNDERRUN u) true
      else if x.queue.headBad then (s.put (tdcQStatus_POISON u) true).bump (tdcQStatus_POISON_COUNT u) else s
    (s, .ok, p.1)

/-- TDC_QUEUE_POP (R271): a pop by a requester; the word stays readable in the shadow of Q_DATA. -/
def execTdcQueuePop (u : BitVec 4) (req : Requester) (s : State) :
    Host.Outcome State Fault Refusal :=
  let p := s.popTdc u.toNat req.domain
  let hi := BitVec.ofNat 32 (p.2.2.toNat / 2 ^ 32)
  if p.2.1 = .ok then .next { p.1 with shadows := Tab.set p.1.shadows ⟨.tdcQData, u.toNat, 0, 0⟩ hi }
  else .next p.1

/-- A write of STAT_CTRL: GO starts, restarts, or is refused (R273). -/
def State.onStatCtrl (s : State) (u : Nat) (bits new : Word) : State :=
  let s := (s.setReg ⟨.statCtrl, u - 8, 0, 0⟩ new).put (statCtrl_GO (u - 8)) false
  if !strobe bits (statCtrl_GO (u - 8)) then s
  else if !s.on (tdcCfg_EN u) || s.rd (tdcCfg_MODE u) == 0 then s.put (statCtrl_REFUSED (u - 8)) true
  else (s.setTdcUnit u { s.tdcUnit u with
      stat := some { target := 2 ^ min 20 (s.rd (statCtrl_LOG2N (u - 8))) } }).put (statCtrl_BUSY (u - 8)) true

/-! PT_CAL (R274). -/

/-- PERIOD and WIDTH as they act. -/
def State.calPeriod (s : State) : Nat := max 16 (s.rd tdcCal_PERIOD)
def State.calWidth (s : State) : Nat := min (s.calPeriod - 1) (max 1 (s.rd tdcCal_WIDTH))

/-- Where this tick lies in PT_CAL's period, from k = 0 on: CAL_ORIGIN is compared under R49 (R274). -/
def State.calPhase (s : State) : Option Nat :=
  let origin := s.reg ⟨.calOrigin, 0, 0, 0⟩
  let d := dist48 s.ft origin
  if s.on tdcCal_EN ∧ timeDue origin s.ft ∧ 0 ≤ d then some (d.toNat % s.calPeriod) else none

/-- Whether PT_CAL has an edge in this tick. -/
def State.calDue (s : State) : Bool :=
  match s.calPhase with
  | some p => p == 0 || (p == s.calWidth && s.calHigh)
  | none => false

/-- PT_CAL_EDGE (R274): the scheduled rising edge at fine position FINE, which is a CAL start of the precision units; or the
falling edge WIDTH ticks after it. -/
def execPtCalEdge (s : State) : Host.Outcome State Fault Refusal :=
  match s.calPhase with
  | none => .next s
  | some p =>
      if p = 0 then
        let e : TdcEdge :=
          { due := s.tick + 4, src := 20, time := 1024 * s.ft.toNat + 64 * s.rd tdcCal_FINE,
            real := 1024 * s.tick + 64 * s.rd tdcCal_FINE, inst := 1024 * s.tick + 64 * s.rd tdcCal_FINE }
        .next ({ s with tdcEdges := s.tdcEdges ++ [e], calHigh := true }.send (.ptCal true s.tick (s.rd tdcCal_FINE)))
      else if p = s.calWidth ∧ s.calHigh then
        .next ({ s with calHigh := false }.send (.ptCal false s.tick (s.rd tdcCal_FINE)))
      else .next s

/-- A write of TDC.CAL: with EN = 0 PT_CAL drives low (R274). -/
def State.onTdcCal (s : State) (new : Word) : State :=
  let s := s.setReg ⟨.tdcCal, 0, 0, 0⟩ new
  if s.calHigh && !s.on tdcCal_EN then { s with calHigh := false }.send (.ptCal false s.tick 0) else s

end Sys2Proof.Machine
end

