-- ==== Sys2Proof/Machine/Monitor.lean ====
section
/-! DEFINITION. The monitor ADCs of the bias dies (09 R277-R283). -/

namespace Sys2Proof.Machine

open Fld

/-- A readback due for drift tracking (R249, R280). -/
def State.trackDue (s : State) (d : Nat) : Option Nat :=
  (List.range 192).find? (fun b => s.tracked d b
    && decide (Tab.get (s.mon d).tracked b 0 + max 1 (s.rd (bdieCtrl_TRACK_PERIOD d)) * 1000000 ≤ s.tick))

/-- The next conversion is chosen: urgent, tracking, sequence (R280). -/
def State.monChoose (s : State) (d : Nat) : State :=
  let x := s.mon d
  let conv :=
    if x.urgent then some .urgent
    else match s.trackDue d with
      | some b => if s.on (monCtrl_EN d) then some (.track b) else x.step.map (fun _ => .step)
      | none => x.step.map (fun _ => .step)
  s.setMon d { x with conv := conv }

/-- A start: ignored and counted while a sequence runs (R279). -/
def State.monStart (s : State) (d : Nat) : State :=
  if !s.on (monCtrl_EN d) then s
  else if s.on (monCtrl_BUSY d) then s.bump (monStatus_MISSED d)
  else
    let s := (s.setMon d { s.mon d with step := some 0, sum := 0, made := 0, beyond := false, stopping := false }).put (monCtrl_BUSY d) true
    if (s.mon d).conv.isNone then s.monChoose d else s

/-- A write of MON.CTRL: TRIG 0b11 leaves the field; EN := 0 stops after the conversion in progress,
whatever is written meanwhile;
START (R279, R283). -/
def State.onMonCtrl (s : State) (d : Nat) (bits new : Word) : State :=
  let old := s.rd (monCtrl_TRIG d)
  let new := if bitsOf new 2 2 = 3 then withBits new 2 2 old else new
  let s := (s.setReg ⟨.monCtrl, d, 0, 0⟩ new).put (monCtrl_START d) false
  let s := if bitsOf new 2 2 = 1 ∧ old ≠ 1 then s.setMon d { s.mon d with timerFrom := s.tick } else s
  let s := if s.on (monCtrl_EN d) then s
    else if (s.mon d).conv = some .step then s.setMon d { s.mon d with stopping := true }
    else (s.setMon d { s.mon d with step := none }).put (monCtrl_BUSY d) false
  if strobe bits (monCtrl_START d) then s.monStart d else s

/-- Whether the timer of a monitor ADC expires in this tick (R279). -/
def State.monTimerDue (s : State) (d : Nat) : Bool :=
  let t := (s.mon d).timerFrom
  s.rd (monCtrl_TRIG d) == 1 && decide (t < s.tick)
    && (s.tick - t) % (1000 * max 1 (s.rd (monCtrl_PERIOD d))) == 0

/-- MON_TIMER_START (R279). -/
def execMonTimerStart (d : BitVec 1) (s : State) : Host.Outcome State Fault Refusal :=
  .next (if s.monTimerDue d.toNat then s.monStart d.toNat else s)

/-- MON_SEAM_START (R279): the sampled start line starts a sequence, with TRIG = seam. -/
def execMonSeamStart (d : BitVec 1) (s : State) : Host.Outcome State Fault Refusal :=
  .next (if s.rd (monCtrl_TRIG d.toNat) = 2 then s.monStart d.toNat else s)

/-- A write of MON.URGENT: GO requests one step, or is refused (R281). -/
def State.onMonUrgent (s : State) (d : Nat) (bits new : Word) : State :=
  let x := s.mon d
  if !strobe bits (monUrgent_GO d) then s.setReg ⟨.monUrgent, d, 0, 0⟩ new
  else if x.urgent then
    ((s.setReg ⟨.monUrgent, d, 0, 0⟩ new).put (monUrgent_GO d) false).put (monUrgent_URG_REFUSED d) true
  else
    let s := (s.setReg ⟨.monUrgent, d, 0, 0⟩ new).put (monUrgent_GO d) false
    let s := s.setMon d { x with urgent := true, uInput := s.rd (monUrgent_INPUT d),
                                 uAvg := s.rd (monUrgent_AVG d), uSum := 0, uMade := 0, uOver := false }
    if x.conv.isNone then s.monChoose d else s

/-- The mean of 2^n codes, rounded to nearest (R278). -/
def monMean (sum : Int) (n : Nat) : Int := roundAway ((sum : Rat) / (2 ^ n : Nat))

/-- A result word (R278, R282). -/
def State.monWord (s : State) (d input : Nat) (code : Int) (beyond limit : Bool) (run : Nat) : Word :=
  BitVec.ofNat 64 (unsignedOf 16 code + (if beyond then 2 ^ 16 else 0) + (if limit then 2 ^ 17 else 0)
    + (if input < 192 then s.rd (biasStatus_CUR_RANGE d input) * 2 ^ 18 else 0) + input * 2 ^ 20 + run * 2 ^ 32)

/-- The urgent request's conversion has ended. -/
def State.monUrgentDone (s : State) (d : Nat) (code : Int) (beyond : Bool) : State :=
  let x := s.mon d
  let n := x.uAvg
  let x := { x with uSum := x.uSum + code, uMade := x.uMade + 1, uOver := x.uOver || beyond }
  if x.uMade < 2 ^ n then s.setMon d x
  else ((s.setMon d { x with urgent := false }).setReg ⟨.monUrgResult, d, 0, 0⟩
      (s.monWord d x.uInput (monMean x.uSum n) x.uOver false 0)).put (monUrgent_URG_DONE d) true

/-- The last conversion of a step has ended: its result, and the next step or the end of the sequence
(R279, R282). -/
def State.monStepDone (s : State) (d k : Nat) (x : MonRun) : State :=
  let code := monMean x.sum (s.rd (monStep0_AVG d k))
  let limit := s.on (monStep0_LIM_EN d k) && (x.beyond || decide (code < s.rdS (monStep1_LO d k))
    || decide (s.rdS (monStep1_HI d k) < code))
  let s := s.setReg ⟨.monResult, d, k, 0⟩
    (s.monWord d (s.rd (monStep0_INPUT d k)) code x.beyond limit (s.rd (monStatus_RUNS d)))
  let s := if limit then (s.bump (monStatus_LIMIT_HITS d)).pulse (507 + d) else s
  let x := { x with sum := 0, made := 0, beyond := false }
  if k < s.rd (monCtrl_LAST d) ∨ x.stopping then s.setMon d { x with step := some (k + 1) }
  else
    let s := (s.setMon d { x with step := none }).wr (monStatus_RUNS d) (s.rd (monStatus_RUNS d) + 1)
    ((s.put (monCtrl_BUSY d) false).put (monCtrl_DONE d) true).pulse (505 + d)

/-- A conversion of the running sequence has ended; after EN := 0 the sequence stops there, without DONE and
uncounted (R283). -/
def State.monSeqDone (s : State) (d : Nat) (code : Int) (beyond : Bool) : State :=
  let x := s.mon d
  match x.step with
  | none => s
  | some k =>
      let x := { x with sum := x.sum + code, made := x.made + 1, beyond := x.beyond || beyond }
      let s := if x.made < 2 ^ s.rd (monStep0_AVG d k) then s.setMon d x else s.monStepDone d k x
      if !x.stopping then s
      else (s.setMon d { s.mon d with step := none, stopping := false }).put (monCtrl_BUSY d) false

/-- One code of a multiplexer input (R277): of a readback in pA, or nV in the voltage range, a part of the range in
use; of a temperature diode in millionths of a degree; of a supply, the reference or ground in µV. -/
def State.monLsb (s : State) (d input : Nat) : Rat :=
  if input < 192 then
    let r := s.rd (biasStatus_CUR_RANGE d input)
    5 * fullScale r / (4 * 32768) * (if r = 3 then 1000000000 else 1000000000000)
  else if input < 200 then 1000000 / 128
  else 500

/-- The code of a signal in LSB, limited to ±32,767, and whether it passes that level by more than half a code
(R278). -/
def monCode (x : Rat) : Int × Bool := (max (-32767) (min 32767 (roundAway x)), decide (65535 < 2 * ratAbs x))

/-- The input that the conversion in progress converts (R279-R281). -/
def State.monInput (s : State) (d : Nat) : Option Nat :=
  match (s.mon d).conv with
  | none => none
  | some .urgent => some (s.mon d).uInput
  | some (.track b) => some b
  | some .step => (s.mon d).step.map (fun k => s.rd (monStep0_INPUT d k))

/-- MON_CONVERSION_DONE (R277, R278, R280-R282): the conversion in progress ends, with the signal that the input's
ball or sensor carries in the unit of `State.monLsb`; the next one is chosen. -/
def execMonConversionDone (d : BitVec 1) (signal : Int) (s : State) :
    Host.Outcome State Fault Refusal :=
  let d := d.toNat
  match s.monInput d with
  | none => .next s
  | some input =>
      let c := monCode ((signal : Rat) / s.monLsb d input)
      match (s.mon d).conv with
      | none => .next s
      | some .urgent => .next ((s.monUrgentDone d c.1 c.2).monChoose d)
      | some (.track b) =>
          .next ((s.setMon d { s.mon d with tracked := Tab.set (s.mon d).tracked b s.tick,
                                            readback := some (b, c.1) }).monChoose d)
      | some .step => .next ((s.monSeqDone d c.1 c.2).monChoose d)

/-- A monitor ADC that converts nothing takes up a tracking conversion that has fallen due (R249, R280). -/
def State.monTick (s : State) : State :=
  s.each ([0, 1].filter (fun d => s.bitAt dieStatus_BREADY d && (s.mon d).conv.isNone && (s.trackDue d).isSome))
    State.monChoose

end Sys2Proof.Machine
end

