-- ==== Sys2Proof/Machine/Seam.lean ====
section
/-! DEFINITION. The seam matrix: channels, tack cells, timers, claims, the event log (10
R284-R300). -/

namespace Sys2Proof.Machine

open Fld

/-! Levels (R285, R286). -/

def State.tack (s : State) (n : Nat) : TackRun := Tab.get s.tacks n {}

/-- The cells whose registers have been written. -/
def State.cellsUsed (s : State) : List Nat :=
  ascending ((s.regs.filterMap (fun p => if p.1.name = .tack0 then some p.1.i else none)).eraseDups)

/-- Level sources that are high (R284): tack cells, PWM timers, critical temperature. -/
def State.levelsNow (s : State) : List Nat :=
  ((s.cellsUsed.filter (fun n => (s.tack n).out)).map (fun n => 64 + n))
    ++ ((s.timers.filter (fun t => t.2.level)).map (fun t => 128 + t.1))
    ++ (if s.on pwr_CRIT_HOLD then [499] else [])

/-- The channels that route a level source that is high. -/
def State.chHighNow (s : State) : List Nat :=
  let high := s.levelsNow
  if high.isEmpty then [] else s.chansUsed.filter (fun n => high.any (routes (s.chWord n)))

/-- A channel as a level: high in each tick that carries an event, and while a level source is high,
2 ticks behind it (R286, R287). -/
def State.chLevel (s : State) (n : Nat) : Bool := s.seamNow.contains n || s.seamLevels.ch2.contains n

/-- The output of an asynchronous channel as its sources stand (R288). -/
def State.asyncLevel (s : State) (n : Nat) : Bool := s.asyncNow.contains n || s.chHighNow.contains n

/-! Tack cells (R292, R293). -/

/-- Word 0 and word 1 of a cell in force. -/
def State.cell0 (s : State) (n : Nat) : Word := s.seamReg ⟨.tack0, n, 0, 0⟩
def State.cell1 (s : State) (n : Nat) : Word := s.seamReg ⟨.tack1, n, 0, 0⟩

/-- Input j of a cell: its number and KIND. -/
def State.cellIn (s : State) (n j : Nat) : Nat × Bool :=
  let f := bitsOf (s.cell1 n) (16 * j) 9
  (f % 256, f.testBit 8)

/-- Whether a cell's output does not depend on its inputs in the tick: disabled, or with its
flip-flop. -/
def State.cellHeld (s : State) (n : Nat) : Bool :=
  bitsOf (s.cell0 n) 36 1 == 0 || bitsOf (s.cell0 n) 16 1 == 1

/-- Cells in an order in which each follows the cells its output depends on in the same tick; a round
adds those that can be added. -/
def State.cellOrder (s : State) : Nat → List Nat → List Nat → List Nat
  | 0, done, _ => done
  | k + 1, done, rest =>
      let ready := rest.filter (fun n => s.cellHeld n || (List.range 4).all (fun j =>
        let i := s.cellIn n j
        !i.2 || done.contains (i.1 % 64) || !(rest.contains (i.1 % 64))))
      if ready.isEmpty then done
      else s.cellOrder k (done ++ ready) (rest.filter (fun n => !ready.contains n))

/-- What a cell shows in this tick beside its LUT output, given the outputs of the cells before it and
whether its filter has held long enough. -/
def TackRun.after (x : TackRun) (v : Bool) (filt tick : Nat) (expire : Bool) : TackRun × Bool :=
  let since := if v = x.lut then x.since else tick
  let due := decide (filt ≠ 0) && decide (since + filt ≤ tick) && v != x.filt
  ({ x with lut := v, since := since, filt := if filt = 0 ∨ (due ∧ expire) then v else x.filt }, due)

/-- The output of a cell that needs no evaluation of its inputs. -/
def State.heldOut (s : State) (n : Nat) : Bool :=
  if bitsOf (s.cell0 n) 36 1 = 0 then bitsOf (s.cell0 n) 17 1 == 1 else (s.tack n).ff

/-- Every used cell evaluated in order: its data after the tick, its output, whether its filter is
due.  Cells with a flip-flop show it; their LUT and filter are evaluated from the outputs of all. -/
def State.evalCells (s : State) (expire : Bool) : List (Nat × TackRun × Bool × Bool) :=
  let used := s.cellsUsed
  let order := s.cellOrder 65 [] used
  let outs : List (Nat × Bool) := (used.filter s.cellHeld).map (fun n => (n, s.heldOut n))
  let step (r : List (Nat × TackRun × Bool × Bool) × List (Nat × Bool)) (n : Nat) :=
    let bit (j : Nat) : Nat :=
      let i := s.cellIn n j
      let b := if i.2 then Tab.get r.2 (i.1 % 64) (s.heldOut (i.1 % 64)) else s.chLevel i.1
      if b then 2 ^ j else 0
    let v := (bitsOf (s.cell0 n) 0 16).testBit (bit 0 + bit 1 + bit 2 + bit 3)
    let p := (s.tack n).after v (bitsOf (s.cell0 n) 24 8) s.tick expire
    let out := if s.cellHeld n then s.heldOut n else p.1.filt
    (r.1 ++ [(n, p.1, out, p.2)], Tab.set r.2 n out)
  -- cells without a flip-flop come first, so that every output is known to those with one
  let comb := order.filter (fun n => !s.cellHeld n)
  let held := order.filter s.cellHeld
  ((comb ++ held).foldl step ([], outs)).1

/-- Whether the matrix holds a combinational cycle (R293, 12 R353 U3). -/
def State.cyclic (s : State) : Bool := (s.cellOrder 65 [] s.cellsUsed).length != s.cellsUsed.length

/-- The cells whose filter output changes in this tick, each after those it depends on. -/
def State.filtersDue (s : State) : List Nat :=
  ((s.evalCells true).filter (fun c => c.2.2.2 && bitsOf (s.cell0 c.1) 36 1 == 1)).map (fun c => c.1)

/-- TACK_FILTER_EXPIRY (R292): the LUT output has held for F ticks; the filter output takes it. -/
def execTackFilterExpiry (n : BitVec 6) (s : State) : Host.Outcome State Fault Refusal :=
  let n := n.toNat
  match (s.evalCells false).find? (fun c => c.1 == n && c.2.2.2) with
  | none => .next s
  | some c => .next { s with tacks := Tab.set s.tacks n { c.2.1 with filt := c.2.1.lut, out := (s.tack n).out } }

/-- The cells at the end of a tick: their outputs, and what the flip-flops show in the next; a cell
not in use shows INIT (R292). -/
def State.tackTick (s : State) : State :=
  let s := if s.cyclic then s.undefined 3 else s
  s.each (s.evalCells false) (fun s c =>
    let n := c.1
    let y : TackRun := { c.2.1 with ff := c.2.1.filt, out := c.2.2.1, prev := (s.tack n).out }
    let off := bitsOf (s.cell0 n) 36 1 == 0
    let init := bitsOf (s.cell0 n) 17 1 == 1
    -- the INIT in force shows in this tick; an enable that lands in it takes the INIT written with it
    let next := s.on (tack0_INIT n)
    let z : TackRun :=
      { ff := next, filt := next, lut := next, since := s.tick + 1, out := init, prev := (s.tack n).out }
    let y := if off then z else y
    { s with tacks := Tab.set s.tacks n y })

/-- In the tick after a cell's output has changed, the cell writes its decision slot with the new
output (06 R168, R170). -/
def State.tackWrites (s : State) : State :=
  s.each (s.tacks.filter (fun c => c.2.out != c.2.prev && s.mapOn (decTack_EN c.1))) (fun s c =>
    s.writeSlot (s.mapRd (decTack_SLOT c.1))
      (decisionWord (if c.2.out then 1 else 0) (s.ft - 1) false false false 0 2 0 (s.rd eswId_DEV))
      (.tack c.1) none)

/-! Timers (R294, R295). -/

/-- A timer starts, unless it runs; a stop of the same tick wins (R295). -/
def State.timerStart (s : State) (k : Nat) : State :=
  if s.seamLevels.stops.contains k then s
  else if (Tab.find s.timers k).isSome then s.bump (tmrCfg_IGN k)
  else
    let p := max 2 (s.rd (tmrTime_PERIOD k))
    let c := s.rd (tmrTime_COMPARE k)
    let x : TimerRun := { from_ := s.tick, p := p, c := c, level := s.rd (tmrCfg_MODE k) == 2 && decide (0 < c) }
    { s with timers := Tab.set s.timers k x }.put (tmrCfg_RUNNING k) true

/-- A timer stops; its output is low. -/
def State.timerStop (s : State) (k : Nat) : State :=
  { s with timers := Tab.erase s.timers k }.put (tmrCfg_RUNNING k) false

/-- A timer is stopped in this tick, from which its output is low: a pulse of the tick does not come, and nothing
starts it in the tick (R294, R295). -/
def State.timerHalt (s : State) (k : Nat) : State :=
  { s.timerStop k with seamRaised := s.seamRaised.erase (128 + k), seamLevels.stops := k :: s.seamLevels.stops }

/-- CFG of a timer as in force in this tick (R289). -/
def State.tmrWord (s : State) (k : Nat) : Word := s.seamReg ⟨.tmrCfg, k, 0, 0⟩

/-- Whether a channel stops a timer in this tick. -/
def State.timerHeld (s : State) (k : Nat) : Bool :=
  bitsOf (s.tmrWord k) 6 1 == 1 && s.seamNow.contains (bitsOf (s.tmrWord k) 16 8)

/-- The channels that start and stop timers; the stop wins (R294, R295). -/
def State.timerChannels (s : State) : State :=
  if s.seamNow.isEmpty then s
  else s.each (List.range 16) (fun s k =>
    if s.timerHeld k then s.timerHalt k
    else if s.on (tmrCfg_START_EN k) && s.seamNow.contains (s.rd (tmrCfg_START_CH k)) then s.timerStart k
    else s)

/-- Whether a running timer reaches a boundary in this tick (R294). -/
def TimerRun.due (x : TimerRun) (pwm : Bool) (tick : Nat) : Bool :=
  decide (x.from_ + x.p ≤ tick) || (pwm && x.level && decide (x.c < x.p) && decide (x.from_ + x.c ≤ tick))

/-- A timer for which no tick has passed. -/
def TimerRun.later (x : TimerRun) : TimerRun := { x with from_ := x.from_ + 1 }

/-- TIMER_EXPIRY (R294): the end of a period, or of the high part of a PWM period. -/
def execTimerExpiry (k : BitVec 4) (s : State) : Host.Outcome State Fault Refusal :=
  let k := k.toNat
  match Tab.find s.timers k with
  | none => .next s
  | some x =>
      let mode := s.rd (tmrCfg_MODE k)
      if !x.due (mode == 2) s.tick then .next s
      else if s.tick < x.from_ + x.p then
        let y : TimerRun := { x with level := false }
        .next { s with timers := Tab.set s.timers k y }
      else if mode = 0 then .next ((s.timerStop k).pulse (128 + k))
      else
        let p := max 2 (s.rd (tmrTime_PERIOD k))
        let c := s.rd (tmrTime_COMPARE k)
        let y : TimerRun := { from_ := x.from_ + x.p, p := p, c := c, level := mode == 2 && decide (0 < c) }
        let s := { s with timers := Tab.set s.timers k y }
        .next (if mode = 2 then s else s.pulse (128 + k))

/-- Whether forest time reaches a timer's ORIGIN in this tick, by its count or by a load (R294). -/
def State.originDue (s : State) (k : Nat) : Bool :=
  let at_ := s.reg ⟨.tmrOrigin, k, 0, 0⟩
  bitsOf (s.tmrWord k) 7 1 == 1 && timeDue at_ s.ft && !timeDue at_ s.ftWas

/-- TIMER_ORIGIN (R294, R295). -/
def execTimerOrigin (k : BitVec 4) (s : State) : Host.Outcome State Fault Refusal :=
  let k := k.toNat
  if s.originDue k && !s.timerHeld k then .next (s.timerStart k) else .next s

/-! The event log (R300). -/

/-- The words of this tick enter the log, at most four, in ascending channel; events of asynchronous channels from
when no tick ran are stamped here, at the first tick edge after them. -/
def State.logTick (s : State) : State :=
  let chans := ascending (((s.seamLevels.late ++ s.asyncNow).eraseDups ++ s.seamNow.filter (fun n => decide (32 ≤ n))).filter
    (fun n => bitsOf (s.chWord n) 33 1 == 1))
  let word (n : Nat) : Word :=
    BitVec.ofNat 64 (s.ft.toNat % 2 ^ 48 + n * 2 ^ 48 + (if n < 32 then 2 ^ 56 else 0))
  let q := (chans.take 4).foldl (fun (q : EvQueue) n => (q.push 1024 (word n)).1) s.evLog
  { s with evLog := { q with dropped := q.dropped + (chans.length - 4) }, seamLevels.late := [] }

/-- A pop of LOG_DATA (R271, R297, R300). -/
def State.popLog (s : State) (domain : Nat) : State × MStatus × Word :=
  if s.rd claimLog_HOLDER ≠ domain + 1 then (s.bump seamStatus_DENIED, .denied, 0)
  else
    let p := s.evLog.pop
    let bad := s.evLog.headBad
    let s := { s with evLog := p.2.2 }
    let s := if p.2.1 then s.put logStatus_UNDERRUN true
      else if bad then (s.put logStatus_POISON true).bump logStatus_POISON_COUNT else s
    (s, .ok, p.1)

/-- LOG_POP (R300). -/
def execLogPop (req : Requester) (s : State) : Host.Outcome State Fault Refusal :=
  let p := s.popLog req.domain
  let hi := BitVec.ofNat 32 (p.2.2.toNat / 2 ^ 32)
  if p.2.1 = .ok then .next { p.1 with shadows := Tab.set p.1.shadows ⟨.logData, 0, 0, 0⟩ hi } else .next p.1

/-- A write of LOG_STATUS (R300). -/
def State.onLogStatus (s : State) (bits new : Word) : State :=
  let s := (s.setReg ⟨.logStatus, 0, 0, 0⟩ new).put logStatus_FLUSH false
  if strobe bits logStatus_FLUSH then { s with evLog := { s.evLog with words := [] } } else s

/-! Register writes under ownership (R288-R291). -/

/-- A refused write: nothing changes, and DENIED counts. -/
def State.seamDeny (s : State) : State × MStatus := (s.bump seamStatus_DENIED, .denied)

/-- The owner of a source (R291). -/
def State.srcOwner (s : State) (n : Nat) : Nat := bitsOf (s.reg ⟨.srcOwn, n / 16, 0, 0⟩) (4 * (n % 16)) 3

/-- Whether a requester may change an object from `old` to `new`, given its OWNER and SECURE bits
(R290): those two only by domain 0 with the object disabled, the rest only by the owner. -/
def seamAllowed (req : Requester) (en : Bool) (owner secure : Nat) (ownChanged restChanged : Bool) : Bool :=
  let asOwner := req.domain == owner && (secure == 0 || req.secure)
  (!ownChanged || (req.domain == 0 && !en)) && (!restChanged || asOwner)
    && (ownChanged || restChanged || asOwner || req.domain == 0)

/-- Reserved values of a 3-bit owner leave the field. -/
def keepOwner (old new : Word) (lo : Nat) : Word :=
  if 5 ≤ bitsOf new lo 3 then withBits new lo 3 (bitsOf old lo 3) else new

/-- A write of a channel (R288-R290); any accepted write zeroes MERGED, and events still in its
synchroniser are discarded. -/
def State.onSeamCh (s : State) (n : Nat) (req : Requester) (new : Word) : State × MStatus :=
  let r : Reg := ⟨.seamCh, n, 0, 0⟩
  let old := s.reg r
  let new := keepOwner old new 35
  let rest (w : Word) : Word := withBits (withBits w 35 4 0) 48 16 0
  if !seamAllowed req (bitsOf old 32 1 == 1) (bitsOf old 35 3) (bitsOf old 38 1)
      (bitsOf old 35 4 != bitsOf new 35 4) (rest old != rest new) then s.seamDeny
  else
    let own := bitsOf new 35 3
    let srcs := bitsOf new 0 9 :: (if bitsOf new 9 1 = 1 then [bitsOf new 16 9] else [])
    if bitsOf new 32 1 = 1 ∧ ((n < 32 ∧ !srcs.all asyncSource) ∨ srcs.any (fun x => s.srcOwner x != own)) then
      (s.put seamStatus_CFG_REFUSED true, .ok)
    else
      let s := { s with seamPipe := s.seamPipe.filter (fun p => decide (n < 32) || !(p.1 == n)) }
      (s.seamWrite r (withBits new 48 16 0), .ok)

/-- Whether the inputs of a cell name a channel or cell of another owner, or a cell above 63. -/
def State.cellRefused (s : State) (own : Nat) (w1 : Word) : Bool :=
  (List.range 4).any (fun j =>
    let f := bitsOf w1 (16 * j) 9
    let i := f % 256
    if f.testBit 8 then decide (63 < i) || s.rd (tack0_OWNER i) != own else s.rd (seamCh_OWNER i) != own)

/-- A write of word 0 of a tack cell (R289, R290, R292). -/
def State.onTack0 (s : State) (n : Nat) (req : Requester) (new : Word) : State × MStatus :=
  let r : Reg := ⟨.tack0, n, 0, 0⟩
  let old := s.reg r
  let new := keepOwner old new 32
  let en := bitsOf old 36 1 == 1
  if !seamAllowed req en (bitsOf old 32 3) 0 (bitsOf old 32 3 != bitsOf new 32 3)
      (withBits old 32 3 0 != withBits new 32 3 0) then s.seamDeny
  else if bitsOf new 36 1 = 1 ∧ s.cellRefused (bitsOf new 32 3) (s.reg ⟨.tack1, n, 0, 0⟩) then
    (s.put seamStatus_CFG_REFUSED true, .ok)
  else (s.seamWrite r new, .ok)

/-- A write of word 1 of a tack cell. -/
def State.onTack1 (s : State) (n : Nat) (req : Requester) (new : Word) : State × MStatus :=
  if req.domain ≠ s.rd (tack0_OWNER n) then s.seamDeny
  else (s.seamWrite ⟨.tack1, n, 0, 0⟩ new, .ok)

/-- A write of SRC_OWN (R291): by domain 0 only; refused while an enabled channel of another owner
routes a source that changes. -/
def State.onSrcOwn (s : State) (i : Nat) (req : Requester) (new : Word) : State × MStatus :=
  let r : Reg := ⟨.srcOwn, i, 0, 0⟩
  let old := s.reg r
  let new := (List.range 16).foldl (fun w j => keepOwner old w (4 * j)) new
  if req.domain ≠ 0 then s.seamDeny
  else if (List.range 16).any (fun j =>
      let own := bitsOf new (4 * j) 3
      own != bitsOf old (4 * j) 3
        && ((List.range 256).any (fun n => routes (s.reg ⟨.seamCh, n, 0, 0⟩) (16 * i + j)
          && s.rd (seamCh_OWNER n) != own))) then
    (s.put seamStatus_CFG_REFUSED true, .ok)
  else (s.setReg r new, .ok)

/-- A write of SEAM.TASK: by domain 0 only. -/
def State.onSeamTask (s : State) (req : Requester) (new : Word) : State × MStatus :=
  if req.domain ≠ 0 then s.seamDeny else (s.setReg ⟨.seamTask, 0, 0, 0⟩ new, .ok)

/-- Whether a domain holds a timer (R297). -/
def State.holdsTimer (s : State) (k domain : Nat) : Bool := s.rd (claimTmr_HOLDER k) == domain + 1

/-- A write of TMR.CFG (R294, R295, R297): MODE written while running stops the timer; STOP wins over
GO. -/
def State.onTmrCfg (s : State) (k : Nat) (req : Requester) (bits new : Word) : State × MStatus :=
  if !s.holdsTimer k req.domain then s.seamDeny
  else
    let old := s.rd (tmrCfg_MODE k)
    let new := if bitsOf new 3 2 = 3 then withBits new 3 2 old else new
    let s := ((s.seamWrite ⟨.tmrCfg, k, 0, 0⟩ new).put (tmrCfg_GO k) false).put (tmrCfg_STOP k) false
    let s := if bitsOf new 3 2 ≠ old ∧ (Tab.find s.timers k).isSome then s.timerHalt k else s
    if strobe bits (tmrCfg_STOP k) then (s.timerHalt k, .ok)
    else if strobe bits (tmrCfg_GO k) && !s.timerHeld k then (s.timerStart k, .ok)
    else (s, .ok)

/-- A write of a timer's other registers (R297). -/
def State.onTmrReg (s : State) (r : Reg) (req : Requester) (new : Word) : State × MStatus :=
  if !s.holdsTimer r.i req.domain then s.seamDeny else (s.setReg r new, .ok)

/-! Claims (R296). -/

/-- A write of a claim register: a claim is taken when free, and released by its domain or domain 0;
only the holding domain changes the other fields.  `lo` is the place of DOMAIN, `width` the width of
HOLDER, `top` its largest defined value. -/
def State.onClaim (s : State) (r : Reg) (lo width top : Nat) (req : Requester) (new : Word) : State × MStatus :=
  let old := s.reg r
  let holder := bitsOf old 0 width
  let want := if top < bitsOf new 0 width then holder else bitsOf new 0 width
  let domain := bitsOf old lo 3
  let new := withBits (withBits new 0 width want) lo 3 domain
  if holder = 0 then
    if want = 0 then (s.setReg r old, .ok) else (s.setReg r (withBits new lo 3 req.domain), .ok)
  else if want = holder then
    if req.domain = domain then (s.setReg r new, .ok)
    else (if new = old then s else s.bump seamStatus_CLAIM_DENIED, .ok)
  else if want = 0 ∧ req.domain = domain then (s.setReg r new, .ok)
  else if want = 0 ∧ req.domain = 0 then (s.setReg r (withBits old 0 width 0), .ok)
  else (s.bump seamStatus_CLAIM_DENIED, .ok)

/-! Markers and start lines (R298, R299). -/

/-- Whether a marker is driven by a seam channel (R298). -/
def State.seamDriven (s : State) (m : Nat) : Bool := s.rd (claimMk_HOLDER m) == 17

/-- The pin of a seam-driven marker shows POL xor its channel: 3 ticks after a resynchronised channel,
with an asynchronous one at once; in Dormant only the latter acts (R288, R298). -/
def State.markPin (s : State) (m : Nat) : State :=
  let n := s.rd (claimMk_CH m)
  if s.dormant && decide (32 ≤ n) then s
  else
    let high := (if n < 32 then s.asyncLevel n else s.chLevel n) ^^ s.on (claimMk_POL m)
    if high = s.seamMarks.contains m then s
    else
      let s := { s with seamMarks := if high then m :: s.seamMarks else s.seamMarks.erase m }
      s.send (.marker m high (if n < 32 then s.tick else s.tick + 3) 0)

/-- The pins of all seam-driven markers at the end of a tick. -/
def State.markTick (s : State) : State :=
  let s := s.each (s.seamMarks.filter (fun m => !s.seamDriven m)) (fun s m =>
    { s with seamMarks := s.seamMarks.erase m }.send (.marker m false s.tick 0))
  s.each ((s.regs.filterMap (fun p => if p.1.name = .claimMk then some p.1.i else none)).filter s.seamDriven)
    State.markPin

/-- An event on a die's start line: within 40 ns of the one stretched last it merges into it; the sequence begins 40
to 60 ns and DELAY units of 20 ns after it, at a point of the die's own clock that no rule fixes
(09 R279; 10 R299; DESIGN CHOICE, log entry 8). -/
def State.startLine (s : State) (d : Nat) : State :=
  let near := match Tab.find s.monLast d with | some t => decide (s.tick < t + 40) | none => false
  if near then s
  else
    let s := { s with monLast := Tab.set s.monLast d s.tick }
    let wait := 40 + Config.unstated 4 [(d : Int), s.tick] % 21 + 20 * s.rd (monCtrl_DELAY d)
    { s with monLine := s.monLine ++ [(d, s.tick + wait)] }

/-! A tick of the matrix. -/

/-- A tick in which the tick domain stands still: nothing is carried, and what the synchronisers hold waits (R288;
DEDUCED, log entry 126). -/
def State.seamHold (s : State) : State :=
  { s with seamNow := [], seamPipe := s.seamPipe.map (fun p => (p.1, p.2 + 1)) }

/-- The start of a tick: channels carry the events made 2 ticks before; timers and start lines follow
them (R287, R294, R299). -/
def State.seamTick (s : State) : State :=
  let now := ascending ((s.seamPipe.filter (fun p => decide (p.2 ≤ s.tick))).map Prod.fst)
  let s := { s with seamNow := now, seamPipe := s.seamPipe.filter (fun p => decide (s.tick < p.2)) }
  let s := s.timerChannels
  let s := if s.on seamTask_MON0_EN && now.contains (s.rd seamTask_MON0_CH) then s.startLine 0 else s
  if s.on seamTask_MON1_EN && now.contains (s.rd seamTask_MON1_CH) then s.startLine 1 else s

/-- The events of level sources that have risen (R285). -/
def State.levelRises (s : State) : State :=
  s.each (s.levelsNow.filter (fun n => !s.seamLevels.src.contains n)) State.pulse

/-- The end of a tick: the cells, and the events of level sources that have risen. -/
def State.seamEnd (s : State) : State := s.tackTick.levelRises

/-- The step to the next tick: the pins that follow channels, the log, and what channels hold. -/
def State.seamShift (s : State) : State :=
  let s := if s.dormant then s.markTick
    else if !s.on timeStatus_PLL_LOCK then
      let s := s.markTick
      { s with seamLevels.late := s.seamLevels.late ++ s.asyncNow }
    else s.markTick.logTick
  let high := s.chHighNow
  { s with seamLevels.src := s.levelsNow, seamLevels.ch1 := high.filter s.chKeeps, seamLevels.ch2 := s.seamLevels.ch1.filter s.chKeeps,
           seamLevels.stops := [], asyncNow := [], seamOld := [] }

/-- Leaving Dormant: flip-flops take INIT, filters restart, timers are stopped (R288). -/
def State.seamWake (s : State) : State :=
  let s := s.each (s.timers.map Prod.fst) State.timerStop
  s.each s.cellsUsed (fun s n =>
    let init := s.on (tack0_INIT n)
    let y : TackRun := { ff := init, filt := init, lut := init, since := s.tick, out := init, prev := init }
    { s with tacks := Tab.set s.tacks n y })

end Sys2Proof.Machine
end

