-- ==== Sys2Proof/Machine/Power.lean ====
section
/-! DEFINITION. The power states (01 R20, R22-R27; 03 R24, R96, R100; 08 R247; 10 R299). -/

namespace Sys2Proof.Machine

open Fld

/-- GLOBAL.BOOT.STAGE of a device whose boot is complete (14, GLOBAL.BOOT). -/
def bootDone : Nat := 4

/-- Causes in GLOBAL.PWR.LAST_CAUSE. -/
def causeHost : Nat := 0
def causeCritical : Nat := 1
def causeWake : Nat := 2
def causeBoot : Nat := 3

/-- A request to leave Active is pending (R24, R96). -/
def State.leavePending (s : State) : Bool := s.active && s.on pwr_BUSY

/-- A transition begins. -/
def State.powerBegin (s : State) (target cause : Nat) : State :=
  { s.put pwr_BUSY true with pwrRun.target := some target, pwrRun.cause := cause, pwrRun.since := s.tick }

/-- The next transition that the state requested asks for, if any (R22, R23, R25, R378). -/
def State.powerNext (s : State) : State :=
  if s.on pwr_BUSY || s.rd globalBoot_STAGE != bootDone then s
  else
    match s.pwrRun.goal with
    | none => s
    | some g =>
        let cur := s.rd pwr_CUR
        if g = cur then { s with pwrRun.goal := none }
        else if cur = pwrStandby then
          if g = pwrActive ∧ s.on pwr_CRIT_HOLD then s else s.powerBegin g causeHost
        else s.powerBegin pwrStandby causeHost

/-- A transition completes: CUR, LAST_CAUSE, source 509; a held request is acted on (R22, R23, R26). -/
def State.powerDone (s : State) (cur cause : Nat) : State :=
  let s := (((s.wr pwr_CUR cur).put pwr_BUSY false).wr pwr_LAST_CAUSE cause).pulse 509
  { s with pwrRun.target := none, pwrRun.held := none,
           pwrRun.goal := match s.pwrRun.held with | some v => some v | none => s.pwrRun.goal }.powerNext

/-- A write of GLOBAL.PWR: REQ, with 0b11 without effect; held while BUSY and until boot completes; in
the tick of a wake event it stands alone (R22, R26, R378). -/
def State.onPwr (s : State) (new : Word) : State :=
  let v := bitsOf new 0 2
  if v = 3 then s
  else
    let s := { s.wr pwr_REQ v with pwrRun.wrote := some s.tick, wakeDue := false }
    if s.on pwr_BUSY && s.pwrRun.cause == causeWake && s.pwrRun.since == s.tick then
      { s.put pwr_BUSY false with pwrRun.target := none, pwrRun.goal := some v }.powerNext
    else if s.on pwr_BUSY || s.rd globalBoot_STAGE != bootDone then { s with pwrRun.held := some v }
    else { s with pwrRun.goal := some v }.powerNext

/-- WAKE_EVENT (R22, R26; 10 R299): in Dormant, and acted on unless a transition is in progress or the
host has written REQ in the same tick. -/
def execWakeEvent (s : State) : Host.Outcome State Fault Refusal :=
  let was := s.wakeDue && s.pwrRun.wrote != some s.tick
  let s := { s with wakeDue := false }
  if was && s.dormant && !s.on pwr_BUSY then
    .next { s.powerBegin pwrStandby causeWake with pwrRun.goal := none }
  else .next s

/-- Whether a thread is inside a shot scope, or runs the reset block of a replay (R22, R24; 12 R352). -/
def State.anyInScope (s : State) : Bool :=
  s.threads.any (fun p => (s.thread p.1).shot.isSome || (s.thread p.1).inBlock)

/-- Active is left (R24, R25): every launch ends with 0x0B, the outputs are ordered to park, and the
neighbours learn that the device is down (07 R228). -/
def State.leaveNow (s : State) (cause : Nat) : State :=
  let s := s.each Thr.all (fun s q => s.stopLaunch q 0x0B)
  ((s.powerDone pwrStandby cause).parkOrder true).tellSelf false

/-- LEAVE_ACTIVE (R24): in the tick after the last shot in progress has ended. -/
def execLeaveActive (s : State) : Host.Outcome State Fault Refusal :=
  if s.leavePending && !s.anyInScope then .next (s.leaveNow causeHost) else .next s

/-- The RF PLL leaves lock: forest time and the PTP clock are invalid (02 R37; 01 R27), a load that
has no tick left to happen at is dropped, the servo's intervals count anew, and the quadrant dies'
converter clocks are not locked (R20; DEDUCED, log entry 21). -/
def State.pllLost (s : State) : State :=
  let s := (((s.put timeStatus_PLL_LOCK false).put timeStatus_FT_VALID false).put timeStatus_PTP_LOCK false).wr
    dieStatus_QREADY 0
  { s with syncLoad := none, ptpGood := 0, ptpBad := 0, ptpRun := { s.ptpRun with sync := none, delay := none } }

/-- POWER_TRANSITION_COMPLETE (R22, R23, R27; 08 R247): a transition other than leaving Active. -/
def execPowerTransitionComplete (s : State) : Host.Outcome State Fault Refusal :=
  if s.active || !s.on pwr_BUSY then .next s
  else
    match s.pwrRun.target with
    | none => .next s
    | some g =>
        if g = pwrActive then
          .next (((s.powerDone pwrActive s.pwrRun.cause).parkOrder false).tellSelf true)
        else if g = pwrDormant then
          let s := (s.powerDone pwrDormant s.pwrRun.cause).pllLost.lanesDormant.dormantHold true
          .next { s with xtal.commit := true }
        else if s.on timeStatus_PLL_LOCK then
          .next ((s.powerDone pwrStandby s.pwrRun.cause).dormantHold false).lanesWake.seamWake
        else .next s

end Sys2Proof.Machine
end

