-- ==== Sys2Proof/Machine/Time.lean ====
section
/-! DEFINITION. The reference, SYNC_IN, skew calibration, the PTP clock and the latch
(02_forest_time). -/

namespace Sys2Proof.Machine

open Fld

/-! The reference and the PLL (R32-R37). -/

/-- The RF PLL relocks (R37). -/
def State.relockPll (s : State) : State := s.pllLost.put timeStatus_HOLDOVER false

/-- A write of TIME.REF_CFG: SRC and FREQ, and RELOCK, act in Standby only (R32, R37). -/
def State.onRefCfg (s : State) (bits new : Word) : State :=
  let src := bitsOf new 0 1
  let freq := bitsOf new 1 1
  let changes := src != s.rd refCfg_SRC || freq != s.rd refCfg_FREQ
  let relock := strobe bits refCfg_RELOCK
  if !changes && !relock then s
  else if s.rd pwr_CUR ≠ pwrStandby then s.put timeStatus_CFG_REFUSED true
  else (((s.wr refCfg_SRC src).wr refCfg_FREQ freq).wr timeStatus_LINEAGE src).relockPll

/-- Whether the RF PLL has a valid input and is powered (R35; 14 R377). -/
def State.pllInput (s : State) : Bool :=
  (s.on refCfg_SRC || s.on timeStatus_REF_OK) && (!s.dormant || s.on pwr_BUSY)

/-- PLL_LOCK (R34, R35). HOLDOVER that stood at entry to Dormant is cleared without a RELOCK (DEDUCED, log
entry 103; R37). -/
def execPllLock (s : State) : Host.Outcome State Fault Refusal :=
  if !s.on timeStatus_PLL_LOCK && s.pllInput then
    .next ((s.put timeStatus_PLL_LOCK true).put timeStatus_HOLDOVER false)
  else .next s

/-- REF_LOST (R36): REF_OK clears; a PLL locked to REF_IN enters holdover. -/
def execRefLost (s : State) : Host.Outcome State Fault Refusal :=
  if !s.on timeStatus_REF_OK then .next s
  else
    let s := s.put timeStatus_REF_OK false
    if !s.on refCfg_SRC && s.on timeStatus_PLL_LOCK then
      .next ((s.put timeStatus_HOLDOVER true).pulse 496)
    else .next s

/-- REF_OK_RESTORE (R37): REF_OK sets; holdover stays until RELOCK. -/
def execRefOkRestore (s : State) : Host.Outcome State Fault Refusal :=
  .next (s.put timeStatus_REF_OK true)

/-! The crystal (R38). -/

/-- XTAL_AGEING_UPDATE (R38): AGE_RATE / 86,400 is added to the internal accumulator, of which ACCUM
shows the value rounded. -/
def execXtalAgeingUpdate (s : State) : Host.Outcome State Fault Refusal :=
  let v : Int := s.rdS xtalAccum_ACCUM * 86400 + s.xtal.frac + s.rdS xtalTrim_AGE_RATE
  let shown := (v + 43200) / 86400
  .next { s.wr xtalAccum_ACCUM (unsignedOf 32 shown) with
    xtal.frac := v - shown * 86400, xtal.seconds := s.xtal.seconds + 1 }

/-- A write of ACCUM replaces the internal accumulator (R38); one of the reserved half alone does not. -/
def State.onXtalAccum (s : State) (h : Half) (new : Word) : State :=
  if h.covers 0 then { s.setReg ⟨.xtalAccum, 0, 0, 0⟩ new with xtal.frac := 0 } else s

/-! The PTP clock (R54, R55) and the latch (R57). -/

/-- The bounds of INCR: 0.999 ns and 1.001 ns in units of 2^-32 ns. -/
def incrLow : Nat := 4290672329
def incrHigh : Nat := 4299262263

/-- INCR set to a written value, clamped (R54). -/
def State.setIncr (s : State) (v : Nat) : State :=
  let w := max incrLow (min incrHigh v)
  let s := s.wr ptpIncr_INCR w
  if w = v then s else s.bump ptpIncr_CLAMP_COUNT

/-- A write of TIME.PTP_INCR (R54). -/
def State.onPtpIncr (s : State) (new : Word) : State := s.setIncr (bitsOf new 0 40)

/-- A step of the PTP clock at the next tick: PTP_LOCK clears (R55, R56). -/
def State.stepPtp (s : State) (v : Word) : State :=
  let s := s.put timeStatus_PTP_LOCK false
  { s with ptpStepNext := some ((s.ptpStepNext.getD 0) + v), ptpGood := 0 }

/-- The PTP clock in units of 2^-32 ns. -/
def State.ptpNow (s : State) : Nat := s.ptpNs.toNat * 2 ^ 32 + s.ptpFrac.toNat

/-- The PTP clock at the tick edge that begins a tick (R54, R55). -/
def State.ptpTick (s : State) : State :=
  let incr := s.rd ptpIncr_INCR
  let step := s.ptpStepNext
  let v := s.ptpNow + (step.getD 0).toNat * 2 ^ 32 + incr
  let last := match s.ptpMarks with | m :: _ => m.2.2 | [] => 2 ^ 32
  let s := { s with ptpNs := BitVec.ofNat 64 (v / 2 ^ 32), ptpFrac := BitVec.ofNat 32 v, ptpStepNext := none }
  if step.isNone ∧ incr = last then s
  else { s with ptpMarks := (s.tick, s.ptpNow, incr) :: s.ptpMarks.takeWhile (fun m => decide (s.tick < m.1 + 512)) }

/-- The PTP clock at an earlier tick, in units of 2^-32 ns. -/
def State.ptpAt (s : State) (age : Nat) : Nat :=
  match s.ptpMarks.find? (fun m => decide (m.1 + age ≤ s.tick)) with
  | some m => (m.2.1 + (s.tick - age - m.1) * m.2.2) % 2 ^ 96
  | none =>
      match s.ptpMarks.getLast? with
      | some m => (m.2.1 + 2 ^ 96 - (m.1 + age - s.tick) * 2 ^ 32) % 2 ^ 96
      | none => (s.ptpNow + 2 ^ 96 - age * 2 ^ 32) % 2 ^ 96

/-- A latch of both clocks at a tick edge `age` ticks ago; one latch for each tick (R57). -/
def State.latch (s : State) (age : Nat) : State :=
  if s.latchTick = some (s.tick - age) then s
  else
    let v := s.ptpAt age
    let ft := s.ftAt (s.tick - age)
    let s := if s.on latchCtrl_DONE then s.put latchCtrl_OVERWRITE true else s
    let s := s.put latchCtrl_DONE true
    let s := ((s.setReg ⟨.latchFt, 0, 0, 0⟩ ft).setReg ⟨.latchPtpNs, 0, 0, 0⟩
      (BitVec.ofNat 64 (v / 2 ^ 32))).setReg ⟨.latchPtpFrac, 0, 0, 0⟩ (BitVec.ofNat 64 (v % 2 ^ 32))
    { s with latchTick := some (s.tick - age) }

/-- A write of TIME.LATCH_CTRL (R57). -/
def State.onLatchCtrl (s : State) (bits new : Word) : State :=
  let s := s.setReg ⟨.latchCtrl, 0, 0, 0⟩ (withBits new 0 1 0)
  if strobe bits latchCtrl_GO then s.latch 0 else s

/-- A write of TIME.PTP_CFG: the exchange starts anew where it is enabled or moves; reserved TRANSPORT and ROLE and a DOMAIN above 127 leave their field
unchanged. -/
def State.onPtpCfg (s : State) (new : Word) : State :=
  let keep (w : Word) (f : RField) (bad : Bool) : Word := if bad then withBits w f.lo f.width (s.rd f) else w
  let w := keep new ptpCfg_TRANSPORT (bitsOf new 2 2 == 3)
  let w := keep w ptpCfg_ROLE (bitsOf new 5 2 == 3)
  let w := keep w ptpCfg_DOMAIN (decide (127 < bitsOf new 8 8))
  let old := s.reg ⟨.ptpCfg, 0, 0, 0⟩
  let s := s.setReg ⟨.ptpCfg, 0, 0, 0⟩ w
  if bitsOf old 0 16 == bitsOf w 0 16 && bitsOf old 24 1 == bitsOf w 24 1 then s
  else { s with ptpRun := { s.ptpRun with sync := none, delay := none, syncAt := none, announceAt := none,
                                          heard := some s.tick } }

/-! SYNC_IN (R40-R44). -/

/-- A write of TIME.SYNC_CTRL: ARM = 1 is refused while any thread runs or any queue holds commands
(R43); the other fields of a refused write are stored (DEDUCED, log entry 100).  ARM = 0 ends a load on its
way (log entry 85). -/
def State.onSyncCtrl (s : State) (new : Word) : State :=
  if !new.getLsbD 0 then { s.setReg ⟨.syncCtrl, 0, 0, 0⟩ new with syncLoad := none }
  else if !s.on syncCtrl_ARM && (s.anyRunning || s.threads.any (fun p => !(s.thread p.1).queue.isEmpty)) then
    (s.setReg ⟨.syncCtrl, 0, 0, 0⟩ (withBits new 0 1 0)).bump syncStat_ARM_REFUSED
  else s.setReg ⟨.syncCtrl, 0, 0, 0⟩ new

/-- The REF_IN period in ps. -/
def State.refPeriod (s : State) : Nat := if s.on refCfg_FREQ then 4000 else 10000

/-- The window of R40's condition 3, in half ps. -/
def State.marginGood (s : State) (margin : Nat) : Bool :=
  let g := 125 * s.rd syncCtrl_GUARD
  decide (g ≤ 2 * margin ∧ 2 * margin + g ≤ 2 * s.refPeriod ∧ g < s.refPeriod)

/-- SYNC_STAMP is written (R41, R42). -/
def State.stampSync (s : State) (w : Word) : State :=
  (s.setReg ⟨.syncStamp, 0, 0, 0⟩ w).put syncStat_STAMP_NEW true

/-- LOAD_DELAY as it acts (R41). -/
def State.loadDelay (s : State) : Nat := max 16 (s.rd syncCtrl_LOAD_DELAY)

/-- SYNC_EDGE (R40-R44): one candidate edge; a glitch is counted as one whatever ARM is (DEDUCED, log entry 102). Without a locked PLL there is no tick to place it against. -/
def execSyncEdge (e : SyncEdge) (s : State) : Host.Outcome State Fault Refusal :=
  let ref := !s.on refCfg_SRC
  if !s.on timeStatus_PLL_LOCK || e.before2 || e.before1 || !e.atE then .next s
  else if !e.after then .next (s.bump syncStat_GLITCH_REJ)
  else
    let s := if ref then s.wr syncStat_LAST_MARGIN (min e.margin 0xFFFF) else s
    let check := s.on syncCtrl_MODE
    if !check && !s.on syncCtrl_ARM then .next (s.bump syncStat_IGNORED)
    else if ref && !s.marginGood e.margin then .next (s.bump syncStat_MARGIN_REJ)
    else
      let s := if s.on latchCtrl_ON_SYNC then s.latch e.age else s
      if check then .next (s.stampSync (s.ftAt (s.tick - e.age)))
      else if s.syncLoad.isSome then .next s
      else .next { s with syncLoad := some ⟨s.tick + s.loadDelay - e.age, s.loadDelay⟩ }

/-- Forest time jumps (R41): what has been counted from it alone goes with it. -/
def State.jumpTo (s : State) (v : Word) : State :=
  { s with ftJump := some ⟨s.tick, s.ft⟩, ft := v }

/-- FOREST_TIME_LOAD (R41, R44; 07 R219): at its tick, unless ARM has been cleared. A margin that
is known only after that tick (R43's timeline) leaves the count as a load at that tick would.  A latch of
this tick takes the loaded count (R57). -/
def execForestTimeLoad (s : State) : Host.Outcome State Fault Refusal :=
  match s.syncLoad with
  | none => .next s
  | some x =>
      if s.tick < x.at_ then .next s
      else
        let s : State := { s with syncLoad := none }
        if !s.on syncCtrl_ARM then .next s
        else
          let corr := s.rdS skew_CORR
          let v := s.reg ⟨.syncLoad, 0, 0, 0⟩ + BitVec.ofInt 64 (corr / 256)
          let was := s.on timeStatus_FT_VALID
          let s : State := { s.jumpTo (v + BitVec.ofNat 64 (s.tick - x.at_)) with skewRem := BitVec.ofInt 8 (corr % 256) }
          let s := ((s.put timeStatus_FT_VALID true).put syncCtrl_ARM false).stampSync
            (v - BitVec.ofNat 64 x.delay)
          let s := if s.latchTick = some s.tick then s.setReg ⟨.latchFt, 0, 0, 0⟩ s.ft else s
          .next (if was then s.realignLanes else s)

/-! Skew calibration (R45). -/

/-- Whether the parent lane and forest time let a run go on (R45). -/
def State.skewOk (s : State) : Bool :=
  let l := s.rd skewCal_PARENT_LANE
  s.on timeStatus_FT_VALID && (s.on skewCal_ROOT || s.laneUp l)

/-- A write of TIME.SKEW_CAL (R45). -/
def State.onSkewCal (s : State) (bits new : Word) : State :=
  let s := s.setReg ⟨.skewCal, 0, 0, 0⟩ (withBits new 0 1 0)
  if !strobe bits skewCal_START || s.on skewCal_BUSY then s
  else if s.skewOk then { s.put skewCal_BUSY true with skewRun := { from_ := s.tick } }
  else (s.put skewCal_DONE true).put skewCal_ERR true

/-- θ_B,A averaged over N pairs (R45), in 1/256 tick: from the sums of t_r − t_s, of u_s and of u_r. -/
def skewTheta (n : Nat) (down sends arrivals : Int) : Rat := ((down - (arrivals - sends) : Int) : Rat) / (2 * n : Nat)

/-- Whether the markers of the run have been exchanged (R45): N in each direction; a root needs none. -/
def State.skewFull (s : State) : Bool :=
  s.on skewCal_ROOT || (decide (s.skewMarkers ≤ s.skewRun.received) && decide (s.skewMarkers ≤ s.skewRun.sent))

/-- SKEW_CAL_DONE (R45): once its markers have been exchanged, DELTA, with AUTO_APPLY added to CORR; ERR if
the parent lane has left Active or forest time is invalid on either device. -/
def execSkewCalDone (m : SkewResult) (s : State) : Host.Outcome State Fault Refusal :=
  let root := s.on skewCal_ROOT
  let left := !root && decide (s.skewRun.from_ < (s.lane (s.rd skewCal_PARENT_LANE)).since)
  let failed := m.failed || left || !s.skewOk
  if !s.on skewCal_BUSY || (!failed && !s.skewFull) then .next s
  else
    let x := s.skewRun
    let s := (s.put skewCal_BUSY false).put skewCal_DONE true
    if failed then .next (s.put skewCal_ERR true)
    else
      let theta := skewTheta s.skewMarkers x.down x.sends m.arrivals + (m.parentNum : Rat) / (m.parentDen : Rat)
      let delta : Int := if root then 0 else roundAway (-theta)
      let s := (s.wr skewCal_DELTA (unsignedOf 24 delta)).wr skewCal_HOPS (if root then 0 else m.parentHops + 1)
      .next (if s.on skewCal_AUTO_APPLY then s.wr skew_CORR (unsignedOf 24 (s.rdS skew_CORR + delta)) else s)

end Sys2Proof.Machine
end

