-- ==== Sys2Proof/Machine/Heat.lean ====
section
/-! DEFINITION. The canopy model, the cryostat heat ledger, and the throttling level (13_heat). -/

namespace Sys2Proof.Machine

open Fld

/-! Sensors (R354, R355, R358). -/

/-- Temperatures of R359, R365 and R370 in 1/64 degree. -/
def critTemp : Int := 112 * 64
def releaseTop : Int := 100 * 64
def windowTop : Int := 90 * 64

/-- A sensor is marked bad, with its cause (R358). -/
def State.markSensor (s : State) (n cause : Nat) : State :=
  if s.bitAt sensBad_BAD n then s
  else (((s.putBit sensBad_BAD n true).put (sensor_BAD n) true).wr sensBad_LAST_CAUSE cause).wr
    sensBad_LAST_SENSOR n

/-- The mean power over an interval in mW, to the nearest (R355). -/
def SensorSample.power (x : SensorSample) : Nat :=
  (roundAway ((x.points.foldl (fun (z : Int) p => z + p.1 * p.2) 0 : Int) / ((1000 * x.points.length : Nat) : Rat))).toNat

/-- One sensor at an update: its checks, then P_s (R355, R358). -/
def State.senseUpdate (s : State) (n : Nat) (x : SensorSample) : State :=
  let run : Int × Nat := Tab.get s.heat.codes n (x.code, 0)
  let same := if run.1 = x.code then run.2 + 1 else 1
  let s := { s with heat := { s.heat with codes := Tab.set s.heat.codes n (x.code, min same 1000) } }
  let s := if 1000 ≤ same then s.markSensor n 1 else s
  let s := if x.share < -100 then s.markSensor n 2 else s
  let s := if x.beyond then s.markSensor n 3 else s
  s.wr (sensor_P n) (if s.bitAt sensBad_BAD n then s.rd (sensor_PMAX n) else min x.power 0xFFFF)

/-- A write of CANOPY.SENS_BAD (R358): BAD bits written 1 clear, and their copies with them. -/
def State.onSensBad (s : State) (new : Word) : State :=
  let s := s.setReg ⟨.sensBad, 0, 0, 0⟩ new
  s.each (List.range 24) (fun s n => s.put (sensor_BAD n) (s.bitAt sensBad_BAD n))

/-! The plate and the nodes (R356, R357). -/

/-- A node's temperature, as its register shows it and as the model holds it. -/
def State.nodeTemp (s : State) (n : Nat) : Int := s.rdS (node_TEMP n)
def State.nodeExact (s : State) (n : Nat) : Rat := s.heat.nodes.getD n (s.nodeTemp n : Rat)

/-- The nodes at given temperatures, with their registers to the nearest 1/64 degree. -/
def State.setNodes (s : State) (ts : List Rat) : State :=
  { s with heat := { s.heat with nodes := ts } }.each ((List.range 96).zip ts) (fun s p =>
    s.wr (node_TEMP p.1) (unsignedOf 16 (max (-32768) (min 32767 (roundAway p.2)))))

/-- A node after one step of the network, from the temperatures, the powers of the sensors in mW and the plate
(R356). -/
def CanopyNet.after (g : CanopyNet) (temp : Nat → Rat) (power : Nat → Nat) (plate : Int) (n : Nat) : Rat :=
  let t := temp n
  let sum (l : List ((Nat × Nat) × Rat)) (f : Nat → Rat) : Rat :=
    (l.filter (fun e => e.1.1 == n)).foldl (fun z e => z + e.2 * f e.1.2) 0
  t + sum g.source (fun i => (power i : Rat)) + sum g.link (fun m => temp m - t)
    + (Tab.get g.plate n 0) * ((plate : Rat) - t)

/-- The plate temperature in use (R357). -/
def State.plateTemp (s : State) : Int :=
  if s.on canopyCfg_PLATE_SRC then s.rdS canopyCfg_PLATE_HOST
  else if s.on canopyStatus_PLATE_FAILED then s.rdS canopyCfg_PLATE_FAIL
  else s.rdS plate_ESTIMATE

/-- The highest and lowest of a list of temperatures with the first node that has the highest. -/
def hottest : List (Nat × Int) → Nat × Int × Int
  | [] => (0, 0, 0)
  | [p] => (p.1, p.2, p.2)
  | p :: q :: rest =>
      let r := hottest (q :: rest)
      (if r.2.1 ≤ p.2 then p.1 else r.1, max p.2 r.2.1, min p.2 r.2.2)

/-- TJ_MAX, TJ_MIN and HOT_NODE over nodes 0 to 87 (R356). -/
def State.junctions (s : State) : State :=
  let r := hottest ((List.range 88).map (fun n => (n, s.nodeTemp n)))
  ((s.wr canopyStatus_TJ_MAX (unsignedOf 16 r.2.1)).wr canopyStatus_TJ_MIN (unsignedOf 16 r.2.2)).wr
    canopyStatus_HOT_NODE r.1

/-- Whether a diode is valid (R357). -/
def State.diodeValid (s : State) (d : Nat) : Bool :=
  !s.on (diode_DIODE_BAD d) && !s.bitAt sensBad_BAD (s.rd (diode_SENSOR d))

/-- One diode reading: its range, and the disagreement of a diode that is not excluded with its node at
three readings in a row (R357, R358; DEDUCED, log entry 52). -/
def State.readDiode (s : State) (d : Nat) (v : Int) : State :=
  let bad := decide (v < -3200 ∨ 9600 < v)
  let s := (s.wr (diode_READING d) (unsignedOf 16 v)).put (diode_DIODE_BAD d) bad
  let diff := v - s.nodeTemp (s.rd (diode_NODE d))
  let s := s.wr (diode_DIFF d) (unsignedOf 16 diff)
  let far := decide (8 * 64 < diff.natAbs) && s.on canopyStatus_MODEL_VALID && !bad
  let n := if far then Tab.get s.heat.apart d 0 + 1 else 0
  let s := { s with heat := { s.heat with apart := Tab.set s.heat.apart d (min n 3) } }
  if 3 ≤ n then s.markSensor (s.rd (diode_SENSOR d)) 4 else s

/-- The mean over the valid diodes of the reading less the modelled rise of its node above the plate
(R357); before the model is initialised no rise is modelled. -/
def State.plateMean (s : State) (valid : List Nat) : Rat :=
  let plate := s.plateTemp
  let sum := valid.foldl (fun (z : Int) d =>
    z + s.rdS (diode_READING d)
      - (if s.on canopyStatus_MODEL_VALID then s.nodeTemp (s.rd (diode_NODE d)) - plate else 0)) 0
  (sum : Rat) / (valid.length : Rat)

/-- The filtered estimate after 1 ms: a first-order filter of time constant 1 s (R357; DEDUCED, log entry 25). -/
def filterPlate (old : Option Rat) (mean : Rat) : Rat :=
  match old with
  | none => mean
  | some e => if e = mean then e else e + (mean - e) * Config.decay 1 1000

/-- Whether the firmware runs the model (R357; 14 R377). -/
def State.modelRuns (s : State) : Bool :=
  s.rd globalBoot_STAGE == 3 || s.rd globalBoot_STAGE == bootDone

/-- DIODE_READ (R357, R358): the sixteen readings in 1/64 degree; the plate estimate; the first cycle
initialises the nodes and sets MODEL_VALID. -/
def execDiodeRead (readings : List Int) (s : State) : Host.Outcome State Fault Refusal :=
  if !s.modelRuns then .next s
  else
    let s := s.each ((List.range 16).zip readings) (fun s p => s.readDiode p.1 p.2)
    let valid := (List.range 16).filter s.diodeValid
    let failed := decide (valid.length < 2)
    let s :=
      if failed then s
      else
        let e := filterPlate s.heat.plate (s.plateMean valid)
        { s.wr plate_ESTIMATE (unsignedOf 16 (roundAway e)) with heat := { s.heat with plate := some e } }
    let s := s.put canopyStatus_PLATE_FAILED failed
    let s := s.wr plate_IN_USE (unsignedOf 16 s.plateTemp)
    if s.on canopyStatus_MODEL_VALID then .next s
    else
      let s := s.setNodes (List.replicate 96 (s.plateTemp : Rat))
      .next (s.junctions.put canopyStatus_MODEL_VALID true)

/-! Levels (R359-R361, R369). -/

/-- The policy entry in force for a level, 1 to 8 (R360, R369). -/
def State.policy (s : State) (l : Nat) : Reg :=
  if s.heat.host then ⟨.hostPolicy, l - 1, 0, 0⟩ else ⟨.devPolicy, l - 1, 0, 0⟩

/-- ENTRY, HYST and STRETCH of a level. -/
def State.entryTemp (s : State) (l : Nat) : Int := signedOf 16 (bitsOf (s.reg (s.policy l)) 0 16)
def State.hystTemp (s : State) (l : Nat) : Int := bitsOf (s.reg (s.policy l)) 16 8
def State.stretchOf (s : State) (l : Nat) : Nat := if l = 0 then 0 else bitsOf (s.reg (s.policy l)) 24 8

/-- The canopy level's rule (R360). -/
def State.canopyStep (s : State) : State :=
  let tj := s.rdS canopyStatus_TJ_MAX
  let lvl := s.rd canopyStatus_CANOPY_LEVEL
  let target := (List.range 8).foldl (fun t l => if s.entryTemp (l + 1) ≤ tj then l + 1 else t) 0
  let free := match s.heat.canopyAt with | none => true | some a => decide (a + 1000000 ≤ s.tick)
  let moveTo (v : Nat) : State :=
    { s.wr canopyStatus_CANOPY_LEVEL v with heat := { s.heat with canopyAt := some s.tick } }
  if !free then s
  else if lvl < target then moveTo (lvl + 1)
  else if 0 < lvl ∧ tj ≤ s.entryTemp lvl - s.hystTemp lvl then moveTo (lvl - 1)
  else s

/-- LEVEL, with its pulses (R361). -/
def State.setLevel (s : State) : State :=
  let floor := if s.heat.host then min 8 (s.rd canopyCfg_HOST_FLOOR) else 0
  let v := max (s.rd canopyStatus_CANOPY_LEVEL) (max (s.rd canopyStatus_CRYO_LEVEL) floor)
  let old := s.rd canopyStatus_LEVEL
  let s := s.wr canopyStatus_LEVEL v
  if old = 0 ∧ v ≠ 0 then s.pulse 497 else if old ≠ 0 ∧ v = 0 then s.pulse 498 else s

/-- A pause decision takes the throttling mode as written (R369; 01 R30). -/
def State.takeThrottle (s : State) : State :=
  { s with heat := { s.heat with host := s.on modeThrottle_HOST } }.setLevel

/-- The pause length of a shot of period d at the present level, in us (R362). -/
def State.pauseUs (s : State) (d : Nat) : Nat :=
  min 65535 (max 1 ((d * s.stretchOf (s.rd canopyStatus_LEVEL) + 15999) / 16000))

/-- A write of a host policy entry (R369): a field looser than the device policy's stores the device's
value, and each is counted. -/
def State.onHostPolicy (s : State) (i : Nat) (new : Word) : State :=
  let hot := decide (s.rdS (devPolicy_ENTRY i) < signedOf 16 (bitsOf new 0 16))
  let tight := decide (bitsOf new 16 8 < s.rd (devPolicy_HYST i))
  let short := decide (bitsOf new 24 8 < s.rd (devPolicy_STRETCH i))
  let w := if hot then withBits new 0 16 (s.rd (devPolicy_ENTRY i)) else new
  let w := if tight then withBits w 16 8 (s.rd (devPolicy_HYST i)) else w
  let w := if short then withBits w 24 8 (s.rd (devPolicy_STRETCH i)) else w
  (s.setReg ⟨.hostPolicy, i, 0, 0⟩ w).bumpBy canopyCounts_REPLACED
    ((if hot then 1 else 0) + (if tight then 1 else 0) + (if short then 1 else 0))

/-! The ledger (R367, R368). -/

/-- The sum of squares of a line's codes since the last update, and its samples per tick (R367). -/
def State.lineSquares (s : State) (l : Nat) : Nat × Nat :=
  if l < 48 then (Tab.get s.synSq (l / 3, l % 3) 0, 16)
  else if l < 64 then (Tab.get s.synSq (l - 48, 3) 0, 16)
  else ((s.fluxRun ((l - 64) / 12) ((l - 64) % 12)).sq, 2)

/-- P_line in nW over an interval of n ticks (R367). -/
def State.linePower (s : State) (l n : Nat) : Rat :=
  let q := s.lineSquares l
  if q.1 = 0 ∨ n = 0 then 0
  else ((s.rd (cryoLpower_FSP l) * 1000 * q.1 : Nat) : Rat) / ((8192 * 8192 * n * q.2 : Nat) : Rat)

/-- One pole over one update (R367). -/
def poleStep (y g p : Rat) (tauMs : Nat) : Rat :=
  if y = g * p then y else y + (g * p - y) * Config.decay 10 (1000 * max 1 tauMs)

/-- Weight of a line into a stage, in 2^-16 units. -/
def State.lineWeight (s : State) (l st : Nat) : Nat := bitsOf (s.reg ⟨.cryoLine, l, 0, 0⟩) (16 * st) 16

/-- One stage over one update: POWER, its poles while enabled, RISE (R367). -/
def State.stageStep (s : State) (ps : List (Nat × Rat)) (st : Nat) : State :=
  let p : Rat := ps.foldl (fun z q => z + (s.lineWeight q.1 st : Rat) * q.2 / 65536) 0
  let s := s.wr (cryoStage3_POWER st) (min (roundAway p).toNat (2 ^ 32 - 1))
  if !s.on (cryoStage2_EN st) then s
  else
    let x := Tab.get s.heat.stages st {}
    let uw : Rat := p / 1000
    let x : StageRun := { y1 := poleStep x.y1 (s.rd (cryoStage0_G1 st) : Rat) uw (s.rd (cryoStage0_TAU1 st)),
                          y2 := poleStep x.y2 (s.rd (cryoStage1_G2 st) : Rat) uw (s.rd (cryoStage1_TAU2 st)) }
    let s := { s with heat := { s.heat with stages := Tab.set s.heat.stages st x } }
    s.wr (cryoStage3_RISE st) (min (roundAway (x.y1 + x.y2)).toNat (2 ^ 32 - 1))

/-- RISE of a stage before rounding. -/
def State.stageRise (s : State) (st : Nat) : Rat :=
  let x := Tab.get s.heat.stages st {}
  x.y1 + x.y2

/-- The ledger level's rule (R368). -/
def State.cryoStep (s : State) : State :=
  let lvl := s.rd canopyStatus_CRYO_LEVEL
  if !s.on cryoCfg_EN then s.wr canopyStatus_CRYO_LEVEL 0
  else
    let dwell := 10000000 * max 1 (s.rd cryoCfg_DWELL)
    let free := match s.heat.cryoAt with | none => true | some a => decide (a + dwell ≤ s.tick)
    let on := (List.range 4).filter (fun st => s.on (cryoStage2_EN st))
    let beyond := on.any (fun st => decide ((s.rd (cryoStage2_BUDGET st) : Rat) < s.stageRise st))
    let under := on.all (fun st => decide (s.stageRise st * 256
      ≤ ((s.rd (cryoStage2_BUDGET st) * s.rd cryoCfg_DOWN_FRAC : Nat) : Rat)))
    let moveTo (v : Nat) : State :=
      { s.wr canopyStatus_CRYO_LEVEL v with heat := { s.heat with cryoAt := some s.tick } }
    if !free then s
    else if beyond ∧ lvl < 8 then (if lvl = 0 then (moveTo 1).pulse 500 else moveTo (lvl + 1))
    else if under ∧ 0 < lvl then moveTo (lvl - 1)
    else s

/-- The ledger over one update: the lines, the stages, the level. -/
def State.cryoUpdate (s : State) : State :=
  let n := s.tick - s.heat.updated
  let ps := (List.range 256).filterMap (fun l => let p := s.linePower l n; if p = 0 then none else some (l, p))
  let s := s.each (List.range 256) (fun s l =>
    let v := min (roundAway (Tab.get ps l 0)).toNat (2 ^ 32 - 1)
    if s.rd (cryoLpower_P l) = v then s else s.wr (cryoLpower_P l) v)
  let s := s.each (List.range 4) (fun s st => s.stageStep ps st)
  { s with synSq := [],
           fluxRuns := s.fluxRuns.map (fun (e : (Nat × Nat) × FluxRun) => (e.1, { e.2 with sq := 0 })) }.cryoStep

/-! The critical temperature (R365, R366). -/

/-- The device reaches its critical temperature (R365; 01 R25): every shot in progress is unpicked
without replay, and Active is left at once. -/
def State.critical (s : State) : State :=
  let s := ((s.put pwr_CRIT_HOLD true).put canopyStatus_CRIT_HOLD true).bump canopyCounts_CRIT
  let s := { s.wr pwr_REQ pwrStandby with pwrRun.held := none, pwrRun.goal := none,
                                          heat := { s.heat with coolFrom := none } }
  let s :=
    if s.active then
      let s := s.each (s.shots.map Shot.id) (fun s id =>
        let s := match s.shotById id with
          | some x => if x.joint then s.sendUnpick x.bar x.gen s.ft none else s
          | none => s
        (s.unpick id s.tick (some 0x0B) 0x0B).1)
      s.leaveNow causeCritical
    else if s.pwrRun.target = some pwrActive then { s.put pwr_BUSY false with pwrRun.target := none }
    else s
  s.wr dieStatus_QREADY 0

/-- CRIT_HOLD: set at 112 degrees; cleared once TJ_MAX has stayed at or below CRIT_REL for 100 ms. -/
def State.critStep (s : State) : State :=
  let tj := s.rdS canopyStatus_TJ_MAX
  if !s.on pwr_CRIT_HOLD then (if critTemp ≤ tj then s.critical else s)
  else if tj ≤ min releaseTop (s.rdS canopyCfg_CRIT_REL) then
    match s.heat.coolFrom with
    | none => { s with heat := { s.heat with coolFrom := some s.tick } }
    | some a =>
        if a + 100000000 ≤ s.tick then
          ((s.put pwr_CRIT_HOLD false).put canopyStatus_CRIT_HOLD false).powerNext
        else s
  else { s with heat := { s.heat with coolFrom := none } }

/-- The network advances by a step against the plate (R356). -/
def State.networkStep (s : State) : State :=
  s.setNodes ((List.range 96).map (s.heat.net.after s.nodeExact (fun i => s.rd (sensor_P i)) s.plateTemp))

/-- MODEL_UPDATE (R355-R368): every 10 us, with what the sensors measure. -/
def execModelUpdate (sens : List SensorSample) (s : State) : Host.Outcome State Fault Refusal :=
  if !s.modelRuns || !s.on canopyStatus_MODEL_VALID then .next s
  else
    let s := s.each ((List.range 24).zip sens) (fun s p => s.senseUpdate p.1 p.2)
    let s := s.networkStep.junctions.canopyStep.cryoUpdate
    let s := { s with heat := { s.heat with updated := s.tick } }
    .next s.setLevel.critStep

end Sys2Proof.Machine
end

