-- ==== Sys2Proof/Machine/Boot.lean ====
section
/-! DEFINITION. Supplies, resets, boot, heartwood and the flash (14_startup; 13 R370). -/

namespace Sys2Proof.Machine

open Fld

/-! Heartwood records (R381, R382). -/

/-- The TYPEs that SAVE may write (R381). -/
def savedTypes : List Nat := [0x10, 0x11, 0x12, 0x13, 0x14]
def factoryTypes : List Nat := [0x01, 0x02, 0x03]

/-- PMAX of a sensor, in mW (R354). -/
def pmaxOf (n : Nat) : Nat :=
  if n < 8 then 7000 else if n < 10 then 6000 else if n < 14 then 16000 else if n < 18 then 15000
  else if n = 18 then 8000 else if n = 19 then 13000 else if n = 20 then 3000 else if n = 21 then 2000
  else 8500

/-- What the spec gives of the factory's records: PMAX (R354), and FSP of the flux lines (R367). -/
def factoryWords (typ : Nat) : List (Reg × Word) :=
  if typ = 0x03 then (List.range 24).map (fun n => (⟨.sensor, n, 0, 0⟩, BitVec.ofNat 64 (pmaxOf n * 2 ^ 16)))
  else if typ = 0x02 then
    (List.range 192).map (fun n => (⟨.cryoLpower, 64 + n, 0, 0⟩, BitVec.ofNat 64 (5000 * 2 ^ 32)))
  else []

/-- A record (DESIGN CHOICE, log entry 28: nothing is said of heartwood before the first SAVE). -/
def State.hwRecord (s : State) (typ : Nat) : HwRecord :=
  Tab.get s.hw typ { factory := { words := factoryWords typ } }

/-- The copy in use and its source: 1 bank A, 2 bank B, 3 factory (R382). -/
def HwRecord.inUse (r : HwRecord) : HwCopy × Nat :=
  match r.a, r.b with
  | some a, some b => if 0 < (b.seq - a.seq).toInt then (b, 2) else (a, 1)
  | some a, none => (a, 1)
  | none, some b => (b, 2)
  | none, none => (r.factory, 3)

/-- HW.REC of a TYPE. -/
def State.showRec (s : State) (typ : Nat) : State :=
  let r := s.hwRecord typ
  let u := r.inUse
  ((s.wr (hwRec_SEQ typ) u.1.seq.toNat).wr (hwRec_SOURCE typ) u.2).put (hwRec_OTHER_VALID typ)
    (if u.2 = 1 then r.b.isSome else if u.2 = 2 then r.a.isSome else false)

/-- The fields of a register that heartwood holds, as low bit and width (the NV rows of the tables);
every other listed register is held whole. -/
def nvFields (n : RegName) : List (Nat × Nat) :=
  match n with
  | .globalId => [(16, 8), (32, 32)]
  | .refCfg => [(0, 2)]
  | .linkIp => [(0, 45)]
  | .port => [(0, 6)]
  | .sensor => [(16, 16)]
  | .diode => [(16, 7), (24, 5)]
  | .cryoLpower => [(32, 32)]
  | .tdcIn => [(32, 16)]
  | _ => [(0, 64)]

/-- A register takes its fields from a record's word. -/
def State.loadNv (s : State) (p : Reg × Word) : State :=
  s.setReg p.1 ((nvFields p.1.name).foldl (fun w f => withBits w f.1 f.2 (bitsOf p.2 f.1 f.2)) (s.reg p.1))

/-- The registers a writable record captures (R381, R383). -/
def recordRegs (typ : Nat) : List Reg :=
  if typ = 0x10 ∨ typ = 0x11 then (List.range 192).map (fun b => ⟨.biasPark, typ - 0x10, b, 0⟩)
  else if typ = 0x12 then [⟨.xtalTrim, 0, 0, 0⟩, ⟨.xtalAccum, 0, 0, 0⟩]
  else if typ = 0x13 then (List.range 32).map (fun l => ⟨.laneEq, l, 0, 0⟩)
  else
    [⟨.globalBootCfg, 0, 0, 0⟩, ⟨.refCfg, 0, 0, 0⟩, ⟨.eswId, 0, 0, 0⟩, ⟨.port, 0, 0, 0⟩, ⟨.port, 1, 0, 0⟩]
      ++ (List.range 32).map (fun l => ⟨.laneCfg, l, 0, 0⟩)
      ++ (List.range 128).map (fun g => ⟨.routeGrove, g, 0, 0⟩)
      ++ (List.range 16).map (fun m => ⟨.routeMember, m, 0, 0⟩)
      ++ (List.range 8).flatMap (fun l => [⟨.linkMac, l, 0, 0⟩, ⟨.linkIp, l, 0, 0⟩, ⟨.linkIp6Hi, l, 0, 0⟩,
          ⟨.linkIp6Lo, l, 0, 0⟩])

/-- Every record's copy in use is loaded into its registers (R377); the park tables go to the dies,
and lane seeds are used in Train. -/
def State.loadRecord (s : State) (typ : Nat) : State :=
  s.each (s.hwRecord typ).inUse.1.words State.loadNv

/-! Record writes (R370, R383-R385). -/

/-- HW.STATUS.PENDING follows the queue. -/
def State.showPending (s : State) : State := s.wr hwStatus_PENDING s.hwQueue.length

/-- A request ends with a result. -/
def State.hwResult (s : State) (typ result : Nat) : State :=
  (s.wr hwStatus_LAST_TYPE typ).wr hwStatus_LAST_RESULT result

/-- A request for a record write (R384). -/
def State.requestSave (s : State) (typ : Nat) : State :=
  if !savedTypes.contains typ then s.hwResult typ 3
  else if s.hwQueue.any (fun q => q.typ == typ) then s
  else if 8 ≤ s.hwQueue.length then s.hwResult typ 4
  else { s with hwQueue := s.hwQueue ++ [({ typ := typ, at_ := s.tick } : HwRequest)] }.showPending

/-- A write of HW.CTRL: TYPE, and SAVE from domain 0 secure only (R384). -/
def State.onHwCtrl (s : State) (req : Requester) (bits new : Word) : State × MStatus :=
  if strobe bits hwCtrl_SAVE && !(req.domain == 0 && req.secure) then (s, .denied)
  else
    let s := s.setReg ⟨.hwCtrl, 0, 0, 0⟩ (withBits new 0 1 0)
    (if strobe bits hwCtrl_SAVE then s.requestSave (s.rd hwCtrl_TYPE) else s, .ok)

/-- The window of R370. -/
def State.hwWindow (s : State) : Bool :=
  s.on canopyStatus_MODEL_VALID && decide (0 ≤ s.rdS canopyStatus_TJ_MIN)
    && decide (s.rdS canopyStatus_TJ_MAX ≤ windowTop)

/-- Whether the request has waited 10 s (R370). -/
def HwRequest.stale (q : HwRequest) (tick : Nat) : Bool := decide (q.at_ + 10000000000 ≤ tick)

/-- HEARTWOOD_WRITE_START (R370, R383): the oldest request captures the live values; the bank that
does not hold the copy in use is overwritten. -/
def execHeartwoodWriteStart (s : State) : Host.Outcome State Fault Refusal :=
  match s.hwWrite, s.hwQueue with
  | none, q :: rest =>
      if !s.hwWindow || q.stale s.tick then .next s
      else
        let r := s.hwRecord q.typ
        let u := r.inUse
        let toB := u.2 == 1
        let left : HwRecord := if toB then { r with b := none } else { r with a := none }
        let copy : HwCopy := { seq := u.1.seq + 1, words := (recordRegs q.typ).map (fun x => (x, s.reg x)) }
        let s := { s with hwQueue := rest,
                          hw := Tab.set s.hw q.typ left,
                          hwWrite := some { typ := q.typ, bankB := toB, copy := copy, at_ := s.tick } }
        .next (s.put hwStatus_BUSY true).showPending
  | _, _ => .next s

/-- HEARTWOOD_WRITE_DONE (R383): the copy is committed if its read-back checks. -/
def execHeartwoodWriteDone (ok : Bool) (s : State) : Host.Outcome State Fault Refusal :=
  match s.hwWrite with
  | none => .next s
  | some w =>
      let s := { s.put hwStatus_BUSY false with hwWrite := none }
      if !ok then .next ((s.hwResult w.typ 5).showRec w.typ)
      else
        let r := s.hwRecord w.typ
        let r : HwRecord := if w.bankB then { r with b := some w.copy } else { r with a := some w.copy }
        let s := { s with hw := Tab.set s.hw w.typ r }
        .next (((s.hwResult w.typ 1).bump hwStatus_WRITES).showRec w.typ)

/-- HEARTWOOD_WRITE_REJECT (R370). -/
def execHeartwoodWriteReject (s : State) : Host.Outcome State Fault Refusal :=
  match s.hwQueue.find? (fun q => q.stale s.tick) with
  | none => .next s
  | some q =>
      .next (({ s with hwQueue := s.hwQueue.erase q }.hwResult q.typ 2).bump canopyCounts_HW_REJECT).showPending

/-- Whether ACCUM is to be committed (02 R38). -/
def State.accumDue (s : State) : Bool := s.xtal.commit || decide (86400 ≤ s.xtal.seconds)

/-- XTAL_ACCUM_COMMIT (02 R38): after 24 h of operation, or on entry to Dormant; the count of 24 h starts anew
with it (DEDUCED, log entry 104). -/
def execXtalAccumCommit (s : State) : Host.Outcome State Fault Refusal :=
  if s.accumDue then .next ({ s with xtal.commit := false, xtal.seconds := 0 }.requestSave 0x12) else .next s

/-! The flash (R380). -/

/-- A write of FLASH.CTRL (R380): from domain 0 secure only; of both strobes in one write PROGRAM acts (DESIGN CHOICE, log entry 130); PROGRAM and ERASE are ignored while
BUSY, and a misaligned ADDR is an error. -/
def State.onFlashCtrl (s : State) (req : Requester) (bits new : Word) : State × MStatus :=
  if !(req.domain == 0 && req.secure) then (s, .denied)
  else
    let s := s.setReg ⟨.flashCtrl, 0, 0, 0⟩ (withBits new 0 2 0)
    let a := s.rd flashAddr_ADDR
    let go (erase : Bool) (size : Nat) : State :=
      if a % size ≠ 0 then s.put flashCtrl_ERR true
      else (s.put flashCtrl_BUSY true).send (.flash erase a
        (if erase then [] else (List.range 512).map (fun i => s.reg ⟨.flashBuf, i, 0, 0⟩)))
    if s.on flashCtrl_BUSY then (s, .ok)
    else if strobe bits flashCtrl_PROGRAM then (go false 4096, .ok)
    else if strobe bits flashCtrl_ERASE then (go true 65536, .ok)
    else (s, .ok)

/-- A write of FLASH.ADDR or of the page buffer (R380). -/
def State.onFlashReg (s : State) (r : Reg) (req : Requester) (new : Word) : State × MStatus :=
  if req.domain == 0 && req.secure then (s.setReg r new, .ok) else (s, .denied)

/-- FLASH_OP_DONE (R380). -/
def execFlashOpDone (error : Bool) (s : State) : Host.Outcome State Fault Refusal :=
  if !s.on flashCtrl_BUSY then .next s
  else
    let s := s.put flashCtrl_BUSY false
    .next (if error then s.put flashCtrl_ERR true else s)

/-! Resets (R373-R376, R385). -/

/-- Registers on the bias dies (08 R250). -/
def Reg.onBiasDie (r : Reg) : Bool := decide (0x20000000 ≤ r.addr ∧ r.addr < 0x22000000)

/-- The trunk and quadrant dies are reset; the bias dies, heartwood, the fuses, and the fields that
are not reset (forest time, CAUSE and BIAS_POR of GLOBAL.BOOT, HW.REC) keep what they hold; a record write in progress and every pending one are lost (R11,
R373-R376, R385; 08 R247). -/
def State.trunkReset (s : State) (cause : Nat) : State :=
  let s' := { State.reset with
    pending := s.pending, tick := s.tick, ft := s.ft, ftWas := s.ftWas, out := s.out, hw := s.hw, fuses := s.fuses,
    biasOuts := s.biasOuts, mons := s.mons, monLine := s.monLine,
    regs := s.regs.filter (fun p => p.1.onBiasDie || p.1.name = .hwRec), heat := { net := s.heat.net },
    boot := { s.boot with anchor := none, started := false, cause := cause, lost := s.boot.lost || s.hwWrite.isSome } }
  [dieStatus_BREADY, globalBoot_CAUSE, globalBoot_BIAS_POR].foldl (fun (t : State) f => t.wr f (s.rd f)) s'

/-- Both bias dies are reset (R373; 08 R246); BIAS_CLR_N is the pin's level, which a reset does not move. -/
def State.biasReset (s : State) : State :=
  let low := [0, 1].filter (fun d => s.on (bdieStatus_CLR_ACTIVE d))
  let s := ({ s with regs := s.regs.filter (fun p => !p.1.onBiasDie), biasOuts := [], mons := [], monLine := [],
                     boot := { s.boot with biasGood := [], tables := [] } }).wr dieStatus_BREADY 0
  s.each low (fun s d => s.put (bdieStatus_CLR_ACTIVE d) true)

/-- The voltage of one rail. -/
def Rails.at_ (v : Rails) : Rail → Int
  | .core => v.core
  | .conv => v.conv
  | .an => v.an
  | .io => v.io
  | .v33 => v.v33
  | .biasP => v.biasP
  | .biasN => v.biasN

/-- The good and the fall threshold of a rail, in mV (R371). -/
def Rail.thresholds : Rail → Int × Int
  | .core => (710, 680)
  | .conv => (900, 870)
  | .an => (1710, 1650)
  | .io => (1710, 1650)
  | .v33 => (3130, 3000)
  | .biasP => (5700, 5400)
  | .biasN => (-5700, -5400)

/-- Whether a voltage lies above the good threshold of its rail, or below its fall threshold (R371); of the
negative rail the magnitude counts. -/
def Rail.good (r : Rail) (mv : Int) : Bool :=
  match r with
  | .biasN => decide (mv < r.thresholds.1)
  | .core | .conv | .an | .io | .v33 | .biasP => decide (r.thresholds.1 < mv)
def Rail.fallen (r : Rail) (mv : Int) : Bool :=
  match r with
  | .biasN => decide (r.thresholds.2 < mv)
  | .core | .conv | .an | .io | .v33 | .biasP => decide (mv < r.thresholds.2)

/-- The rails on the trunk side, and those that a bias die needs (R371). -/
def trunkRails : List Rail := [.core, .conv, .an, .io, .v33]
def biasRails : List Rail := [.v33, .biasP, .biasN]

/-- SUPPLY_GOOD (R371, R377): 1 ms has passed in which the rails came no nearer to ground than these voltages. -/
def execSupplyGood (least : Rails) (s : State) : Host.Outcome State Fault Refusal :=
  if s.boot.supply || !trunkRails.all (fun r => r.good (least.at_ r)) then .next s
  else .next { s with boot := { s.boot with
    supply := true, anchor := if s.boot.held then none else some s.tick } }

/-- BIAS_SUPPLY_GOOD (R371; 08 R246): the same over the rails of a bias die. -/
def execBiasSupplyGood (d : BitVec 1) (least : Rails) (s : State) : Host.Outcome State Fault Refusal :=
  let d := d.toNat
  if s.boot.biasGood.contains d || !biasRails.all (fun r => r.good (least.at_ r)) then .next s
  else .next { s with boot := { s.boot with biasGood := d :: s.boot.biasGood } }

/-- RAIL_FALL (R373): a rail stands at a voltage below its fall threshold. -/
def execRailFall (rail : Rail) (mv : Int) (s : State) : Host.Outcome State Fault Refusal :=
  if !rail.fallen mv then .next s
  else
    let s := if trunkRails.contains rail then
        let s := s.trunkReset 2
        { s with boot := { s.boot with supply := false } }
      else s
    .next (if biasRails.contains rail then s.biasReset else s)

/-- RST_N (R374): the level it has had at so many consecutive samples; it counts from 50 on. -/
def execRstN (low : Bool) (samples : Nat) (s : State) : Host.Outcome State Fault Refusal :=
  if samples < pinSamples then .next s
  else if low then
    if s.boot.held then .next s
    else
      let s := s.trunkReset 1
      .next { s with boot := { s.boot with held := true } }
  else if !s.boot.held then .next s
  else .next { s with boot := { s.boot with
    held := false, anchor := if s.boot.supply then some s.tick else none } }

/-- A write of GLOBAL.BOOT: REBOOT, from domain 0 secure, acts as RST_N. -/
def State.onGlobalBoot (s : State) (req : Requester) (bits : Word) : State × MStatus :=
  if !strobe bits globalBoot_REBOOT then (s, .ok)
  else if !(req.domain == 0 && req.secure) then (s, .denied)
  else
    let s := s.trunkReset 3
    ({ s with boot := { s.boot with anchor := some s.tick } }, .ok)

/-! Boot (R375, R377-R380, R385). -/

/-- BOOT (R375, R377): ROM reads heartwood and sends the park tables of dies that are not ready. -/
def execBoot (s : State) : Host.Outcome State Fault Refusal :=
  if s.boot.anchor.isNone || s.boot.started then .next s
  else
    let s := s.each (factoryTypes ++ savedTypes) State.showRec
    let s := if s.boot.lost then s.bump hwStatus_ABANDONED else s
    let s := s.put hwStatus_FALLBACK (savedTypes.any (fun t => (s.hwRecord t).inUse.2 == 3))
    let s := (s.loadRecord 0x01).wr globalBoot_CAUSE s.boot.cause
    let s := { s with boot := { s.boot with started := true, lost := false } }
    let dies := [0, 1].filter (fun d => !s.bitAt dieStatus_BREADY d)
    let s := s.put globalBoot_BIAS_POR (!dies.isEmpty)
    let s := s.each dies (fun s d =>
      let words := (s.hwRecord (0x10 + d)).inUse.1.words
      s.send (.parkTable d ((List.range 192).map (fun b => Tab.get words ⟨.biasPark, d, b, 0⟩ 0))))
    let s := s.each (s.hwRecord 0x14).inUse.1.words (fun s p =>
      if p.1.name = .globalBootCfg then s.loadNv p else s)
    .next (s.wr globalBoot_STAGE 2)

/-- The result of verifying an image (R379). -/
def State.verify (s : State) (image : Option FlashImage) : Nat :=
  match image with
  | none => 7
  | some x =>
      let slot := x.keySlot.toNat
      if x.magic ≠ 0x54584657 ∨ x.version ≠ 1 ∨ x.length.toNat % 64 ≠ 0 ∨ 2 ^ 24 - 512 < x.length.toNat then 2
      else if 4 ≤ slot ∨ x.keyDigest ≠ s.fuses.keys.getD slot 0 ∨ s.fuses.revoked.getLsbD slot then 3
      else if !x.signed then 4
      else if !x.bodyOk then 5
      else if x.svn.toNat < s.fuses.minSvn then 6
      else 1

/-- The firmware runs (R377): every field that heartwood holds is loaded, and enabled lanes enter
Detect. -/
def State.runFirmware (s : State) : State :=
  let s := s.each [0x02, 0x03, 0x12, 0x14] State.loadRecord
  let s := s.wr timeStatus_LINEAGE (s.rd refCfg_SRC)
  (s.wr globalBoot_STAGE 3).lanesWake

/-- FIRMWARE_VERIFIED (R379, R380): the image of the slot being tried, as ROM reads it. -/
def execFirmwareVerified (image : Option FlashImage) (s : State) : Host.Outcome State Fault Refusal :=
  if s.rd globalBoot_STAGE ≠ 2 then .next s
  else
    let pref := s.rd globalBootCfg_PREF_SLOT
    let err (slot : Nat) : RField := if slot = 0 then globalBoot_ERR_A else globalBoot_ERR_B
    let slot := if s.rd (err pref) = 0 then pref else 1 - pref
    let result := s.verify image
    let s := s.wr (err slot) result
    if result = 1 then
      let svn := match image with | some x => x.svn.toNat | none => 0
      .next ((s.wr globalBoot_SLOT slot).wr globalBoot_SVN svn).runFirmware
    else if s.rd (err (1 - slot)) = 0 then .next s
    else .next (s.wr globalBoot_STAGE 5)

/-- BOOT_COMPLETE (R377, R378): Standby, LAST_CAUSE = boot, source 510; a held power request acts. -/
def execBootComplete (s : State) : Host.Outcome State Fault Refusal :=
  if s.rd globalBoot_STAGE ≠ 3 ∨ !s.on canopyStatus_MODEL_VALID then .next s
  else
    let ms := (s.tick - s.boot.anchor.getD s.tick) / 1000000
    let s := ((s.wr globalBoot_STAGE bootDone).wr globalBoot_BOOT_MS (min ms 0xFFFF)).pulse 510
    let s := (s.wr pwr_CUR pwrStandby).wr pwr_LAST_CAUSE causeBoot
    .next { s with pwrRun.goal := s.pwrRun.held, pwrRun.held := none }.powerNext

/-- QUADRANT_READY (R365, R366, R377; 01 R20). -/
def execQuadrantReady (q : BitVec 2) (s : State) : Host.Outcome State Fault Refusal :=
  if s.modelRuns && s.on timeStatus_PLL_LOCK && !s.on pwr_CRIT_HOLD && !s.dormant then
    .next (s.putBit dieStatus_QREADY q.toNat true)
  else .next s

end Sys2Proof.Machine
end

