-- ==== Sys2Proof/Machine/Barriers.lean ====
section
/-! DEFINITION. Barriers, and the control entries of the fabric (03 R85, R86; 07 R230-R234, R418;
13 R362, R363). -/

namespace Sys2Proof.Machine

open Fld

/-! Barriers of this device. -/

/-- The generation a thread's next arrival counts for: the one after the last it completed, or one
that an unpick has reopened (R85, R418). -/
def State.arrivalGen (s : State) (q : Thr) (b : Nat) : Nat :=
  let g := Tab.get (s.thread q).barGen b 0
  let x := s.bar b
  match x.cut with
  | some (c, _, _) => if c = x.gen ∧ c < g then c else g
  | none => g

/-- A generation of a barrier. -/
def BarRun.at_ (x : BarRun) (g : Nat) : BarGen := Tab.get x.gens g {}
def State.modGen (s : State) (b g : Nat) (f : BarGen → BarGen) : State :=
  let x := s.bar b
  s.setBar b { x with gens := Tab.set x.gens g (f (x.at_ g)) }

/-- The threads that wait at a barrier, with what their wait is for. -/
def State.waitersAt (s : State) (b : Nat) : List (Thr × Nat × Bool × BarPurpose) :=
  Thr.all.filterMap (fun q =>
    match (s.thread q).waitingOn with
    | some (.bar b' g part why) => if b' = b then some (q, g, part, why) else none
    | _ => none)

/-- The threads a generation's release ends the wait of (R85): its participants, and those that wait
without taking part, which the next release of the barrier releases. -/
def State.releasedBy (s : State) (b g : Nat) : List (Thr × BarPurpose) :=
  (s.waitersAt b).filterMap (fun w => if w.2.1 = g ∨ !w.2.2.1 then some (w.1, w.2.2.2) else none)

/-- The barrier past the release of a generation (R85). -/
def BarRun.past (x : BarRun) (g : Nat) : BarRun :=
  { x with gen := max x.gen (g + 1), gens := x.gens.filter (fun e => decide (g < e.1)) }

/-- A thread that waits at a barrier completes the generation its arrival counts for without its release
(R86). -/
def Thread.giveUp (t : Thread) : Thread :=
  match t.waitingOn with
  | some (.bar b g true _) => t.completed b g
  | _ => t

/-- A joint `shot.begin` or `shot.end` gives up its wait: program error 0x07 (R86, R91, R93). -/
def State.barrierError (s : State) (q : Thr) : State := (s.modThread q Thread.giveUp).programError q 0x07

/-- An arrival at a barrier: the thread waits, and a participant's arrival counts (R85). -/
def State.arriveAt (s : State) (q : Thr) (b : Nat) (why : BarPurpose) (timeout : Option Word) : State :=
  let part := s.takesPart q b
  let g := if part then s.arrivalGen q b else (s.bar b).gen
  let s := if part then s.modGen b g (fun x => { x with came := q :: x.came }) else s
  s.modThread q (fun t => t.startWait (.bar b g part why) timeout)

/-! Settling at the end of a tick (R231, R362, R363). -/

/-- D of R362 for a thread: from TC at the previous scope-opening checkpoint to its TC now. -/
def Thread.pausePeriod (t : Thread) : Nat := (dist64 t.tc t.pauseFrom).toNat

/-- The largest D of the threads that wait at a generation for their `shot.begin`. -/
def State.groupPeriod (s : State) (b g : Nat) : Nat :=
  (s.releasedBy b g).foldl (fun d w => if w.2 = .shotBegin then max d (s.thread w.1).pausePeriod else d) 0

/-- SPAN as it acts (R231). -/
def State.spanOf (s : State) (b : Nat) : Nat := max 4 (s.rd (eswBar_SPAN b))

/-- Whether the local arrival of a generation is complete (R85, R231). -/
def State.localDone (s : State) (b g : Nat) : Bool :=
  let ps := s.participants b
  let came := ((s.bar b).at_ g).came
  (s.on (eswBar_EN b) || !ps.isEmpty) && ps.all came.contains

/-- A local arrival completes in this tick, or in the next behind a PAUSE (R231, R363). -/
def State.completeLocal (s : State) (b g : Nat) : State :=
  let begins := (s.releasedBy b g).any (fun w => w.2 = .shotBegin)
  if !begins then s.modGen b g (fun x => { x with localAt := some s.tick })
  else
    let s := s.takeThrottle
    if s.rd canopyStatus_LEVEL = 0 then s.modGen b g (fun x => { x with localAt := some s.tick })
    else
      let p := s.pauseUs (s.groupPeriod b g)
      let s := s.sendControl (s.treeLanes b) 3 b g (BitVec.ofNat 64 p)
      s.modGen b g (fun x => { x with localAt := some (s.tick + 1), pause := max x.pause p })

/-- One generation of a barrier at the end of a tick: a barrier without remote participants takes its
release tick four ticks after the last arrival; a tree sends ARRIVE up, and its root RELEASE down (R85,
R231). -/
def State.settleGen (s : State) (b g : Nat) : State :=
  let e := (s.bar b).at_ g
  if e.rel.isSome || e.sent then s
  else if !s.on (eswBar_EN b) then
    if s.localDone b g then s.modGen b g (fun x => { x with rel := some (s.tick + 4, s.ft + 4) }) else s
  else
    let s := if e.localAt.isNone && s.localDone b g then s.completeLocal b g else s
    let e := (s.bar b).at_ g
    let here := match e.localAt with | some a => decide (a ≤ s.tick) | none => false
    if !(here && (s.downLanes b).all e.kids.contains) then s
    else if s.on (eswBar_ROOT b) then
      let t := s.ft + BitVec.ofNat 64 (s.spanOf b)
      (s.modGen b g (fun x => { x with sent := true, rel := some (s.tick + s.spanOf b, t) })).sendControl
        (s.downLanes b) 1 b g t
    else (s.modGen b g (fun x => { x with sent := true })).sendControl [s.rd (eswBar_UP_LANE b)] 0 b g s.ft

/-- A barrier at the end of a tick: its present generation, and every later one that something has
arrived at, since threads whose wait timed out and copies that follow a lost RELEASE run ahead (R86). -/
def State.settleBar (s : State) (b : Nat) : State :=
  let x := s.bar b
  s.each (x.gen :: (x.gens.map Prod.fst).filter (fun g => decide (x.gen < g))) (fun s g => s.settleGen b g)

/-- The barriers that can change: those with a tree, and those that something has arrived at. -/
def State.barsInUse (s : State) : List Nat :=
  ((s.regs.filterMap (fun p => if p.1.name = .eswBar ∧ s.on (eswBar_EN p.1.i) then some p.1.i else none))
    ++ s.bars.filterMap (fun p => if p.2.gens.isEmpty then none else some p.1)).eraseDups

/-- All barriers at the end of a tick. -/
def State.settleBars (s : State) : State := s.each s.barsInUse State.settleBar

/-- A write of ESW.BAR is refused while a thread waits at the barrier, or an ARRIVE of the present
generation has been received (R231). -/
def State.onEswBar (s : State) (b : Nat) (new : Word) : State :=
  let x := s.bar b
  if !(s.waitersAt b).isEmpty || !(x.at_ x.gen).kids.isEmpty then s.put eswStatus_CFG_REFUSED true
  else s.setReg ⟨.eswBar, b, 0, 0⟩ new

/-! Control entries (R230). -/

/-- A tick from its low 36 bits: the nearest to the decode tick (R230). -/
def State.fullTick (s : State) (v : BitVec 36) : Word :=
  s.ft + BitVec.ofInt 64 (signedOf 36 ((v.toNat + 2 ^ 36 - s.ft.toNat % 2 ^ 36) % 2 ^ 36))

/-- A generation from its low four bits: the nearest to the present one. -/
def BarRun.fullGen (x : BarRun) (v : BitVec 4) : Int :=
  (x.gen : Int) + signedOf 4 ((v.toNat + 16 - x.gen % 16) % 16)

/-- Whether a lane belongs to a barrier's tree on this device. -/
def State.inTree (s : State) (b l : Nat) : Bool := s.on (eswBar_EN b) && (s.treeLanes b).contains l

/-- ARRIVE (R230, R231, R418): a child's subtree has arrived; copies, and entries of an unpicked
execution, are discarded. -/
def State.takeArrive (s : State) (l : BitVec 5) (b : BitVec 6) (gen : BitVec 4) (tick : BitVec 36) : State :=
  let l := l.toNat
  let b := b.toNat
  let x := s.bar b
  let g := (x.fullGen gen).toNat
  let stale := match x.cut with
    | some (c, act, _) => decide (c ≤ g) && decide (s.deviceTick (s.fullTick tick) ≤ (act : Int))
    | none => false
  if !s.on (eswBar_EN b) || !s.bitAt (eswBar_DOWN_LANES b) l || decide (x.fullGen gen < (x.gen : Int)) || stale then
    s
  else (s.modGen b g (fun e => if e.kids.contains l then e else { e with kids := l :: e.kids }))

/-- The command of that name. -/
def execArrive (l : BitVec 5) (b : BitVec 6) (gen : BitVec 4) (tick : BitVec 36) (s : State) : Host.Outcome State Fault Refusal :=
  .next (s.takeArrive l b gen tick)

/-- A late release ends the wait of every thread it would have released, but for one whose timeout
falls in the same tick (R232). -/
def State.lateRelease (s : State) (b g : Nat) : State :=
  let s := s.each (s.releasedBy b g) (fun s w =>
    let t := s.thread w.1
    let timed := match t.wait with
      | some x => (match x.timeout with | some k => timeDue k s.ft | none => false)
      | none => false
    if timed then s
    else if w.2 = .wbar then s.setThread w.1 ((t.decideWait s.tick 2 s.ft).completed b g)
    else s.barrierError w.1)
  s.setBar b ((s.bar b).past g)

/-- RELEASE (R230-R232, R418): from the parent, once for each generation; it goes on down the tree. -/
def State.takeRelease (s : State) (l : BitVec 5) (b : BitVec 6) (gen : BitVec 4) (tick : BitVec 36) : State :=
  let l := l.toNat
  let b := b.toNat
  let x := s.bar b
  let g := (x.fullGen gen).toNat
  let t := s.fullTick tick
  let dt := s.deviceTick t
  let stale := match x.cut with
    | some (c, _, some v) => decide (c ≤ g) && decide (dt < (v : Int))
    | some (c, _, none) => decide (c ≤ g) && !(x.at_ g).sent
    | none => false
  if !s.on (eswBar_EN b) || s.on (eswBar_ROOT b) || s.rd (eswBar_UP_LANE b) != l
      || decide (x.fullGen gen < (x.gen : Int)) || stale || (x.at_ g).rel.isSome then s
  else
    let s := s.sendControl (s.downLanes b) 1 b g t
    if dt ≤ (s.tick : Int) then (s.lateRelease b g)
    else (s.modGen b g (fun e => { e with rel := some (dt.toNat, t) }))

/-- The command of that name. -/
def execRelease (l : BitVec 5) (b : BitVec 6) (gen : BitVec 4) (tick : BitVec 36) (s : State) : Host.Outcome State Fault Refusal :=
  .next (s.takeRelease l b gen tick)

/-- UNPICK (R233; 12 R346, R347): the first of each execution unpicks the local participants, and is
forwarded; one acted on after U + USPAN is late. -/
def State.takeUnpickRx (s : State) (l : BitVec 5) (b : BitVec 6) (gen : BitVec 4) (tick : BitVec 36) : State :=
  let l := l.toNat
  let b := b.toNat
  let x := s.bar b
  let g := (x.fullGen gen).toNat
  let u := s.fullTick tick
  let du := s.deviceTick u
  let known := match Tab.find x.unpicked g with
    | some (some first) => decide (du < (first : Int))
    | some none => true
    | none => false
  if !s.inTree b l || known then s
  else
    let s := s.sendUnpick b g u (some l)
    match s.shots.find? (fun y => y.joint && y.bar == b && y.gen == g) with
    | none => (s.setBar b { s.bar b with unpicked := Tab.set (s.bar b).unpicked g (some (du.toNat + 1)) })
    | some y =>
        if s.rewinding y.id then s
        else if du + s.uspan < (s.tick : Int) then
          let owner := y.parts.head?.map ShotPart.thr
          let tile := match owner with | some q => q.tile | none => 0
          let th := match owner with | some q => q.idx | none => 0
          let s := (((s.countFault 8).pulse 501).unpick y.id du.toNat (some 0x09) 0x09).1
          ((s.lastFault 8 0 tile th true false b).faultNotice 8 0 tile th true)
        else (s.unpick y.id du.toNat none 0x09).1

/-- The command of that name. -/
def execUnpickRx (l : BitVec 5) (b : BitVec 6) (gen : BitVec 4) (tick : BitVec 36) (s : State) : Host.Outcome State Fault Refusal :=
  .next (s.takeUnpickRx l b gen tick)

/-- PAUSE (R234; 13 R363): every copy is taken, the longest applies; one decoded at or after the
release tick is late. -/
def State.takePauseRx (s : State) (l : BitVec 5) (b : BitVec 6) (gen : BitVec 4) (len : BitVec 16) : State :=
  let l := l.toNat
  let b := b.toNat
  let x := s.bar b
  let g := (x.fullGen gen).toNat
  let past := decide (x.fullGen gen < (x.gen : Int)) ||
    (match (x.at_ g).rel with | some r => decide (r.1 ≤ s.tick) | none => false)
  if !s.inTree b l then s
  else if past then (s.bump canopyCounts_PAUSE_LATE)
  else if len.toNat ≤ (x.at_ g).pause then s
  else
    let s := s.sendControl ((s.treeLanes b).filter (fun m => m != l)) 3 b g (len.setWidth 64)
    (s.modGen b g (fun e => { e with pause := len.toNat }))

/-- The command of that name. -/
def execPauseRx (l : BitVec 5) (b : BitVec 6) (gen : BitVec 4) (len : BitVec 16) (s : State) : Host.Outcome State Fault Refusal :=
  .next (s.takePauseRx l b gen len)

/-- Whether a DOWN or UP acts: its TICK is later than the last acted on for the device (R230). -/
def State.marksLater (s : State) (l dev : Nat) (t : Word) : Bool :=
  match Tab.find (s.lane l).marks dev with
  | some last => decide (0 < dist64 t last)
  | none => true

/-- A mark is set or cleared, and the entry forwarded (R225). -/
def State.markDevice (s : State) (l dev : Nat) (t : Word) (up : Bool) : State :=
  let s := s.modLane l (fun x => { x with
    marks := Tab.set x.marks dev t,
    down := if up then x.down.filter (fun d => d != dev) else if x.down.contains dev then x.down else dev :: x.down })
  let s := s.wr (laneStatus_DOWN_DEVS l) (min (s.lane l).down.length 255)
  s.each (s.forwardLanes l (some dev)) (fun s o => s.sendDevice (s.leadLane o) up dev)

/-- DOWN (R225, R230). -/
def State.takeDown (s : State) (l : BitVec 5) (dev : BitVec 11) (tick : BitVec 36) : State :=
  let t := s.fullTick tick
  if s.laneActive l.toNat && s.marksLater l.toNat dev.toNat t then (s.markDevice l.toNat dev.toNat t false)
  else s

/-- The command of that name. -/
def execDown (l : BitVec 5) (dev : BitVec 11) (tick : BitVec 36) (s : State) : Host.Outcome State Fault Refusal :=
  .next (s.takeDown l dev tick)

/-- UP (R225, R230). -/
def State.takeUp (s : State) (l : BitVec 5) (dev : BitVec 11) (tick : BitVec 36) : State :=
  let t := s.fullTick tick
  if s.laneActive l.toNat && s.marksLater l.toNat dev.toNat t then (s.markDevice l.toNat dev.toNat t true)
  else s

/-- The command of that name. -/
def execUp (l : BitVec 5) (dev : BitVec 11) (tick : BitVec 36) (s : State) : Host.Outcome State Fault Refusal :=
  .next (s.takeUp l dev tick)


end Sys2Proof.Machine
end

