-- ==== Sys2Proof/Machine/Synth.lean ====
section
/-! DEFINITION. Writes of the pattern directory and of the synthesis and bobbin registers
(04 R109-R111, R115-R118, R126, R131-R137). -/

namespace Sys2Proof.Machine

open Fld

/-! The pattern directory (R109, R110). -/

/-- A write to word 1 of an entry goes to its staging copy (R110). -/
def State.onDirWord1 (s : State) (p : Nat) (new : Word) : State :=
  { s with dirStage := Tab.set s.dirStage p new }

/-- Whether the device rejects an entry at commit (R110). -/
def entryRejected (w0 w1 : Word) : Bool :=
  let base := bitsOf w0 32 19
  let len := bitsOf w1 0 32
  match bitsOf w0 4 2 with
  | 1 => decide (4194304 < base * 8 + 4 * len)
  | 2 => decide (4194304 < base * 8 + 2 * len)
  | 3 => decide (base / 4 ≠ 0)
  | _ => false

/-- A write to word 0 commits both words; a rejected entry is stored empty and counted (R110); staged copies
of the entry are discarded (R121). -/
def State.onDirWord0 (s : State) (p : Nat) (new : Word) : State :=
  let w1 := Tab.get s.dirStage p 0
  let bad := entryRejected new w1
  let s := (s.setReg ⟨.dirWord0, p, 0, 0⟩ (if bad then withBits new 4 2 0 else new)).setReg
    ⟨.dirWord1, p, 0, 0⟩ w1
  let s := { s with poison := s.poison.filter (fun x => decide (x ≠ (4, 0, 2 * p) ∧ x ≠ (4, 0, 2 * p + 1))),
                    staged := s.staged.filter (fun x => x.pat != p),
                    acts := s.acts.filter (fun a => match a.kind with
                      | .stageFill _ pat _ _ => pat != p
                      | _ => true) }
  if bad then (s.bump dirStatus_REJ).wr dirStatus_LAST_REJ p else s

/-! Synthesis channels and tones (R115-R118, R126). -/

/-- A write of a channel's CFG: a change of ZONE while ENABLE = 1 is refused, the rest takes effect
(R126). -/
def State.onSynCfg (s : State) (t c : Nat) (new : Word) : State :=
  let zone := s.rd (synCfg_ZONE t c)
  if s.on (synCfg_ENABLE t c) && bitsOf new 1 1 != zone then
    (s.setReg ⟨.synCfg, t, c, 0⟩ (withBits new 1 1 zone)).put (synCfg_CFG_REFUSED t c) true
  else s.setReg ⟨.synCfg, t, c, 0⟩ new

/-- A register write of FREQ: the value a rollback returns to (R118). -/
def State.onToneFreq (s : State) (t c k : Nat) (new : Word) : State :=
  let s := s.setReg ⟨.toneFreq, t, c, k⟩ new
  { s with shots := s.shots.map (Shot.seesFreq t c k (new.setWidth 48)) }

/-- A register write of OFFSET and AMP (R118). -/
def State.onTonePhase (s : State) (t c k : Nat) (h : Half) (new : Word) : State :=
  let s := s.setReg ⟨.tonePhase, t, c, k⟩ new
  if h = .high then s
  else { s with shots := s.shots.map (Shot.seesOffset t c k (new.setWidth 32)) }

/-- A register write of VZ: increments before it are not subtracted by an unpick (R118). -/
def State.onToneVz (s : State) (t c k : Nat) (new : Word) : State :=
  let s := s.setReg ⟨.toneVz, t, c, k⟩ new
  { s with shots := s.shots.map (Shot.forgetsVz t c k) }

/-! Bobbins (R131, R134, R137). -/

/-- Whether a write of ENABLE = 1 is refused: no size, beyond the memory, or over another enabled
bobbin (R131). -/
def State.bobbinRefuses (s : State) (t b : Nat) (new : Word) : Bool :=
  let base := bitsOf new 16 4
  let size := bitsOf new 24 5
  size == 0 || decide (16 < base + size) ||
    (List.range 4).any (fun o => o != b && s.on (bobCfg_ENABLE t o)
      && decide (s.rd (bobCfg_BASE t o) < base + size)
      && decide (base < s.rd (bobCfg_BASE t o) + s.rd (bobCfg_SIZE t o)))

/-- RESET (R137; 11 R324): positions, pending requests, loops and counters; open extents complete
with FLUSHED. -/
def State.resetBobbin (s : State) (t b : Nat) : State :=
  let open_ := s.extents.filter (fun e => e.1 == (t, b))
  let s := { s with
    extents := s.extents.filter (fun e => e.1 != (t, b)),
    feedEnd := Tab.erase s.feedEnd (t, b),
    outReqs := s.outReqs.filter (fun r => match r.kind with
      | .refill t' b' _ _ => !(t' == t && b' == b)
      | _ => true) }
  let s := s.each open_ (fun s e =>
    s.complete e.2.ref 0x34 0 0 (BitVec.ofNat 64 (e.2.start + e.2.count)) 0)
  let s := (s.setReg ⟨.bobRp, t, b, 0⟩ 0).setReg ⟨.bobWp, t, b, 0⟩ 0
  let s := ((s.wr (bobStatus_OVERRUNS t b) 0).wr (bobStatus_UNDERRUNS t b) 0).wr (bobStatus_SKIPPED t b) 0
  let s := s.wr (bobLoop_LOOPS_LEFT t b) 0
  let s := s.setBob t b { s.bob t b with requested := 0 }
  (s.wr (bobStatus_STATE t b) (if s.on (bobCfg_ENABLE t b) then bobFilling else bobOff)).bobReady t b

/-- ENABLE := 0 (R137): a play of the bobbin has its tone at zero from this tick. -/
def State.disableBobbin (s : State) (t b : Nat) : State :=
  let mine := s.plays.filter (fun p => p.tgt.tile == t && p.body.bob == some b)
  let s := s.each mine (fun s p => s.cutTarget p.tgt (16 * s.tick))
  let s := s.setBob t b { s.bob t b with reader := none }
  s.wr (bobStatus_STATE t b) bobOff

/-- A write of a bobbin's CFG (R131, R137): while ENABLE = 1 only ENABLE = 0 and RESET are taken. -/
def State.onBobCfg (s : State) (t b : Nat) (bits new : Word) : State :=
  let was := s.on (bobCfg_ENABLE t b)
  let reset := strobe bits (bobCfg_RESET t b)
  let s := if reset then s.resetBobbin t b else s
  let new := withBits new 1 1 0
  if was then
    if !new.getLsbD 0 then (s.setReg ⟨.bobCfg, t, b, 0⟩ new).disableBobbin t b
    else if reset then s
    else s.put (bobStatus_CFG_REFUSED t b) true
  else if new.getLsbD 0 then
    if s.bobbinRefuses t b new then s.put (bobStatus_CFG_REFUSED t b) true
    else ((s.setReg ⟨.bobCfg, t, b, 0⟩ new).wr (bobStatus_STATE t b) bobFilling).bobReady t b
  else (s.setReg ⟨.bobCfg, t, b, 0⟩ new).bobReady t b

/-- A write of LOOP_MARK, LOOP_END or LOOP_COUNT is held pending until the next play (R134). -/
def State.onBobLoop (s : State) (r : Reg) (new : Word) : State :=
  (s.setReg r new).setBob r.i r.j { s.bob r.i r.j with loopPending := true }

/-! The output of drive and probe channels (R106-R108, R114, R124). -/

/-- The patterns that shape a tone's output at an instant: those that play, those whose last sample lies
less than 3 ns back, and those whose first lies less than 3 ns ahead (R108). What is about to be cut ends
with the last sample before the cut: the interpolator sees one continuous stream. -/
def State.shaping (s : State) (g : Tgt) (instant : Nat) : List Playing :=
  let starts := s.standing.filter (fun x => x.2.1 == g && decide (x.1.at_ < instant + 48))
  let cut (p : Playing) : Playing :=
    starts.foldl (fun p x => if p.start < x.1.at_ ∧ x.1.at_ ≤ p.last then { p with last := p.lastBefore x.1.at_ } else p) p
  (((s.plays ++ s.skirts).filter (fun p => p.tgt == g)
      ++ starts.filterMap (fun x => x.2.2.map (fun b =>
          { tgt := g, body := b, thr := x.1.thr, shot := x.1.shot, start := x.1.at_, last := b.lastFrom g x.1.at_,
            ramp := (Tab.get s.envRead (g, x.1.at_) {}).ramp : Playing }))).map cut).filter (fun p =>
    decide (p.start < instant + 48) && decide (instant < p.last + 48))

/-- The envelope samples less than 3 ns from an instant, each with its distance (R108). -/
def State.envWindow (s : State) (p : Playing) (instant : Nat) : List (Nat × BitVec 32) :=
  let m := (instant + 48 - p.start) / 16
  (List.range 7).filterMap (fun i =>
    let at_ := p.start + 16 * (m - i)
    if m < i ∨ p.last < at_ then none
    else some (if at_ ≤ instant then instant - at_ else at_ - instant, s.envSample p.tgt p.start p.body (m - i)))

/-- How much of the envelope is left at an instant: it ramps linearly to zero over 16 ns (R135; 12 R346;
DESIGN CHOICE, log entry 114: at the DAC samples). -/
def Playing.rampLeft (p : Playing) (instant : Nat) : Rat :=
  match p.ramp with
  | none => 1
  | some a => ((256 - (instant - a) : Nat) : Rat) / 256

/-- The tones that patterns shape, play or are about to play on. -/
def State.tonesInUse (s : State) : List (Nat × Nat × Nat) :=
  let gs : List Tgt := (s.plays ++ s.skirts).map (fun p => p.tgt)
    ++ s.standing.filterMap (fun x => if x.2.2.isSome then some x.2.1 else none)
  gs.eraseDups.filterMap (fun g => match g with
    | .tone t c k => some (t, c, k)
    | .flux .. => none)

/-- φ of a tone at an instant of the present tick (02 R47). -/
def State.tonePhase (s : State) (t c k instant : Nat) : BitVec 48 :=
  BitVec.ofNat 48 (s.rd (toneFreq_FREQ t c k) * (16 * s.ft.toNat + instant % 16)
    + s.rd (tonePhase_OFFSET t c k) * 2 ^ 16 + s.rd (toneVz_VZ t c k))

/-- x of a tone at an instant: Re(E S A e^(jφ)) (R106). -/
def State.toneX (s : State) (t c k instant : Nat) : Rat :=
  let a := q15 (BitVec.ofNat 16 (s.rd (tonePhase_AMP t c k)))
  (s.shaping (.tone t c k) instant).foldl (fun z p =>
    z + onCarrier (interpolate (s.envWindow p instant)) (s.tonePhase t c k instant)
      * p.rampLeft instant * q15 p.body.scale * a) 0

/-- The output code of a channel for a sum of its tones, and whether it saturates (R106). -/
def synCode (gain : Nat) (x : Rat) : Int × Bool :=
  let v := roundAway (8192 * ((gain : Rat) / 2 ^ 15) * x)
  (max (-8192) (min 8191 v), decide (v < -8192) || decide (8191 < v))

/-- What the DAC puts out for a code: held for the period, or in mixed mode two half-periods of opposite
sign (R125). -/
def dacHalves (mixed : Bool) (code : Int) : Int × Int := if mixed then (code, -code) else (code, code)

/-- A clipped sample of a channel (R124). -/
def State.synClip (s : State) (t c : Nat) : State :=
  let s := (s.bump (clipCount_COUNT t c)).pulse (208 + 4 * t + c)
  let s := if s.on (synCfg_CLIPPED t c) then s
    else (s.setReg ⟨.clipFirst, t, c, 0⟩ s.ft).put (synCfg_CLIPPED t c) true
  s.each (s.openOn t) (fun s id => s.modShot id (fun x =>
    if x.clip.contains t then x else { x with clip := t :: x.clip }))

/-- One DAC sample of a channel, put out as ZONE says; its square joins the ledger's sum (R125; 13 R367). -/
def State.synSample (s : State) (t c : Nat) (ks : List Nat) (instant : Nat) : State :=
  let r := synCode (s.rd (synCfg_GAIN t c)) (ks.foldl (fun z k => z + s.toneX t c k instant) (0 : Rat))
  let s := { s with synSq := Tab.set s.synSq (t, c) (Tab.get s.synSq (t, c) 0 + r.1.natAbs ^ 2),
                    dacOut := Tab.set s.dacOut (t, c)
                      (Tab.get s.dacOut (t, c) [] ++ [dacHalves (s.on (synCfg_ZONE t c)) r.1]) }
  if r.2 then s.synClip t c else s

/-- Whether a channel converts: enabled, in Active, its quadrant die ready (01 R20; R112). -/
def State.synOn (s : State) (t c : Nat) : Bool :=
  s.on (synCfg_ENABLE t c) && s.active && s.bitAt dieStatus_QREADY (t / 4)

/-- The sixteen DAC samples of this tick on every channel that patterns shape, each after the tone
commands stamped at or before it (R115); every other channel puts out zero code (R126). -/
def State.synTick (s : State) : State :=
  let tones := s.tonesInUse
  let chans := (tones.map (fun x => (x.1, x.2.1))).eraseDups.filter (fun x => s.synOn x.1 x.2)
  let s : State := { s with dacOut := [] }
  let s := s.each (List.range 16) (fun s i =>
    let instant := 16 * s.tick + i
    (s.runActs Act.isTone instant).each chans (fun s x =>
      s.synSample x.1 x.2 ((tones.filter (fun y => decide ((y.1, y.2.1) = x))).map (fun y => y.2.2)) instant))
  { s with skirts := s.skirts.filter (fun p => decide (16 * (s.tick + 1) < p.last + 48)) }

/-- The words of envelope memory that a pattern which is no bobbin's, from an instant, reads in this
tick (R107, R113). -/
def PlayBody.reads (b : PlayBody) (g : Tgt) (start tick : Nat) : List Nat :=
  let n := tick + 18 - start / 16
  if b.bob.isSome ∨ tick + 18 < start / 16 then []
  else if g.isFlux then
    ([2 * n, 2 * n + 1].filter (fun n => decide (n < b.len))).map (fun n => (b.base * 8 + 2 * n) / 8)
  else if n < b.len then [(b.base * 8 + 4 * n) / 8] else []

/-- Reads of envelope memory that fail in this tick are faults of the thread that dispatched the play
(12 R339, R343). -/
def State.envelopeReads (s : State) : State :=
  let readers : List (Thr × List Nat) := s.plays.map (fun p => (p.thr, p.body.reads p.tgt p.start s.tick))
    ++ s.standing.filterMap (fun x => x.2.2.map (fun b => (x.1.thr, b.reads x.2.1 x.1.at_ s.tick)))
  s.each readers (fun s x =>
    match x.2.find? (fun i => s.poisoned 0x03 x.1.tile i) with
    | some i => s.poisonFault 0x03 x.1 i
    | none => s)

end Sys2Proof.Machine
end

