-- ==== Sys2Proof/Machine/Transport.lean ====
section
/-! DEFINITION. Ports, queue pairs, rings and doorbells (11 R301-R306, R313-R316, R337, R338). -/

namespace Sys2Proof.Machine

open Fld

/-! Ports and links (R301, R302, R329). -/

/-- A write of a port's register: MODE, FEC and AN are refused while EN = 1; a reserved MODE or FEC
leaves its field (R301; DEDUCED, log entry 33). -/
def State.onPort (s : State) (p : Nat) (new : Word) : State :=
  let old := s.reg ⟨.port, p, 0, 0⟩
  if old.getLsbD 0 && bitsOf new 1 5 != bitsOf old 1 5 then
    s.setReg ⟨.port, p, 0, 0⟩ (withBits (withBits new 1 5 (bitsOf old 1 5)) 10 1 1)
  else
    let w := if bitsOf new 1 2 = 3 then withBits new 1 2 (bitsOf old 1 2) else new
    s.setReg ⟨.port, p, 0, 0⟩ (if bitsOf w 3 2 = 3 then withBits w 3 2 (bitsOf old 3 2) else w)

/-- Whether a link exists in the mode of its port (R301). -/
def State.linkExists (s : State) (l : Nat) : Bool :=
  let w := s.reg ⟨.port, l / 4, 0, 0⟩
  w.getLsbD 0 && (l % 4 == 0 || bitsOf w 1 2 == 1)

/-- The rate of a link in kb/s (R301). -/
def State.linkRate (s : State) (l : Nat) : Nat :=
  match bitsOf (s.reg ⟨.port, l / 4, 0, 0⟩) 1 2 with
  | 0 => 100000000
  | 1 => 25000000
  | _ => 10000000

/-- LINK_CHANGE (R329): the UP bit, and the notice. -/
def execLinkChange (l : BitVec 3) (up : Bool) (s : State) : Host.Outcome State Fault Refusal :=
  let l := l.toNat
  if (up && !s.linkExists l) || s.bitAt (portStatus_UP (l / 4)) (l % 4) == up then .next s
  else .next ((s.putBit (portStatus_UP (l / 4)) (l % 4) up).notice 0xEA 0 (if up then 1 else 0) l 0)

/-- Whether a frame is one that the device discards and counts (R302): stacked tags, above 9,216 bytes, a form
of IP it does not take, or a protocol it does not have; priority flow control is one while PFC_EN = 0. -/
def EthFrame.discarded (f : EthFrame) (pfc : Bool) : Bool :=
  decide (2 ≤ f.tags.length) || decide (9216 < f.length) ||
    match f.body with
    | .ipFragment | .ipv4Options | .ipv6Extension | .otherProtocol => true
    | .pfc _ _ => !pfc
    | .arp _ | .neighbour _ | .echo4 _ | .echo6 _ => false

/-- Whether a frame is sent to a link: its MAC or a group address, and the link's VLAN tag, or none (R302;
DEDUCED, log entry 127). -/
def State.frameFor (s : State) (l : Nat) (f : EthFrame) : Bool :=
  (f.dest.toNat == s.rd (linkMac_MAC l) || f.dest.getLsbD 40) &&
    (if s.on (linkIp_VLAN_EN l) then f.tags.map (fun t => t.1.toNat) == [s.rd (linkIp_VLAN l)] else f.tags.isEmpty)

/-- Whether an address is a link's own IPv4 or IPv6 address; zero is none (R302). -/
def State.ownIp4 (s : State) (l : Nat) (a : BitVec 32) : Bool :=
  s.rd (linkIp_IPV4 l) != 0 && a.toNat == s.rd (linkIp_IPV4 l)
def State.ownIp6 (s : State) (l : Nat) (a : BitVec 128) : Bool :=
  let own := s.rd (linkIp6Hi_IPV6_HI l) * 2 ^ 64 + s.rd (linkIp6Lo_IPV6_LO l)
  own != 0 && a.toNat == own

/-- The pause that a frame asks for on PFC_PRIO, in quanta of 512 bit times (R302). -/
def State.takePfc (s : State) (l : Nat) (enabled : BitVec 8) (quanta : Vector Nat 8) : State :=
  let p := s.rd (port_PFC_PRIO (l / 4))
  if !enabled.getLsbD p then s
  else
    let until_ := s.tick + (quanta.toList.getD p 0 * 512 * 1000000 + s.linkRate l - 1) / s.linkRate l
    { s with kenRun.paused := (l, until_) :: s.kenRun.paused.filter (fun e => e.1 != l) }

/-- ETHERNET_FRAME_RX (R302): answered, acted on, or discarded into RX_BAD. -/
def execEthernetFrameRx (l : BitVec 3) (f : EthFrame) (s : State) : Host.Outcome State Fault Refusal :=
  let l := l.toNat
  let answer (mine : Bool) (kind : Nat) : Host.Outcome State Fault Refusal :=
    .next (if mine && s.frameFor l f then s.send (.frame l kind) else s)
  if !s.linkExists l then .next s
  else if f.discarded (s.on (port_PFC_EN (l / 4))) then .next (s.bump (linkCounts_RX_BAD l))
  else
    match f.body with
    | .arp a => answer (s.ownIp4 l a) 0
    | .neighbour a => answer (s.ownIp6 l a) 1
    | .echo4 a => answer (s.ownIp4 l a) 2
    | .echo6 a => answer (s.ownIp6 l a) 2
    | .pfc enabled quanta => .next (s.takePfc l enabled quanta)
    | .ipFragment | .ipv4Options | .ipv6Extension | .otherProtocol => .next s

/-- Little-endian value of bytes (R7). -/
def leBytes : List Byte → Nat
  | [] => 0
  | b :: rest => b.toNat + 256 * leBytes rest

/-! Queue pairs (R304-R306). -/

/-- A queue pair's link. -/
def State.qpLink (s : State) (q : Nat) : Nat := s.rd (qpCtrl_LINK q)

/-- The command rings bound to a queue pair. -/
def State.ringsOf (s : State) (q : Nat) : List Nat :=
  (List.range 64).filter (fun r => s.rd (cmdCfg_QP r) == q)

/-- Word k of a descriptor, and a field of it (R317). -/
def Desc.word (d : Desc) (k : Nat) : Word := d.w.getD k 0
def Desc.field (d : Desc) (k lo width : Nat) : Nat := bitsOf (d.word k) lo width

/-- LAG (06 R185): the round less RT, as a signed 32-bit value. -/
def State.frameLag (s : State) (rt : Nat) : Int :=
  signedOf 32 (unsignedOf 32 ((s.rd (patchRound_ROUND (s.rd pdcCfg_REF_PATCH)) : Int) - rt))

/-- INFO32 and INFO64 of a descriptor that ends without having done anything (R328): a LAUNCH names its thread,
a FRAME its LAG, a FEED the end of the extent it describes. -/
def State.descInfo (s : State) (d : Desc) : Nat × Word :=
  match d.ref.opcode with
  | 0x20 => (d.field 1 0 4 + d.field 1 4 3 * 2 ^ 4, 0)
  | 0x28 => (unsignedOf 32 (s.frameLag (d.field 1 0 32)), 0)
  | 0x30 => (0, d.word 2 + BitVec.ofNat 64 (d.field 3 0 32 / 4))
  | _ => (0, 0)

/-- A descriptor ends without having done anything. -/
def State.ends (s : State) (d : Desc) (status : Nat) : State :=
  s.complete d.ref status 0 (s.descInfo d).1 (s.descInfo d).2 0

/-- Descriptors fetched and not begun on a ring complete with FLUSHED (R304, R313). -/
def State.flushFetched (s : State) (r : Nat) : State :=
  let mine := s.fetched.filter (fun d => d.ref.ring == r)
  let s := { s with fetched := s.fetched.filter (fun d => d.ref.ring != r) }
  s.each mine (fun s d => s.ends d 0x34)

/-- Fetching stops on a ring (R313): what its READs bring is discarded. -/
def State.stopFetch (s : State) (r : Nat) : State :=
  { s with outReqs := s.outReqs.map (fun (o : OutReq) => match o.kind with
      | .fetch r' _ => if r' = r then { o with kind := .gone } else o
      | _ => o) }

/-- Whether a descriptor moves data to or from the host. -/
def DescRef.isTransfer (d : DescRef) : Bool := d.opcode == 0x10 || d.opcode == 0x11 || d.opcode == 0x12

/-- BUILD_ID of an image, once received (03 R103). -/
def buildId (bs : List Byte) : Word :=
  if bs.length < 0x18 then 0 else BitVec.ofNat 64 (leBytes ((bs.drop 0x10).take 8))

/-- INFO64 of a LOAD or SHARE (R328). -/
def Transfer.info (t : Transfer) : Word := if t.space = 0 then buildId t.image else 0

/-- Words of a READ that the host has acknowledged (R321). -/
def State.wordsArrived (s : State) (w : ReadWait) : Nat :=
  match s.outReqs.find? (fun r => r.q == w.q && r.isWrite && r.psn == w.psn) with
  | some r => w.words - r.left / 8
  | none => w.words

/-- The notices that report a WRITE of a queue pair which has not been acknowledged go with it. -/
def State.dropNotices (s : State) (q : Nat) : State :=
  { s with cplWait := s.cplWait.filter (fun p => s.acked p.2 || !p.2.after.any (fun a => a.1 == q)) }

/-- A queue pair enters Error (R304, R321, R329): its transfers end with HOST_ACCESS, its fetched
descriptors with FLUSHED. -/
def State.qpFail (s : State) (q cause : Nat) : State :=
  let s := ((s.wr (qpCtrl_STATE q) qpErrorState).wr (qpErr_ERR_CAUSE q) cause).dropNotices q
  let rings := s.ringsOf q
  let broken := s.transfers.filter (fun t => rings.contains t.ref.ring)
  let reads := (s.readWait.filter (fun w => w.q == q)).map (fun w => (w.ref, s.wordsArrived w))
  let begun := (s.begun.filter (fun d => rings.contains d.ref.ring && d.ref.isTransfer)).map Desc.ref
  let s := { s with
    transfers := s.transfers.filter (fun t => !rings.contains t.ref.ring),
    readWait := s.readWait.filter (fun w => w.q != q),
    begun := s.begun.filter (fun d => !begun.contains d.ref) }
  let s := s.each broken (fun s t => s.complete t.ref 0x31 cause (t.done / 8) t.info t.rejected)
  let s := s.each reads (fun s w => s.complete w.1 0x31 cause w.2 0 0)
  let s := s.each begun (fun s d => s.complete d 0x31 cause 0 0 0)
  let s := s.each rings State.flushFetched
  s.notice 0xE9 0 cause q 0

/-- QP_ERROR (R304): a host write, cause 7, from Init, RTR or RTS; another cause from RTS. -/
def execQpError (q : BitVec 6) (cause : BitVec 4) (s : State) : Host.Outcome State Fault Refusal :=
  let q := q.toNat
  let st := s.rd (qpCtrl_STATE q)
  if st = qpRtsState ∧ 1 ≤ cause.toNat ∧ cause.toNat ≤ 7 then .next (s.qpFail q cause.toNat)
  else if (st = qpInitState ∨ st = qpRtrState) ∧ cause = 7 then .next (s.qpFail q 7)
  else .next s

/-- A queue pair enters Reset (R304): outstanding requests, and descriptors fetched and not begun,
are discarded without completion; their read tags are free. -/
def State.qpClear (s : State) (q : Nat) : State :=
  let s := s.dropNotices q
  let rings := s.ringsOf q
  let gone := (s.fetched.filter (fun d => rings.contains d.ref.ring)).map Desc.ref
    ++ (s.begun.filter (fun d => rings.contains d.ref.ring && d.ref.isTransfer)).map Desc.ref
    ++ (s.transfers.filter (fun t => rings.contains t.ref.ring)).map Transfer.ref
    ++ (s.readWait.filter (fun w => w.q == q)).map ReadWait.ref
  let bobs := s.outReqs.filterMap (fun r => match r.kind with
    | .refill t b _ _ => if r.q = q then some (t, b) else none
    | _ => none)
  let s := { s with
    fetched := s.fetched.filter (fun d => !rings.contains d.ref.ring),
    begun := s.begun.filter (fun d => !gone.contains d.ref),
    transfers := s.transfers.filter (fun t => !rings.contains t.ref.ring),
    readWait := s.readWait.filter (fun w => w.q != q),
    flying := s.flying.filter (fun r => !gone.contains r),
    outReqs := s.outReqs.filter (fun r => r.q != q),
    shadowWait := s.shadowWait.filter (fun w => w.q != q) }
  let s := s.each bobs (fun s g =>
    s.setBob g.1 g.2 { s.bob g.1 g.2 with requested := s.rd (bobWp_VALUE g.1 g.2) })
  (s.wr (qpCtrl_STATE q) qpResetState).setQp q {}

/-- The changes of STATE that a write can make (R304). -/
def qpMoves (st v : Nat) : Bool :=
  v == qpResetState || (v == qpInitState && st == qpResetState) || (v == qpRtrState && st == qpInitState)
    || (v == qpRtsState && st == qpRtrState)
    || (v == qpErrorState && (st == qpInitState || st == qpRtrState || st == qpRtsState))

/-- A queue pair enters a state by a write (R304). -/
def State.qpEnter (s : State) (q v : Nat) : State :=
  if v = qpResetState then s.qpClear q
  else if v = qpErrorState then s.qpFail q 7
  else
    let s := s.wr (qpCtrl_STATE q) v
    if v = qpRtrState then s.setQp q { s.qp q with rqPsn := BitVec.ofNat 24 (s.rd (qpPsn_RQ_PSN q)) }
    else if v = qpRtsState then s.setQp q { s.qp q with sqPsn := BitVec.ofNat 24 (s.rd (qpPsn_SQ_PSN q)) }
    else s

/-- A write of a queue pair's CTRL (R304): a change of STATE that the table does not allow is REFUSED, and such a
write has no effect (R318); fields beside STATE change only in Reset and Init. -/
def State.onQpCtrl (s : State) (q : Nat) (new : Word) : State × MStatus :=
  let st := s.rd (qpCtrl_STATE q)
  let v := bitsOf new 0 3
  if v ≠ st ∧ !qpMoves st v then (s, .refused)
  else
    let s := if st ≤ qpInitState then s.setReg ⟨.qpCtrl, q, 0, 0⟩ (withBits new 0 3 st) else s
    (if v = st then s else s.qpEnter q v, .ok)

/-- A write of another register of a queue pair: only in Reset and Init (R304). -/
def State.onQpReg (s : State) (r : Reg) (new : Word) : State :=
  if s.rd (qpCtrl_STATE r.i) ≤ qpInitState then s.setReg r new else s

/-- Retransmission of what is outstanding (R305). -/
def State.retransmit (s : State) (q : Nat) : State :=
  { s.bump (qpErr_RETRANSMITS q) with outReqs := s.outReqs.map (fun (r : OutReq) =>
      if r.q = q then { r with sent := s.tick } else r) }.send (.retransmit q)

/-- A retransmission, at once or when the queue pair is no longer silent (R302, R306). -/
def State.resend (s : State) (q : Nat) : State :=
  if s.qpMute q then s.setQp q { s.qp q with owed := true } else s.retransmit q

/-- ACK_TIMEOUT (R305): 4.096 us x 2^n without an acknowledgement; the timers stop in Dormant (R306), and the wait
after an RNR NAK takes their place. -/
def execAckTimeout (q : BitVec 6) (s : State) : Host.Outcome State Fault Refusal :=
  let q := q.toNat
  let n := s.rd (qpCtrl_ACK_TIMEOUT q)
  let beyond := s.outReqs.any (fun r => r.q == q && decide (r.sent + 4096 * 2 ^ n ≤ s.tick))
  let x := s.qp q
  if n = 0 ∨ !beyond ∨ s.dormant ∨ x.rnrDue.isSome ∨ s.rd (qpCtrl_STATE q) ≠ qpRtsState then .next s
  else if x.retries < s.rd (qpCtrl_RETRY_CNT q) then
    .next ((s.setQp q { x with retries := x.retries + 1 }).resend q)
  else .next (s.qpFail q 1)

/-- The wait that an RNR NAK asks for, in ns, by its code: the table of the transport's standard, which R305
follows (PRESUMED, log entry 128). -/
def rnrWait (timer : BitVec 5) : Nat :=
  10000 * [65536, 1, 2, 3, 4, 6, 8, 12, 16, 24, 32, 48, 64, 96, 128, 192, 256, 384, 512, 768, 1024, 1536, 2048, 3072,
    4096, 6144, 8192, 12288, 16384, 24576, 32768, 49152].getD timer.toNat 0

/-- RNR_RETRY_TIMER (R305): the wait after an RNR NAK is over; RNR_RETRY 7 is without limit. -/
def execRnrRetryTimer (q : BitVec 6) (s : State) : Host.Outcome State Fault Refusal :=
  let q := q.toNat
  let x := s.qp q
  let lim := s.rd (qpCtrl_RNR_RETRY q)
  if !x.rnrDue.any (fun t => decide (t ≤ s.tick)) ∨ s.dormant ∨ s.rd (qpCtrl_STATE q) ≠ qpRtsState then .next s
  else if lim = 7 ∨ x.rnrRetries < lim then
    .next ((s.setQp q { x with rnrRetries := x.rnrRetries + 1, rnrDue := none }).resend q)
  else .next ((s.setQp q { x with rnrDue := none }).qpFail q 2)

/-- A congestion notification is sent. -/
def State.sendCnp (s : State) (q : Nat) : State :=
  ((s.setQp q { s.qp q with cnpSent := some s.tick, cnpOwed := false }).bump
    (linkCounts_CNP_TX (s.qpLink q))).send (.cnp q)

/-- ECN_CE_RX (R306): a congestion notification, at most one in 50 us: one owed sooner is sent when they have
passed. -/
def execEcnCeRx (q : BitVec 6) (s : State) : Host.Outcome State Fault Refusal :=
  let q := q.toNat
  let x := s.qp q
  let soon := match x.cnpSent with | some a => decide (s.tick < a + 50000) | none => false
  .next (if soon then s.setQp q { x with cnpOwed := true } else s.sendCnp q)

/-- What queue pairs owe is sent when it can be: congestion notifications, and retransmissions (R305, R306). -/
def State.qpTick (s : State) : State :=
  s.each s.qps (fun s p =>
    let x := s.qp p.1
    let s := if x.cnpOwed && x.cnpSent.all (fun a => decide (a + 50000 ≤ s.tick)) then s.sendCnp p.1 else s
    if (s.qp p.1).owed && !s.qpMute p.1 && s.rd (qpCtrl_STATE p.1) == qpRtsState then
      (s.setQp p.1 { s.qp p.1 with owed := false }).retransmit p.1
    else s)

/-- The send rate in kb/s. -/
def State.qpRate (s : State) (q : Nat) : Nat :=
  if (s.qp q).rate = 0 then s.linkRate (s.qpLink q) else (s.qp q).rate

/-- CNP_RX (R306): the send rate halves, not below 1 Gb/s. -/
def execCnpRx (q : BitVec 6) (s : State) : Host.Outcome State Fault Refusal :=
  let q := q.toNat
  .next ((s.bump (linkCounts_CNP_RX (s.qpLink q))).setQp q
    { s.qp q with rate := max 1000000 (s.qpRate q / 2), rateTick := s.tick })

/-- RATE_RECOVERY (R306): every 50 us without a notification the rate doubles, up to the link's. -/
def execRateRecovery (q : BitVec 6) (s : State) : Host.Outcome State Fault Refusal :=
  let q := q.toNat
  let x := s.qp q
  if x.rate = 0 ∨ s.tick < x.rateTick + 50000 then .next s
  else
    let r := 2 * x.rate
    .next (s.setQp q { x with rate := if s.linkRate (s.qpLink q) ≤ r then 0 else r, rateTick := s.tick })

/-! Rings (R313). -/

/-- The register arrays of a ring kind: CFG, BASE, SHADOW, indices. -/
def RingKind.cfg : RingKind → RegName
  | .cmd => .cmdCfg
  | .cpl => .cplCfg
  | .res => .resCfg
  | .ptpr => .ptprCfg
def RingKind.idx : RingKind → RegName
  | .cmd => .cmdIdx
  | .cpl => .cplIdx
  | .res => .resIdx
  | .ptpr => .ptprIdx

/-- The allowed sizes, as powers of two (R313; 11, KEN.PTPR). -/
def RingKind.sized (k : RingKind) (n : Nat) : Bool :=
  match k with
  | .res => decide (8 ≤ n ∧ n ≤ 20)
  | _ => decide (6 ≤ n ∧ n ≤ 16)

/-- A write of a ring's +0x00 word (R313). -/
def State.onRingCfg (s : State) (k : RingKind) (r : Nat) (new : Word) : State :=
  let cfg : Reg := ⟨k.cfg, r, 0, 0⟩
  let was := (s.reg cfg).getLsbD 0
  let on := new.getLsbD 0
  if was && on then s.bump kenCounts_CFG_REFUSED
  else if was then
    let s := match k with | .cmd => (s.flushFetched r).stopFetch r | _ => s
    s.setReg cfg new
  else if on then
    if k.sized (bitsOf new 3 5) then (s.setReg cfg new).setReg ⟨k.idx, r, 0, 0⟩ 0
    else s.bump kenCounts_CFG_REFUSED
  else s.setReg cfg new

/-- A write of BASE or SHADOW of a ring: refused while EN = 1 (R313). -/
def State.onRingReg (s : State) (k : RingKind) (r : Reg) (new : Word) : State :=
  if (s.reg ⟨k.cfg, r.i, 0, 0⟩).getLsbD 0 then s.bump kenCounts_CFG_REFUSED else s.setReg r new

/-! Doorbells (R314). -/

/-- A doorbell inside the window, at an offset (R314). -/
def State.ring (s : State) (q off : Nat) (bytes : List Byte) : State :=
  let v := leBytes bytes
  let d := off / 64
  let kind := v / 2 ^ 32 % 4
  if bytes.length ≠ 8 ∨ off % 64 ≠ 0 ∨ kind = 3 then s.bump kenCounts_DB_BAD
  else
    let set (s : State) (bound log2 : Nat) (f : RField) : State :=
      if bound ≠ q then s.bump kenCounts_DB_DENIED else s.wr f (v % 2 ^ 32 % ringSize log2)
    match kind with
    | 0 => set s (s.rd (cmdCfg_QP d)) (s.rd (cmdCfg_LOG2SIZE d)) (cmdIdx_PI d)
    | 1 => set s (s.rd (cplCfg_QP d)) (s.rd (cplCfg_LOG2SIZE d)) (cplIdx_CI d)
    | _ => set s (s.rd (resCfg_QP d)) (s.rd (resCfg_LOG2SIZE d)) (resIdx_CI d)

/-- Whether a queue pair takes requests from its partner: RTR or RTS (R304). -/
def State.qpListens (s : State) (q : Nat) : Bool :=
  let st := s.rd (qpCtrl_STATE q)
  st == qpRtrState || st == qpRtsState

/-- The request expected has been taken: it is acknowledged. -/
def State.acceptReq (s : State) (q : Nat) : State :=
  (s.setQp q { s.qp q with rqPsn := (s.qp q).rqPsn + 1 }).send (.ack q 0)

/-- A WRITE request with the window's R_Key (R303, R314): RNR NAK in Dormant (R306), remote access NAK outside the window. -/
def State.takeWrite (s : State) (q : Nat) (addr : Word) (bytes : List Byte) : State :=
  let off := (addr - s.reg ⟨.kenDbBase, 0, 0, 0⟩).toNat
  if s.dormant then s.send (.ack q 1)
  else if 4096 ≤ off then s.send (.ack q 3)
  else (s.acceptReq q).ring q off bytes

/-- DOORBELL (R314): an RDMA WRITE with the window's R_Key that arrives in order. -/
def execDoorbell (q : BitVec 6) (addr : Word) (bytes : List Byte) (s : State) :
    Host.Outcome State Fault Refusal :=
  if s.qpListens q.toNat then .next (s.takeWrite q.toNat addr bytes) else .next s

/-! Inline rings (R316, R317). -/

/-- The 64-bit words of little-endian bytes. -/
def wordsOf : Nat → List Byte → List Word
  | 0, _ => []
  | n + 1, bs => BitVec.ofNat 64 (leBytes (bs.take 8)) :: wordsOf n (bs.drop 8)

/-- A descriptor from its eight words (R317). -/
def descOf (ring index : Nat) (inl : Bool) (w : List Word) : Desc :=
  let h := w.getD 0 0
  { ref := { ring := ring, index := index, tag := BitVec.ofNat 32 (bitsOf h 32 32), cpl := h.getLsbD 8,
             inl := inl, opcode := bitsOf h 0 8 }, fence := h.getLsbD 9, w := w }

/-- CI of a command ring is to be written to its shadow (R315). -/
def State.cmdShadow (s : State) (r : Nat) : State :=
  let a := s.reg ⟨.cmdShadow, r, 0, 0⟩
  if a = 0 then s
  else { s with shadowWait := s.shadowWait ++
      [({ q := s.rd (cmdCfg_QP r), after := none, rkey := s.rd (cmdCfg_RKEY r), addr := a,
          count := s.rd (cmdIdx_CI r) } : ShadowWait)] }

/-- n descriptors taken on a ring, in ring order: CI counts them, and goes to the shadow after every 16 and where
they empty the ring, as an inline one always is (R315, R316). -/
def State.takeDescs (s : State) (ring : Nat) (inl : Bool) : Nat → List Word → State
  | 0, _ => s
  | n + 1, w =>
      let size := ringSize (s.rd (cmdCfg_LOG2SIZE ring))
      let ci := s.rd (cmdIdx_CI ring) % size
      let s := { s with fetched := s.fetched ++ [descOf ring ci inl (w.take 8)] }
      let s := s.wr (cmdIdx_CI ring) ((ci + 1) % size)
      let empty := n == 0 && (inl || s.rd (cmdIdx_PI ring) % size == (ci + 1) % size)
      (if (ci + 1) % 16 == 0 || empty then s.cmdShadow ring else s).takeDescs ring inl n (w.drop 8)

/-- The inline ring that receives a queue pair's SENDs (R316). -/
def State.inlineRing (s : State) (q : Nat) : Option Nat :=
  (List.range 64).find? (fun r => s.on (cmdCfg_EN r) && s.on (cmdCfg_INLINE r) && s.rd (cmdCfg_QP r) == q)

/-- Entries an inline ring has free: those fetched and not begun occupy it. -/
def State.inlineFree (s : State) (r : Nat) : Nat :=
  ringSize (s.rd (cmdCfg_LOG2SIZE r)) - 1 - (s.fetched.filter (fun d => d.ref.ring == r)).length

/-- An unsupported or invalid request (R303, R304). -/
def State.invalidRequest (s : State) (q : Nat) : State :=
  let s := s.send (.ack q 2)
  if s.rd (qpCtrl_STATE q) = qpRtsState then s.qpFail q 5 else s

/-- A SEND request (R316): 64·n bytes, n = 1-64, to the inline ring; else an RNR NAK, or for another
length an invalid request. -/
def State.takeSend (s : State) (q : Nat) (bytes : List Byte) : State :=
  let n := bytes.length / 64
  if s.dormant then s.send (.ack q 1)
  else if bytes.length % 64 ≠ 0 ∨ n = 0 ∨ 64 < n then s.invalidRequest q
  else
    match s.inlineRing q with
    | none => s.send (.ack q 1)
    | some r =>
        if s.inlineFree r < n then s.send (.ack q 1)
        else
          let s := (s.acceptReq q).takeDescs r true n (wordsOf (8 * n) bytes)
          s.wr (cmdIdx_PI r) (s.rd (cmdIdx_CI r))

/-- INLINE_SEND (R316): a SEND that arrives in order. -/
def execInlineSend (q : BitVec 6) (bytes : List Byte) (s : State) : Host.Outcome State Fault Refusal :=
  if s.qpListens q.toNat then .next (s.takeSend q.toNat bytes) else .next s

end Sys2Proof.Machine
end

