-- ==== Sys2Proof/Machine/Image.lean ====
section
/-! DEFINITION. The sequence image: its header, section table, checks and CRC (03 R103-R105). -/

namespace Sys2Proof.Machine

open Fld

/-! CRC-32 of IEEE 802.3 (R103). -/

/-- n shifts of the reflected register. -/
def crcShift : Nat → Nat → Nat
  | 0, c => c
  | n + 1, c => crcShift n (if c % 2 = 1 then (c / 2) ^^^ 0xEDB88320 else c / 2)

/-- The register after bytes. -/
def crcBytes : Nat → List Byte → Nat
  | c, [] => c
  | c, b :: rest => crcBytes (crcShift 8 (c ^^^ b.toNat)) rest

/-- The CRC-32 of bytes. -/
def crc32 (bs : List Byte) : Nat := crcBytes 0xFFFFFFFF bs ^^^ 0xFFFFFFFF

/-- Little-endian field of an image. -/
def imgField (bs : List Byte) (off n : Nat) : Nat := leBytes ((bs.drop off).take n)

/-- A section table entry (R104). -/
structure Section_ where
  typ : Nat
  dest : Nat
  offset : Nat
  size : Nat
  deriving DecidableEq, Repr

/-- Section k of the table. -/
def imgSection (bs : List Byte) (k : Nat) : Section_ :=
  let at_ := 0x40 + 16 * k
  { typ := imgField bs at_ 2, dest := imgField bs (at_ + 4) 4, offset := imgField bs (at_ + 8) 4,
    size := imgField bs (at_ + 12) 4 }

def imgSections (bs : List Byte) : List Section_ := (List.range (imgField bs 0x0C 2)).map (imgSection bs)

/-- A header that is wrong in itself, or against the descriptor's LENGTH (R105, CODE 1). -/
def headerBad (bs : List Byte) (length : Nat) : Bool :=
  let len := imgField bs 8 4
  let n := imgField bs 0x0C 2
  imgField bs 0 4 != 0x58545331 || imgField bs 4 2 != 1 || imgField bs 6 2 != 64
    || len % 8 != 0 || len != length || n == 0 || decide (64 < n) || decide (len < 64 + 16 * n)

/-- A section table entry wrong in itself (R105, CODE 1). -/
def Section_.bad (x : Section_) : Bool :=
  x.offset % 8 != 0 || x.size % 8 != 0 || (decide (3 ≤ x.typ ∧ x.typ ≤ 5) && x.dest != 0)
    || (x.typ == 4 && x.size != 192) || (x.typ == 5 && x.size != 128)

/-- A section beyond its memory (R105, CODE 3). -/
def Section_.beyond (x : Section_) : Bool :=
  match x.typ with
  | 1 => decide (131072 < x.dest + x.size / 8)
  | 2 => decide (8192 < x.dest + x.size / 8)
  | 3 => decide (2048 < x.size)
  | _ => false

/-- Two sections that overlap within their memory: some word lies in both (R105, CODE 4). -/
def Section_.overlaps (x y : Section_) : Bool :=
  x.typ == y.typ && (x.typ == 1 || x.typ == 2) && x.size != 0 && y.size != 0
    && decide (x.dest < y.dest + y.size / 8) && decide (y.dest < x.dest + x.size / 8)

/-- Whether some two members of a list are related, the first before the second. -/
def anyPair {α : Type} (f : α → α → Bool) : List α → Bool
  | [] => false
  | x :: rest => rest.any (f x) || anyPair f rest

/-- The lowest CODE, 1 to 6, that applies to a header and section table (R105). -/
def imageCode (bs : List Byte) (length : Nat) : Option Nat :=
  let ss := imgSections bs
  if headerBad bs length || ss.any Section_.bad then some 1
  else if ss.any (fun x => decide (length < x.offset + x.size)) then some 2
  else if ss.any Section_.beyond then some 3
  else if anyPair Section_.overlaps ss then some 4
  else if anyPair (fun x y => x.typ == y.typ && decide (3 ≤ x.typ ∧ x.typ ≤ 5)) ss then some 5
  else if ss.any (fun x => !(decide (1 ≤ x.typ ∧ x.typ ≤ 5) || x.typ == 0xFF)) then some 6
  else none

/-- Whether the bytes received are enough for the check of the header and section table: a header that
is wrong is known at once. -/
def tableHere (bs : List Byte) (length : Nat) : Bool :=
  bs.length == length ||
    (decide (64 ≤ bs.length) && (headerBad bs length || decide (64 + 16 * imgField bs 0x0C 2 ≤ bs.length)))

/-- The CRC over the image with its field taken as zero (R103). -/
def imageCrc (bs : List Byte) : Nat :=
  crc32 (bs.take 0x1C ++ List.replicate 4 0 ++ bs.drop 0x20)

/-- The words of a section of an image, by word address, that lie in the bytes [lo, hi). -/
def sectionWords (bs : List Byte) (x : Section_) (lo hi : Nat) : List (Nat × Word) :=
  ((List.range (x.size / 8)).filter (fun i => decide (lo ≤ x.offset + 8 * i ∧ x.offset + 8 * i + 8 ≤ hi))).map
    (fun i => (x.dest + i, BitVec.ofNat 64 (imgField bs (x.offset + 8 * i) 8)))

/-- Instruction and data sections are written as they arrive (R105). -/
def State.writeSections (s : State) (tile : Nat) (bs : List Byte) (lo : Nat) : State :=
  s.each (imgSections bs) (fun s x =>
    let put (sp : Space) : State :=
      s.each (sectionWords bs x lo bs.length) (fun s e => s.setMemWord sp tile e.1 e.2)
    match x.typ with
    | 1 => put .instr
    | 2 => put .data
    | _ => s)

/-- The words of the first section of a type. -/
def heldSection (bs : List Byte) (typ : Nat) : Option (List Word) :=
  match (imgSections bs).find? (fun x => x.typ == typ) with
  | none => none
  | some x => some ((sectionWords bs x 0 bs.length).map Prod.snd)

end Sys2Proof.Machine
end

