-- ==== Sys2Proof/Machine/RegWrite.lean ====
section
/-! DEFINITION. Register writes: width and address checks, scope, setup lock, access codes, and the
register's own behaviour (00 R8-R10; 01 R28; 11 R308, R310-R312). -/

namespace Sys2Proof.Machine

open Fld

/-! Parts of a register and its access codes (R8, R9). -/

/-- The bits of a register that an access covers. -/
def Half.mask (h : Half) : Nat :=
  match h with
  | .whole => 2 ^ 64 - 1
  | .low => 2 ^ 32 - 1
  | .high => 2 ^ 64 - 2 ^ 32

/-- A written value at its place in the register. -/
def WriteOp.bits (w : WriteOp) : Word :=
  match w.half with
  | .whole => w.value
  | .low => w.value &&& 0xFFFFFFFF
  | .high => w.value <<< 32

/-- The bits of a register whose fields have one of some access codes. -/
def RegName.mask (n : RegName) (p : Acc → Bool) : Nat :=
  n.info.fields.foldl (fun m f => if p f.acc then m + (2 ^ f.width - 1) * 2 ^ f.lo else m) 0

/-- Registers whose bit 63 is CLR. -/
def RegName.hasClr (n : RegName) : Bool :=
  match n with
  | .syncStat | .laneCounts0 | .laneCounts1 | .laneCounts2 | .kenCounts | .seamStatus | .intCounts
  | .intCounts2 | .canopyCounts | .tdcCounts | .thrCounts | .clipCount | .synCounts | .ovrCount
  | .acqCounts | .fluxClip | .fluxIsat | .rqCounts | .monStatus | .dirStatus | .pdcCounts
  | .decCounts => true
  | _ => false

/-- The counters that CLR zeroes: the RO fields, but in SYNC_STAT not LAST_MARGIN, in MON.STATUS not
RUNS, in DIR.STATUS only REJ. -/
def RegName.clears (n : RegName) : Nat :=
  match n with
  | .syncStat => 0x0000FFFFFFFF0000
  | .monStatus => 0x0000FFFFFFFF0000
  | .dirStatus => (2 ^ dirStatus_REJ.width - 1) * 2 ^ dirStatus_REJ.lo
  | n => n.mask (fun a => a == .ro)

/-- What a write of a register merges with: its stored value, or its staging copy. -/
def State.merges (s : State) (r : Reg) : Word :=
  match r.name with
  | .dirWord1 => Tab.get s.dirStage r.i 0
  | .rxr1 => Tab.get s.rxrStage (r.i, r.j) 0
  | _ => s.reg r

/-- Whether setup lock is in force (R312). -/
def State.locked (s : State) : Bool := s.on globalLock_LOCKED

/-- The register as a write leaves it, before its own behaviour: RW and RWS fields covered by the
access are replaced, RWS not under setup lock; W1C bits written as one are cleared (R8-R10, R312). -/
def State.merged (s : State) (r : Reg) (w : WriteOp) : Word :=
  let old := s.merges r
  let rw := r.name.mask (fun a => a == .rw || (a == .rws && !s.locked)) &&& w.half.mask
  let w1c := r.name.mask (fun a => a == .w1c) &&& w.half.mask
  let taken := (old &&& ~~~(BitVec.ofNat 64 rw)) ||| (w.bits &&& BitVec.ofNat 64 rw)
  taken &&& ~~~(w.bits &&& BitVec.ofNat 64 w1c)

/-- Whether a write touches an RWS field under setup lock (R308, R312). -/
def State.hitsLock (s : State) (r : Reg) (h : Half) : Bool :=
  s.locked && (r.name.mask (fun a => a == .rws) &&& h.mask) != 0

/-! Scope (R311). -/

/-- Whether a tile belongs to a partition. -/
def State.ownsTile (s : State) (domain t : Nat) : Bool :=
  decide (1 ≤ domain ∧ domain ≤ 4) && s.bitAt (domainTiles_TILES (domain - 1)) t

/-- Whether a domain reaches a register: for a directory entry, as stored and as written (R311).  The
seam matrix applies its own ownership, and a TDC queue its claim (10 R290, R297). -/
def State.reaches (s : State) (domain : Nat) (r : Reg) (new : Word) : Bool :=
  let a := r.addr
  if domain = 0 then true
  else if 0x10000000 ≤ a ∧ a < 0x11000000 then s.ownsTile domain ((a - 0x10000000) / 0x100000)
  else if 0x04000000 ≤ a ∧ a < 0x05000000 then true
  else
    match r.name with
    | .tdcQData => true
    | .qpCtrl | .qpPsn | .qpGidHi | .qpGidLo | .qpDmac | .qpErr => s.rd (qpCtrl_DOMAIN r.i) == domain
    | .cmdCfg | .cmdBase | .cmdShadow | .cmdIdx => s.rd (qpCtrl_DOMAIN (s.rd (cmdCfg_QP r.i))) == domain
    | .cplCfg | .cplBase | .cplShadow | .cplIdx => s.rd (qpCtrl_DOMAIN (s.rd (cplCfg_QP r.i))) == domain
    | .resCfg | .resBase | .resShadow | .resIdx => s.rd (qpCtrl_DOMAIN (s.rd (resCfg_QP r.i))) == domain
    | .dirWord0 => s.ownsTile domain (s.rd (dirWord0_TILE r.i))
        && s.ownsTile domain (bitsOf new (dirWord0_TILE 0).lo (dirWord0_TILE 0).width)
    | .dirWord1 => s.ownsTile domain (s.rd (dirWord0_TILE r.i))
    | _ => false

/-! Registers of this chapter and of the threads and result queues. -/

/-- A write of GLOBAL.LOCK (R312). -/
def State.onLock (s : State) (req : Requester) (bits : Word) : State × MStatus :=
  if !strobe bits globalLock_LOCK then (s, .ok)
  else if req.domain = 0 ∧ req.secure then (s.put globalLock_LOCKED true, .ok)
  else (s, .denied)

/-- A write of word 0 of an ACL entry: a reserved DOMAIN leaves the field. -/
def State.onAcl0 (s : State) (r : Reg) (new : Word) : State :=
  let f := acl0_DOMAIN r.i
  s.setReg r (if 4 < bitsOf new f.lo f.width then withBits new f.lo f.width (s.rd f) else new)

/-- A write of BIND: a value out of range leaves its field (R102). -/
def State.onBind (s : State) (r : Reg) (new : Word) : State :=
  let keep (w : Word) (f : RField) (top : Nat) : Word :=
    if top < bitsOf w f.lo f.width then withBits w f.lo f.width (s.rd f) else w
  let w := keep new (bind_DRIVE r.i r.j) 23
  let w := keep w (bind_PROBE r.i r.j) 23
  let w := keep w (bind_DEMOD r.i r.j) 23
  let w := keep w (bind_BIAS r.i r.j) 23
  s.setReg r (keep w (bind_FLUX r.i r.j) 11)

/-- A write of BARMAP: refused unless every thread of the tile is Idle (R101). -/
def State.onBarMap (s : State) (r : Reg) (new : Word) : State :=
  if s.tileRunning r.i then s.put (ndlStatus_CFG_REFUSED r.i) true else s.setReg r new

/-- A fault completion is noted in the thread's registers (R101). -/
def State.noteFault (s : State) (q : Thr) (code : Nat) : State :=
  (s.wr (thrState_FAULT_CODE q.tile q.idx) code).putBit (ndlStatus_FAULTED q.tile) q.idx true

/-- A launch that never started completes with a status of the fault class (R98, R100, R322, R328). -/
def State.refuseLaunch (s : State) (q : Thr) (d : DescRef) (status code : Nat) : State :=
  (s.complete d status code (q.tile + q.idx * 2 ^ 4) 0 0).noteFault q code

/-- FLUSH_LQ: the launch queue empties, each launch completing with 0x0A (R100). -/
def State.flushLaunches (s : State) (q : Thr) : State :=
  let ls := (s.thread q).lq
  let s := s.modThread q (fun t => { t with lq := [] })
  s.each ls (fun s l => s.refuseLaunch q l.desc cplFaulted 0x0A)

/-- A write of THR.CTRL: FLUSH_LQ first, then STOP (R100). -/
def State.onThrCtrl (s : State) (q : Thr) (bits : Word) : State :=
  let s := if strobe bits (thrCtrl_FLUSH_LQ q.tile q.idx) then s.flushLaunches q else s
  if strobe bits (thrCtrl_STOP q.tile q.idx) then s.stopLaunch q 0x0A else s

/-- Words of a record already popped in part (R335). -/
def dropPart (l : List RqWord) : List RqWord := l.dropWhile (fun w => !w.head)

/-- The result queue under the result writer: what software has popped in part is discarded. -/
def Rq.startDelivery (q : Rq) : Rq × Bool :=
  let words := dropPart q.words
  let entering := if words.isEmpty then dropPart q.entering else q.entering
  let gone := (q.words.length - words.length) + (q.entering.length - entering.length)
  let late := q.entering.length - entering.length
  ({ q with words := words, entering := entering, wp := q.wp + BitVec.ofNat 13 late,
            rp := q.rp + BitVec.ofNat 13 gone }, gone != 0)

/-- A write of RQ.CFG (R335). -/
def State.onRqCfg (s : State) (t : Nat) (new : Word) : State :=
  let was := s.on (rqCfg_DELIVER t)
  let s := s.setReg ⟨.rqCfg, t, 0, 0⟩ new
  if was || !s.on (rqCfg_DELIVER t) then s
  else
    let p := (s.rq t).startDelivery
    let s := s.setRq t p.1
    if p.2 then s.bump (rqCounts_TRUNC t) else s

/-- RQ.CTRL.RESET (R333, R334): the queue empties, and a record of which the second, third or fourth
word enters in this tick is cut. -/
def Rq.reset (q : Rq) (now : Nat) : Rq × Bool :=
  let midway := decide (q.posAt = now ∧ 2 ≤ q.pos)
  let words := if q.posAt = now ∧ q.pos = 1 then q.words.drop (q.words.length - 1) else []
  ({ q with words := words, wp := BitVec.ofNat 13 words.length, rp := 0,
            entering := if midway then dropPart q.entering else q.entering }, midway)

/-- A write of RQ.CTRL (R334). -/
def State.onRqCtrl (s : State) (t : Nat) (bits : Word) : State :=
  if !strobe bits (rqCtrl_RESET t) then s
  else
    let p := (s.rq t).reset s.tick
    let s := s.setRq t p.1
    if p.2 then s.bump (rqCounts_TRUNC t) else s

/-- CLR (R9): the counters of a register are zeroed; the other fields are as written. -/
def State.clearCounters (s : State) (r : Reg) (new : Word) : State :=
  s.setReg r (new &&& ~~~(BitVec.ofNat 64 r.name.clears))

/-! The write itself. -/

/-- A write that has passed its checks: the register's own behaviour. -/
def State.landOn (s : State) (r : Reg) (w : WriteOp) (new : Word) : State × MStatus :=
  let bits := w.bits
  let req := w.req
  match r.name with
  | .globalLock => s.onLock req bits
  | .globalBoot => s.onGlobalBoot req bits
  | .pwr => (if (RegName.mask .pwr (fun a => a == .rw) &&& w.half.mask) = 0 then s else s.onPwr new, .ok)
  | .modeDec => (s.onModeDec new, .ok)
  | .refCfg => (s.onRefCfg bits new, .ok)
  | .xtalAccum => (s.onXtalAccum w.half new, .ok)
  | .syncCtrl => (s.onSyncCtrl new, .ok)
  | .skewCal => (s.onSkewCal bits new, .ok)
  | .ptpCfg => (s.onPtpCfg new, .ok)
  | .tdcCal => (s.onTdcCal new, .ok)
  | .ptpIncr => (s.onPtpIncr new, .ok)
  | .ptpStep => (s.stepPtp bits, .ok)
  | .latchCtrl => (s.onLatchCtrl bits new, .ok)
  | .laneCfg => (s.onLaneCfg r.i new, .ok)
  | .eswExp0 => (s.onExp0 r.i new, .ok)
  | .eswExp1 => (s.onExp1 r.i new, .ok)
  | .eswBar => (s.onEswBar r.i new, .ok)
  | .rxr0 => (s.onRxr0 r.i r.j new, .ok)
  | .rxr1 => (s.onRxr1 r.i r.j new, .ok)
  | .port => (s.onPort r.i new, .ok)
  | .acl0 => (s.onAcl0 r new, .ok)
  | .qpCtrl => s.onQpCtrl r.i new
  | .qpPsn | .qpGidHi | .qpGidLo | .qpDmac => (s.onQpReg r new, .ok)
  | .cmdCfg => (s.onRingCfg .cmd r.i new, .ok)
  | .cplCfg => (s.onRingCfg .cpl r.i new, .ok)
  | .resCfg => (s.onRingCfg .res r.i new, .ok)
  | .ptprCfg => (s.onRingCfg .ptpr r.i new, .ok)
  | .cmdBase | .cmdShadow => (s.onRingReg .cmd r new, .ok)
  | .cplBase | .cplShadow => (s.onRingReg .cpl r new, .ok)
  | .resBase | .resShadow => (s.onRingReg .res r new, .ok)
  | .ptprBase | .ptprShadow => (s.onRingReg .ptpr r new, .ok)
  | .seamCh => s.onSeamCh r.i req new
  | .srcOwn => s.onSrcOwn r.i req new
  | .tack0 => s.onTack0 r.i req new
  | .tack1 => s.onTack1 r.i req new
  | .tmrCfg => s.onTmrCfg r.i req bits new
  | .tmrTime | .tmrOrigin => s.onTmrReg r req new
  | .claimMk => s.onClaim r 17 5 17 req new
  | .claimTmr | .claimTdc | .claimLog => s.onClaim r 3 3 5 req new
  | .seamTask => s.onSeamTask req new
  | .logStatus => (s.onLogStatus bits new, .ok)
  | .sensBad => (s.onSensBad new, .ok)
  | .hostPolicy => (s.onHostPolicy r.i new, .ok)
  | .tdcCfg => (s.onTdcCfg r.i new, .ok)
  | .tdcQStatus => (s.onTdcQStatus r.i bits new, .ok)
  | .statCtrl => (s.onStatCtrl (8 + r.i) bits new, .ok)
  | .hwCtrl => s.onHwCtrl req bits new
  | .flashCtrl => s.onFlashCtrl req bits new
  | .flashAddr | .flashBuf => s.onFlashReg r req new
  | .barMap => (s.onBarMap r new, .ok)
  | .bind => (s.onBind r new, .ok)
  | .thrCtrl => (s.onThrCtrl ⟨r.i, r.j⟩ bits, .ok)
  | .synCfg => (s.onSynCfg r.i r.j new, .ok)
  | .toneFreq => (s.onToneFreq r.i r.j r.k new, .ok)
  | .tonePhase => (s.onTonePhase r.i r.j r.k w.half new, .ok)
  | .toneVz => (s.onToneVz r.i r.j r.k new, .ok)
  | .bobCfg => (s.onBobCfg r.i r.j bits new, .ok)
  | .bobLoopMark | .bobLoopEnd | .bobLoop => (s.onBobLoop r new, .ok)
  | .adcCfg => (s.onAdcCfg r.i new, .ok)
  | .adcCorr => (s.onAdcCorr r.i bits new, .ok)
  | .acqCtrl => (s.onAcqCtrl r.i r.j bits, .ok)
  | .trainCtrl => (s.onTrainCtrl r.i bits new, .ok)
  | .traceCtrl => (s.onTraceCtrl r.i bits new, .ok)
  | .fluxCtrl => (s.onFluxCtrl r.i r.j bits new, .ok)
  | .fluxLvl => (s.onFluxLvl r.i r.j new, .ok)
  | .fitCtrl => (s.onFitCtrl r.i bits new, .ok)
  | .rqCfg => (s.onRqCfg r.i new, .ok)
  | .rqCtrl => (s.onRqCtrl r.i bits, .ok)
  | .bdieApply => (s.onBdieApply r.i bits, .ok)
  | .biasCfg => (s.onBiasCfg r.i r.j w.half new, .ok)
  | .biasCode => (s.onBiasCode r.i r.j w.half new, .ok)
  | .monCtrl => (s.onMonCtrl r.i bits new, .ok)
  | .monUrgent => (s.onMonUrgent r.i bits new, .ok)
  | .dirWord0 => (s.onDirWord0 r.i new, .ok)
  | .dirWord1 => (s.onDirWord1 r.i new, .ok)
  | .pdcTable => (s.onPdcTable r.i new, .ok)
  | .pdcCfg => (s.onPdcCfg new, .ok)
  | .pdcAnc | .patchCfg | .patchIn | .patchTgt => (s.onPdcSetup r new, .ok)
  | .decClear => (s.onDecClear bits, .ok)
  | .decSrc | .decSlot | .decTack | .frameBasis => (s.writeMap r new, .ok)
  | n =>
      if n.hasClr && bits.getLsbD 63 then (s.clearCounters r new, .ok) else (s.setReg r new, .ok)

/-- The bias die a register lies on (08 R250). -/
def Reg.die (r : Reg) : Nat := if r.addr < 0x21000000 then 0 else 1

/-- A write of a register by a requester; `errors` is how often the bias link repeats it (R8-R10;
01 R18; 11 R308, R311, R312). -/
def State.writeReg (s : State) (r : Reg) (w : WriteOp) (errors : Nat) : State × MStatus :=
  let new := s.merged r w
  if !s.reaches w.req.domain r new then (s, .denied)
  else if r.onBiasDie && (decide (8 < errors) || !s.bitAt dieStatus_BREADY r.die) then
    (s.dropBiasCommand r.die, .link)
  else
    let hit := s.hitsLock r w.half
    let p := s.landOn r w new
    (p.1, if p.2 == .ok && hit then .locked else p.2)

/-- A register write that the bias link carries without error. -/
def State.land (s : State) (r : Reg) (w : WriteOp) : State := (s.writeReg r w 0).1

/-- A write at an address (R28): no register, no effect. -/
def State.landAt (s : State) (addr : Nat) (w : WriteOp) : State :=
  match Reg.ofAddr addr with
  | none => s
  | some r => s.land r w

/-- A write of an access: width and alignment first, then the address (R8, R28, R308); one to a bias die goes
over its link, which may drop it (01 R18). -/
def State.writeAt (s : State) (req : Requester) (addr : Nat) (wide : Bool) (value : Word) :
    State × MStatus :=
  if addr % (if wide then 8 else 4) ≠ 0 then (s, .badAccess)
  else
    match Reg.ofAddr (addr / 8 * 8) with
    | none => (s, .noRegister)
    | some r =>
        let h : Half := if wide then .whole else if addr % 8 = 0 then .low else .high
        if r.onBiasDie then
          { s with linkSeq := s.linkSeq + 1 }.writeReg r ⟨req, h, value⟩ (Config.linkErrors s.linkSeq)
        else s.writeReg r ⟨req, h, value⟩ 0

end Sys2Proof.Machine
end

