-- ==== Sys2Proof/Machine/RegRead.lean ====
section
/-! DEFINITION. Register reads: views of state that is kept elsewhere, shadows of high halves, reads
that pop (00 R9, R10; 01 R28; 02 R58-R60; 11 R308, R335). -/

namespace Sys2Proof.Machine

open Fld

/-! Views. -/

/-- The encoding of STATE (R101). -/
def ThState.code (t : ThState) : Nat :=
  match t with
  | .idle => 0
  | .starting => 1
  | .running => 2
  | .waiting => 3
  | .full => 4
  | .held => 5
  | .draining => 6
  | .rewinding => 7
  | .faulted => 8

/-- WAIT_KIND (R101). -/
def Thread.waitKind (t : Thread) : Nat :=
  if t.st = .waiting then
    match t.wait.map Wait.cond with
    | none => 0
    | some (.trig _) => 1
    | some (.dec _ _ _ _) => 2
    | some (.bar _ _ _ _) => 3
    | some (.ptp _) => 4
    | some .queue => 5
  else 0

/-- THR.STATE (R101). -/
def State.threadView (s : State) (q : Thr) : Word :=
  let t := s.thread q
  BitVec.ofNat 64 (t.st.code + t.waitKind * 2 ^ 4 + t.queue.length * 2 ^ 8
    + (if t.shot.isSome then 2 ^ 15 + (t.replays % 8) * 2 ^ 16 else 0)
    + (t.pc % 2 ^ 17) * 2 ^ 24 + t.lq.length * 2 ^ 43
    + s.rd (thrState_FAULT_CODE q.tile q.idx) * 2 ^ 48)

/-- The threads of a tile that are not Idle, bit h for thread h (R101). -/
def State.runningMask (s : State) (t : Nat) : Nat :=
  ((List.range 8).filter (fun h => decide ((s.thread ⟨t, h⟩).st ≠ .idle))).foldl (fun m h => m + 2 ^ h) 0

/-- PEND, PEND_AGE and READY of a tile's coefficients (05 R146; ADC.CORR, ADC.STATUS). -/
def State.corrView (s : State) (t : Nat) : Word :=
  let w := s.reg ⟨.adcCorr, t, 0, 0⟩
  match s.corrPend.find? (fun p => p.1 == t) with
  | none => withBits (withBits w 2 1 0) 16 16 0
  | some p => withBits (withBits w 2 1 1) 16 16 (min 0xFFFF ((s.tick - p.2.2) / 1000000))
def State.adcReady (s : State) (t : Nat) : Bool :=
  s.on (adcCfg_EN t) && s.bitAt dieStatus_QREADY (t / 4) && s.corrOnce.contains t

/-- The word of a slot as a register read finds it (06 R174; 12 R340). -/
def State.decView (s : State) (n : Nat) : Word :=
  if (s.slot n).bad then blanked (s.slotSeen n) 2 else s.slotSeen n

/-- A register's value as it is read, before WO fields are masked. -/
def State.view (s : State) (r : Reg) : Word :=
  let w := s.reg r
  match r.name with
  | .timeNow => s.ft
  | .ptpNs => s.ptpNs
  | .eswBar => withBits w 52 4 (s.bar r.i).gen
  | .eswExp2 => s.expView r.i
  | .logStatus => withBits w 0 11 s.evLog.words.length
  | .tdcQStatus => withBits w 0 10 (s.tdcLevel r.i)
  | .ndlStatus => withBits w 8 8 (s.runningMask r.i)
  | .thrState => s.threadView ⟨r.i, r.j⟩
  | .thrTc => (s.thread ⟨r.i, r.j⟩).tc
  | .adcCorr => s.corrView r.i
  | .adcStatus => withBits w 0 1 (if s.adcReady r.i then 1 else 0)
  | .acqStatus => s.acqStatusView r.i r.j
  | .rqStatus =>
      let q := s.rq r.i
      withBits (withBits (withBits w 0 13 q.wp.toNat) 16 13 q.rp.toNat) 36 12 (s.heldRecords r.i)
  | .bdieStatus => withBits w (bdieStatus_OPEN_COUNT 0).lo (bdieStatus_OPEN_COUNT 0).width (s.openCount r.i)
  | .pdcStatus => withBits w 32 32 (s.rd (patchRound_ROUND (s.rd pdcCfg_REF_PATCH)))
  | .decWord => s.decView r.i
  | _ => w

/-- The registers read under R58 and R59. -/
def RegName.shadowed (n : RegName) : Bool :=
  match n with
  | .timeNow | .ptpNs | .syncStamp | .latchFt | .latchPtpNs | .thrTc | .bobWp | .bobRp | .clipCount
  | .clipFirst | .traceT0 | .fluxClip | .tdcQData | .statMean | .rqData | .intLastTick
  | .logData => true
  | _ => false

/-! Pops (R335; 09 R271; 10 R300). -/

/-- A pop of a word of a result queue by software (R335); `bad` when its parity fails. -/
def State.popRq (s : State) (t : Nat) : State × Word :=
  let q := s.rq t
  if s.on (rqCfg_DELIVER t) then (s, 0)
  else
    match q.words with
    | [] => (s.put (rqStatus_UNDERRUN t) true, q.lastPop)
    | x :: rest =>
        let s := s.setRq t { q with words := rest, rp := q.rp + 1, lastPop := x.w }
        (if x.parityOk then s else (s.put (rqStatus_POISON t) true).bump (rqCounts_POISONED t), x.w)

/-- A read that takes the low half or the whole of a register: it may pop, and may meet a poisoned
word of a SECDED array (12 R341; DESIGN CHOICE, log entry 8, site 7). -/
def State.takeRead (s : State) (req : Requester) (r : Reg) : State × MStatus × Word :=
  let poisoned (locus addr : Nat) : State × MStatus × Word :=
    ((s.bump intCounts2_POISON_RD).fault 2 locus 0 addr [] none, .ok,
      BitVec.ofNat 64 (Config.unstated 7 [locus, addr]))
  match r.name with
  | .rqData => let p := s.popRq r.i; (p.1, .ok, p.2)
  | .tdcQData => s.popTdc r.i req.domain
  | .logData => s.popLog req.domain
  | .ptpNs => (s.wr ptpFrac_FRAC s.ptpFrac.toNat, .ok, s.ptpNs)
  | .dirWord0 => if s.poisoned 4 0 (2 * r.i) then poisoned 4 (2 * r.i) else (s, .ok, s.view r)
  | .dirWord1 => if s.poisoned 4 0 (2 * r.i + 1) then poisoned 4 (2 * r.i + 1) else (s, .ok, s.view r)
  | .pdcTable => if s.poisoned 5 0 r.i then poisoned 5 r.i else (s, .ok, s.view r)
  | .decWord => (if (s.slot r.i).bad then s.fault 4 0x07 0 r.i [] none else s, .ok, s.view r)
  | _ => (s, .ok, s.view r)

/-- The high half of a register's shadow (R59). -/
def State.shadow (s : State) (r : Reg) : BitVec 32 := Tab.get s.shadows r 0

/-- Whether a requester reads a seam channel: any, unless it is SECURE (10 R290). -/
def State.mayRead (s : State) (req : Requester) (r : Reg) : Bool :=
  match r.name with
  | .seamCh => !s.on (seamCh_SECURE r.i) || (req.domain == s.rd (seamCh_OWNER r.i) && req.secure)
  | _ => true

/-- A read of a register by a requester (R9, R59, R308; 08 R250). The value of a half stands in the
low 32 bits. -/
def State.readReg (s : State) (req : Requester) (r : Reg) (h : Half) : State × MStatus × Word :=
  if !s.reaches req.domain r (s.reg r) || !s.mayRead req r then (s, .denied, 0)
  else if r.onBiasDie && !s.bitAt dieStatus_BREADY r.die then (s, .ok, 0)
  else if h = .high ∧ r.name.shadowed then (s, .ok, (s.shadow r).setWidth 64)
  else
    let p := if h = .high then (s, .ok, s.view r) else s.takeRead req r
    let w := p.2.2 &&& ~~~(BitVec.ofNat 64 (r.name.mask (fun a => a == .wo)))
    if p.2.1 ≠ .ok then p
    else
      match h with
      | .whole => (p.1, .ok, w)
      | .high => (p.1, .ok, w >>> 32)
      | .low =>
          let s := if r.name.shadowed then
              { p.1 with shadows := Tab.set p.1.shadows r (BitVec.ofNat 32 (w.toNat / 2 ^ 32)) }
            else p.1
          (s, .ok, w &&& 0xFFFFFFFF)

/-- A read of an access: width and alignment first, then the address (R8, R28, R308). -/
def State.readAt (s : State) (req : Requester) (addr : Nat) (wide : Bool) : State × MStatus × Word :=
  if addr % (if wide then 8 else 4) ≠ 0 then (s, .badAccess, 0)
  else
    match Reg.ofAddr (addr / 8 * 8) with
    | none => (s, .noRegister, 0)
    | some r => s.readReg req r (if wide then .whole else if addr % 8 = 0 then .low else .high)

/-- COUNTER_LOW_READ (R59, R60): a read of the low half of a register of R58, or of the whole. -/
def execCounterLowRead (req : Requester) (addr : Nat) (s : State) : Host.Outcome State Fault Refusal :=
  match Reg.ofAddr addr with
  | none => .next s
  | some r => if r.name.shadowed then .next (s.readReg req r .low).1 else .next s

/-- RQ_POP (R335): a read of RQ.DATA. -/
def execRqPop (t : BitVec 4) (req : Requester) (s : State) : Host.Outcome State Fault Refusal :=
  .next (s.readReg req ⟨.rqData, t.toNat, 0, 0⟩ .low).1

end Sys2Proof.Machine
end

