-- ==== Sys2Proof/Machine/Scope.lean ====
section
/-! DEFINITION. Shot scopes, launches, and the points at which a thread takes what has been written
for it (01 R30; 03 R70, R85, R86, R89-R100, R102; 11 R319, R322; 12 R344-R348; 13 R362, R363). -/

namespace Sys2Proof.Machine

open Fld

/-! What a thread takes at its point (01 R30). -/

/-- The function modes as written, for a thread of a tile. -/
def State.modesFor (s : State) (t : Nat) : Modes :=
  { rdoRaw := s.bitAt modeRdo_DISC_RAW t, frameRpt := s.bitAt decCfg_FRAME_RPT t,
    replayHost := s.on modeReplay_HOST, corrHost := s.bitAt modeRdo_CORR_HOST t,
    kernHost := BitVec.ofNat 24 (s.rd (modeKernel_HOST t)), fitHost := s.bitAt modeFlux_FIT_HOST t }

/-- The thread takes modes and bindings (R30, R102). -/
def State.takeModes (s : State) (q : Thr) : State :=
  s.modThread q (fun t => { t with
    modes := s.modesFor q.tile,
    binds := (List.range 24).map (fun k => s.reg ⟨.bind, q.tile, k, 0⟩) })

/-- The Kenper-M status codes (R308). -/
def MStatus.code (m : MStatus) : Nat :=
  match m with
  | .ok => 0
  | .noRegister => 1
  | .badAccess => 2
  | .denied => 3
  | .locked => 4
  | .refused => 5
  | .link => 6
  | .skipped => 7

/-- Register writes of a descriptor, in order, until one fails: the failed write's index and status
(R318). -/
def State.writeList (s : State) (req : Requester) : Nat → List (Nat × Word) → State × Option (Nat × MStatus)
  | _, [] => (s, none)
  | i, (a, v) :: rest =>
      let p := s.writeAt req a true v
      if p.2 = .ok then p.1.writeList req (i + 1) rest else (p.1, some (i, p.2))

/-- One held PARAM is applied, and completes (R319). -/
def State.applyParam (s : State) (p : HeldParam) : State :=
  let r := s.writeList ⟨p.domain, p.secure⟩ 0 p.writes
  match r.2 with
  | none => r.1.complete p.desc cplOk 0 0 s.ft 0
  | some e => r.1.complete p.desc 0x36 e.1 e.2.code s.ft 0

/-- Every PARAM held for a thread is applied in this tick, in ring order (R319). -/
def State.applyParams (s : State) (q : Thr) : State :=
  let ps := (s.thread q).params
  if ps.isEmpty then s
  else (s.modThread q (fun t => { t with params := [] })).each ps State.applyParam

/-- PARAM_APPLY (R319): for a thread that is Idle with an empty launch queue. -/
def execParamApply (q : Thr) (s : State) : Host.Outcome State Fault Refusal :=
  if (s.thread q).st = .idle ∧ (s.thread q).lq.isEmpty then finish (s.applyParams q) else .next s

/-! Opening a scope (R91, R92, R96). -/

/-- The checkpoint of a thread (R92). The armed state of an input belongs to it with its latch and pending
trigger (DESIGN CHOICE, log entry 111). -/
def Thread.checkpoint (t : Thread) : Checkpoint :=
  { g := t.g, pc := t.pc, tc := t.tc, tcf := t.tcf, wt := t.wt, ws := t.ws, lc := t.lc,
    stack := t.stack, trigs := t.trigs, barGen := t.barGen }

/-- The open joint shot of a barrier's generation on this device. -/
def State.jointShot (s : State) (b g : Nat) : Option Shot :=
  s.shots.find? (fun x => x.joint && x.bar == b && x.gen == g)

/-- Whether the shot the thread opens can be replayed as it opens: REP, and not the first scope of a
launch of start mode PTP (12 R344). -/
def Thread.opensReplayable (t : Thread) (a : ShotArgs) : Bool :=
  a.rep && !(!t.opened && t.launch.any (fun l => match l.mode with | .ptp _ => true | _ => false))

/-- The checkpoint is taken and the scope opens; a joint shot is that of a barrier's generation, which
other local participants may have opened (R91, R92). -/
def State.openScope (s : State) (q : Thr) (a : ShotArgs) (g : Nat) : State :=
  let s := s.applyParams q
  let s := (s.takeModes q).takePatchModes q
  let t := s.thread q
  let part : ShotPart := { thr := q, ck := t.checkpoint, args := a, c0 := s.tick, arr := s.tick }
  let n := if t.inBlock then t.replays else 0
  let snap := s.patchSnap q
  let timers := s.expTimersOf [q]
  let put (id : Nat) (s : State) : State :=
    s.modThread q (fun t => { t with
      st := if t.wait.isSome then t.st else .running, hold := none, opening := none, pause := none,
      shot := some id, prevShot := none, replays := n, opened := true,
      scopes := if t.inBlock then t.scopes else t.scopes + 1, inBlock := false, effectEnd := 0,
      pauseFrom := t.tc })
  match if a.joint then s.jointShot a.bar g else none with
  | some x =>
      put x.id (s.modShot x.id (fun x => { x with
        parts := x.parts ++ [part], replayable := x.replayable && t.opensReplayable a,
        replays := max x.replays n, expTimers := x.expTimers ++ timers,
        snap := ⟨x.snap.rounds ++ snap.rounds, x.snap.ancs ++ snap.ancs⟩ }))
  | none =>
      let x : Shot :=
        { id := s.nextShot, parts := [part], joint := a.joint, bar := a.bar, gen := g, k := s.tick,
          kFt := s.ft, replays := n, replayable := t.opensReplayable a, snap := snap, train := s.trains,
          expTimers := timers }
      put x.id { s with shots := s.shots ++ [x], nextShot := s.nextShot + 1 }

/-- A throttling pause of so many microseconds holds the thread (13 R362, R363). -/
def State.holdPause (s : State) (q : Thr) (p : Nat) : State :=
  s.modThread q (fun t => { t with st := .held, wait := none, hold := some .pause,
                                   pause := some (s.tick + 1000 * p, 1000 * p) })

/-- The timeout of a joint shot's barriers (R91). -/
def Thread.jointTimeout (t : Thread) : Word := t.tc + BitVec.ofNat 64 (max 1 t.jointTmo * 1000)

/-- A `shot.begin` past its thread's previous shot: held by a request to leave Active, waiting at its
barrier, held by a pause, or open (R91, R96; 13 R362). A replay's re-issued `shot.begin` runs on, and
the device leaves Active after its `shot.end` (12 R352). -/
def State.beginScope (s : State) (q : Thr) (a : ShotArgs) : State :=
  let t := s.thread q
  if s.leavePending && !t.inBlock then s.modThread q (fun t => { t with st := .held, hold := some .leave })
  else if a.joint then
    let s := (s.modThread q (fun t => { t with hold := none })).arriveAt q a.bar .shotBegin (some t.jointTimeout)
    if s.passed (some t.jointTimeout) then s.barrierError q else s
  else
    let s := s.takeThrottle
    if s.rd canopyStatus_LEVEL = 0 then s.openScope q a 0
    else (s.holdPause q (s.pauseUs t.pausePeriod)).bump canopyCounts_PAUSES

/-- SHOT_BEGIN (R89-R91). -/
def execShotBegin (q : Thr) (rep joint blk : Bool) (bar : BitVec 6) (reset : BitVec 32) (s : State) :
    Host.Outcome State Fault Refusal :=
  s.issueThen q 6 (fun s =>
    let t := s.thread q
    let a : ShotArgs := { rep := rep, joint := joint, blk := blk, bar := bar.toNat, reset := reset }
    if t.shot.isSome then .next (s.programError q 0x05)
    else
      let s := s.modThread q (fun t => { t with opening := some a })
      if t.prevShot.isSome then .next (s.modThread q (fun t => { t with hold := some .commit }))
      else finish (s.beginScope q a))

/-- PAUSE_END (13 R362, R363): TC, WT and the timers anchored on the thread move later by the pause, and
the checkpoint is taken. -/
def execPauseEnd (q : Thr) (s : State) : Host.Outcome State Fault Refusal :=
  let t := s.thread q
  match t.opening, t.pause with
  | some a, some (last, len) =>
      if t.hold ≠ some .pause ∨ s.tick < last then .next s
      else if s.leavePending && !t.inBlock then
        .next (s.modThread q (fun t => { t with hold := some .leave, pause := none }))
      else
        let d := BitVec.ofNat 64 len
        let s := s.modThread q (fun t => { t with tc := t.tc + d, wt := t.wt + d,
                                                  readyAt := max t.readyAt s.tick })
        let g := if !a.joint then 0
          else if s.takesPart q a.bar then Tab.get t.barGen a.bar 0 - 1 else (s.bar a.bar).gen - 1
        finish ((s.shiftExpTimers q len).openScope q a g)
  | _, _ => .next s

/-! Closing a scope, and the commit (R90, R93). -/

/-- The scope closes: the shot commits at its commit tick. -/
def State.closeScope (s : State) (q : Thr) (id : Nat) : State :=
  s.modThread q (fun t => { t with shot := none, prevShot := some id })

/-- SHOT_END (R90, R93). -/
def execShotEnd (q : Thr) (s : State) : Host.Outcome State Fault Refusal :=
  s.issueThen q 2 (fun s =>
    let t := s.thread q
    match t.shot with
    | none => .next (s.programError q 0x05)
    | some id =>
        let s := s.modShot id (fun x => { x with parts := x.parts.map (fun p =>
          if p.thr = q then { p with ended := some s.tick } else p) })
        match s.shotById id with
        | none => .next (s.closeScope q id)
        | some x =>
            if !x.joint then .next (s.closeScope q id)
            else
              let s := s.arriveAt q x.bar .shotEnd (some t.jointTimeout)
              .next (if s.passed (some t.jointTimeout) then s.barrierError q else s))

/-- END (R70, R90). -/
def execOpEnd (q : Thr) (s : State) : Host.Outcome State Fault Refusal :=
  s.issueThen q 1 (fun s =>
    if (s.thread q).shot.isSome then .next (s.programError q 0x05)
    else .next (s.modThread q (fun t => { t with st := .draining })))

/-- Whether a shot has reached its commit tick (R93): its local participants have ended it, C0 has
come, no assembly of it is on its way or made in this tick at its C0, and the release of a joint shot has come. -/
def State.commits (s : State) (x : Shot) : Bool :=
  x.parts.all (fun p => p.ended.isSome && decide (max p.c0 p.arr ≤ s.tick)
      && !(decide (max p.c0 p.arr = s.tick) && s.assemblesNow p.thr)
      && !(s.thread p.thr).queue.any (fun c => c.shot == some x.id)
      && !(decide ((s.thread p.thr).st = .rewinding) && s.inShot p.thr x.id))
    && !s.acqReqs.any (fun a => a.shot == some x.id)
    && !s.assemblies.any (fun a => a.shot == some x.id)
    && (!x.joint || x.released.isSome)

/-- SHOT_COMMIT (R93; 11 R332): the shot's records are committed, and a `shot.begin` that waited for
it goes on (R91). -/
def execShotCommit (id : Nat) (s : State) : Host.Outcome State Fault Refusal :=
  match s.shotById id with
  | none => .next s
  | some x =>
      if !s.commits x then .next s
      else
        let s := { s.commitRecords x with shots := s.shots.filter (fun y => y.id != id) }
        let qs := (x.parts.map ShotPart.thr).filter (fun q => (s.thread q).prevShot == some id)
        let s := s.each qs (fun s q => s.modThread q (fun t => { t with prevShot := none }))
        finish (s.each qs (fun s q =>
          let t := s.thread q
          match t.hold, t.opening with
          | some .commit, some a =>
              (s.modThread q (fun t => { t with hold := none, readyAt := max t.readyAt s.tick })).beginScope q a
          | _, _ => s))

/-! Barriers (R85, R86; 07 R231). -/

/-- WBAR (R85, R86): on a barrier with remote participants a TMO of 1 to 512 acts as 513; a timeout
already passed at issue completes the generation with WS = 3. -/
def execWbar (q : Thr) (b : BitVec 6) (tmo : BitVec 32) (s : State) : Host.Outcome State Fault Refusal :=
  s.issueThen q 1 (fun s =>
    let b := b.toNat
    let tmo := if s.on (eswBar_EN b) && decide (1 ≤ tmo.toNat ∧ tmo.toNat ≤ 512) then 513#32 else tmo
    let last := (s.thread q).timeoutAt tmo
    let s := s.arriveAt q b .wbar last
    if s.passed last then
      .next (s.modThread q (fun t => t.giveUp.endWait s.tick 3 (last.getD 0) false))
    else .next s)

/-- The pause of a joint shot at its release: the longest requested over the tree, or for a barrier
without one by the device's own level (13 R362, R363). -/
def State.jointPause (s : State) (b g : Nat) : State × Nat :=
  if s.on (eswBar_EN b) then (s, ((s.bar b).at_ g).pause)
  else
    let d := s.groupPeriod b g
    let s := s.takeThrottle
    (s, if s.rd canopyStatus_LEVEL = 0 then 0 else s.pauseUs d)

/-- What the release of a generation does to a thread that waits for it (R85, R91, R93). -/
def State.releaseThread (s : State) (b g p : Nat) (w : Word) (e : Thr × Nat × Bool × BarPurpose) : State :=
  let q := e.1
  let s := s.modThread q (fun t =>
    (if e.2.2.1 then t.completed b g else t).decideWait s.tick 0 w)
  match e.2.2.2 with
  | .wbar => s
  | .shotEnd =>
      match (s.thread q).shot with
      | none => s
      | some id => (s.modShot id (fun x => { x with released := some s.tick })).closeScope q id
  | .shotBegin =>
      match (s.thread q).opening with
      | none => s
      | some a =>
          if p = 0 then s.openScope q a g
          else (s.holdPause q p).modThread q (fun t => { t with readyAt := s.tick + 3 })

/-- The lowest generation of a barrier whose release tick has come, with its release tick. -/
def State.releaseDue (s : State) (b : Nat) : Option (Nat × Word) :=
  let x := s.bar b
  (x.gens.filterMap (fun e => match e.2.rel with
    | some (last, w) => if x.gen ≤ e.1 ∧ last ≤ s.tick then some (e.1, w) else none
    | none => none)).foldl (fun m e => match m with
      | some y => if e.1 < y.1 then some e else some y
      | none => some e) none

/-- BARRIER_RELEASE (R85): at the release tick of a generation every participant that waits is
released, with WT := that tick, and every thread that waits without taking part. -/
def execBarrierRelease (b : Nat) (s : State) : Host.Outcome State Fault Refusal :=
  match s.releaseDue b with
  | none => .next s
  | some (g, w) =>
        let es := (s.waitersAt b).filter (fun e => e.2.1 == g || !e.2.2.1)
        let joint := es.any (fun e => decide (e.2.2.2 = .shotBegin))
        let p := if joint then s.jointPause b g else (s, 0)
        let s := if joint && p.2 != 0 then p.1.bump canopyCounts_PAUSES else p.1
        let s := s.each es (fun s e => s.releaseThread b g p.2 w e)
        finish (s.setBar b ((s.bar b).past g))

/-! Launches (R97-R100). -/

/-- The word address of an entry of a tile's image (R103, R104, R322). -/
def State.entryAddr (s : State) (t n : Nat) : Option Nat :=
  match Tab.find s.entries t with
  | some ws => (ws[n]?).map (fun w => w.toNat % 2 ^ 17)
  | none => if n = 0 then some ((Tab.get s.entry0 t 0).toNat % 2 ^ 17) else none

/-- Why a launch is not started, in the order of R98, then NO_ENTRY (R322). -/
def State.launchRefused (s : State) (q : Thr) (l : Launch) : Option Nat :=
  if s.rd (ndlStatus_IMG_STATE q.tile) ≠ 2 then some 0x11
  else if !s.on timeStatus_FT_VALID then some 0x12
  else if s.on syncCtrl_ARM then some 0x13
  else if !s.bitAt dieStatus_QREADY (q.tile / 4) then some 0x14
  else if !s.active then some 0x15
  else if (s.entryAddr q.tile l.entry).isNone then some 0x16
  else none

/-- The thread takes its launch: G0-G3 the arguments, G4-G31 zero, the registers of R97, and CFG and
TRIG_SRC as written (R101). -/
def State.takeLaunch (s : State) (q : Thr) (l : Launch) (pc : Nat) : State :=
  let cfg := s.reg ⟨.thrCfg, q.tile, q.idx, 0⟩
  s.modThread q (fun t => { t with
    st := .starting, launch := some l, launchTag := l.desc.tag, pc := pc,
    g := ((((Vector.replicate 32 0).set 0 (l.args.getD 0 0)).set 1 (l.args.getD 1 0)).set 2 (l.args.getD 2 0)).set 3
      (l.args.getD 3 0),
    stack := [], lc := Vector.replicate 4 0, queue := [], wait := none, hold := none, opening := none,
    displaced := false, recordsLost := 0, launchReplays := 0, startedFt := 0, opened := false, scopes := 0,
    replays := 0, inBlock := false, rewind := none, awaited := 0, effectEnd := 0, faultDue := none,
    trigMode := BitVec.ofNat 8 (bitsOf cfg 0 8), trigEn := BitVec.ofNat 8 (bitsOf cfg 8 8),
    startLead := max 64 (bitsOf cfg 16 16), jointTmo := max 1 (bitsOf cfg 32 16),
    trigSrc := s.reg ⟨.trigSrc, q.tile, q.idx, 0⟩ })

/-- The start condition of a launch that has reached the front (R97, R99). -/
def State.startLaunch (s : State) (q : Thr) (mode : StartMode) : State :=
  let lead := s.ft + BitVec.ofNat 64 (s.thread q).startLead
  match mode with
  | .now => s.modThread q (fun t => t.begin lead s.ft s.tick)
  | .at w => s.modThread q (fun t => t.begin w s.ft s.tick)
  | .trig n =>
      let t := s.thread q
      if t.latched n then
        if (t.trig n).latch.isSome then
          s.modThread q (fun t =>
            { (t.setTrig n { t.trig n with latch := none }).begin lead s.ft s.tick with displaced := true })
        else s
      else s.modThread q (fun t => t.setTrig n { t.trig n with armed := some s.tick, pending := none })
  | .ptp ns => if timeDue ns s.ptpNs then s.modThread q (fun t => t.begin lead s.ft s.tick) else s

/-- LAUNCH_START (R97-R99): the launch at the front of an Idle thread's queue starts, or is refused. -/
def execLaunchStart (q : Thr) (s : State) : Host.Outcome State Fault Refusal :=
  let t := s.thread q
  match t.lq with
  | [] => .next s
  | l :: rest =>
      if t.st ≠ .idle then .next s
      else
        let s := s.modThread q (fun t => { t with lq := rest })
        match s.launchRefused q l with
        | some status => .next (s.refuseLaunch q l.desc status 0)
        | none =>
            let s := s.applyParams q
            let s := s.takeLaunch q l ((s.entryAddr q.tile l.entry).getD 0)
            finish ((s.takeModes q).startLaunch q l.mode)

/-- PTP_TIME_DUE (R51): a `wptp` ends, or a launch of start mode PTP starts. -/
def execPtpTimeDue (q : Thr) (s : State) : Host.Outcome State Fault Refusal :=
  let t := s.thread q
  match t.waitingOn with
  | some (.ptp ns) =>
      if timeDue ns s.ptpNs then .next (s.setThread q (t.decideWait s.tick 0 s.ft)) else .next s
  | _ =>
      match t.launch with
      | some l =>
          (match l.mode with
          | .ptp _ => if t.st = .starting then .next (s.startLaunch q l.mode) else .next s
          | _ => .next s)
      | none => .next s

/-- DRAIN_COMPLETE (R70): the queue is empty and every acquisition of the launch has its record; the
launch completes. Its last shot stays the thread's previous shot until it commits (R91). -/
def execDrainComplete (q : Thr) (s : State) : Host.Outcome State Fault Refusal :=
  let t := s.thread q
  if t.st ≠ .draining ∨ !t.queue.isEmpty ∨ t.awaited ≠ 0 then .next s
  else
    let s := match t.launch with | some l => s.completeLaunch q l cplOk 0 | none => s
    .next (s.modThread q (fun t => { t.toIdle with prevShot := t.prevShot }))

/-- FAULT_COMPLETION (R70): a Faulted thread's completion is written, and it becomes Idle. -/
def execFaultCompletion (q : Thr) (s : State) : Host.Outcome State Fault Refusal :=
  let t := s.thread q
  match t.faultDue with
  | some p => if t.st = .faulted then .next (s.faultComplete q p.1) else .next s
  | none => .next s

/-! Replay (R94; 12 R346). -/

/-- REPLAY_RESUME (R94): at tick v the thread resumes after its `shot.begin`, or runs its reset block
outside any scope, as if called from the `shot.begin`. -/
def execReplayResume (q : Thr) (s : State) : Host.Outcome State Fault Refusal :=
  let t := s.thread q
  match t.rewind with
  | none => .next s
  | some r =>
      if t.st ≠ .rewinding ∨ s.tick < r.resume then .next s
      else
        match r.block with
        | none => .next (s.modThread q (fun t => { t with st := .running, rewind := none, readyAt := s.tick }))
        | some addr =>
            let s := (s.leaveShot q).modThread q (fun t => { t with
              st := .running, rewind := none, readyAt := s.tick, inBlock := true })
            if 16 ≤ t.stack.length then .next (s.programError q 0x03)
            else .next (s.modThread q (fun t => { t with
              pc := addr.toNat, stack := BitVec.ofNat 17 r.beginPc :: t.stack }))

end Sys2Proof.Machine
end

