-- ==== Sys2Proof/Machine/Descriptors.lean ====
section
/-! DEFINITION. Descriptors: fetching, beginning, and what each OPCODE does (06 R185; 11 R310, R311,
R315-R324). -/

namespace Sys2Proof.Machine

open Fld

/-! Fetching and beginning (R315). -/

/-- The requester of a ring's descriptors (R310). -/
def State.ringReq (s : State) (r : Nat) : Requester :=
  let q := s.rd (cmdCfg_QP r)
  ⟨s.rd (qpCtrl_DOMAIN q), s.on (qpCtrl_SECURE q)⟩

/-- The ring position of the next descriptor to be requested: that of CI and of the READs outstanding. -/
def State.fetchAt (s : State) (r : Nat) : Nat :=
  s.outReqs.foldl (fun n o => match o.kind with
    | .fetch r' m => if r' = r then n + m else n
    | _ => n) (s.rd (cmdIdx_CI r)) % ringSize (s.rd (cmdCfg_LOG2SIZE r))

/-- Descriptors from there to PI, as far as the ring's end, at most 32. -/
def State.fetchable (s : State) (r : Nat) : Nat :=
  let size := ringSize (s.rd (cmdCfg_LOG2SIZE r))
  let at_ := s.fetchAt r
  min 32 (min ((s.rd (cmdIdx_PI r) + size - at_) % size) (size - at_))

/-- Whether firmware runs, so that the Kenper engines do (14 R377). -/
def State.kenperRuns (s : State) : Bool := s.rd globalBoot_STAGE == 4

/-- Whether a ring has descriptors to fetch and can issue the READ (R313, R315, R337). -/
def State.canFetch (s : State) (r : Nat) : Bool :=
  s.on (cmdCfg_EN r) && !s.on (cmdCfg_INLINE r) && s.kenperRuns && s.canRead (s.rd (cmdCfg_QP r))
    && s.fetchable r != 0

/-- The READ of the next descriptors of a ring is issued; its response is a packet of the queue pair. -/
def State.fetch (s : State) (r : Nat) : State :=
  let n := s.fetchable r
  s.rdmaRead (s.rd (cmdCfg_QP r)) (s.rd (cmdCfg_RKEY r))
    (s.reg ⟨.cmdBase, r, 0, 0⟩ + BitVec.ofNat 64 (64 * s.fetchAt r)) (64 * n) (.fetch r n)

/-- DESCRIPTOR_FETCH (R315): a ring fetches, if it can; with the response CI advances and goes to the shadow
(State.takeDescs). -/
def execDescriptorFetch (r : BitVec 6) (s : State) : Host.Outcome State Fault Refusal :=
  .next (if s.canFetch r.toNat then s.fetch r.toNat else s)

/-- Whether an engine waits to post to a completion ring that is full, or whose queue pair is in Init
or RTR (R330). -/
def State.cplBlocked (s : State) (ring : Nat) : Bool :=
  s.cplWait.any (fun p => p.1 == ring) &&
    (s.cplFree ring == 0 ||
      (let st := s.rd (qpCtrl_STATE (s.rd (cplCfg_QP ring)))
       st == qpInitState || st == qpRtrState))

/-- DESCRIPTOR_BEGIN (R315, R304, R330): the next fetched descriptor of a ring begins. -/
def execDescriptorBegin (r : BitVec 6) (s : State) : Host.Outcome State Fault Refusal :=
  let r := r.toNat
  match s.fetched.find? (fun d => d.ref.ring == r) with
  | none => .next s
  | some d =>
      if s.begun.any (fun b => b.ref.ring == r) || (d.fence && s.flying.any (fun x => x.ring == r))
          || !s.kenperRuns || s.rd (qpCtrl_STATE (s.rd (cmdCfg_QP r))) == qpErrorState
          || s.cplBlocked (s.rd (cmdCfg_CRING r)) then .next s
      else .next { s with fetched := s.fetched.erase d, begun := s.begun ++ [d],
                          flying := s.flying ++ [d.ref] }

/-- The OPCODEs of R317. -/
def knownOpcode (n : Nat) : Bool :=
  match n with
  | 0x00 | 0x01 | 0x02 | 0x10 | 0x11 | 0x12 | 0x20 | 0x28 | 0x30 => true
  | _ => false

/-- A descriptor that has begun, and whose OPCODE a command is for, is taken. -/
def State.withDesc (s : State) (d : Desc) (p : Nat → Bool) (f : State → State) :
    Host.Outcome State Fault Refusal :=
  if s.begun.contains d && p d.ref.opcode then finish (f { s with begun := s.begun.erase d })
  else .next s

/-- DESC_NOP (R317). -/
def execDescNop (d : Desc) (s : State) : Host.Outcome State Fault Refusal :=
  s.withDesc d (fun n => n == 0x00) (fun s => s.ends d cplOk)

/-- BAD_DESCRIPTOR (R317). -/
def execBadDescriptor (d : Desc) (s : State) : Host.Outcome State Fault Refusal :=
  s.withDesc d (fun n => !knownOpcode n) (fun s => s.ends d 0x33)

/-! Scope (R311). -/

/-- Whether a domain may name a tile. -/
def State.namesTile (s : State) (domain t : Nat) : Bool := domain == 0 || s.ownsTile domain t

/-- Whether an address that a descriptor writes lies in the reach of a domain. -/
def State.namesAddr (s : State) (req : Requester) (a : Nat) (v : Word) : Bool :=
  if req.domain = 0 then true
  else
    match Reg.ofAddr (a / 8 * 8) with
    | some r => s.reaches req.domain r (s.merged r ⟨req, .whole, v⟩)
    | none => decide (0x10000000 ≤ a ∧ a < 0x11000000) && s.ownsTile req.domain ((a - 0x10000000) / 0x100000)

/-! REG_WRITE and PARAM (R318, R319). -/

/-- The writes of a descriptor: COUNT of them, address and value. -/
def Desc.writes (d : Desc) : List (Nat × Word) :=
  (List.range (d.field 1 0 2)).map (fun i => (d.field (2 + 2 * i) 0 32, d.word (3 + 2 * i)))

/-- REG_WRITE (R318). -/
def execRegWrite (d : Desc) (s : State) : Host.Outcome State Fault Refusal :=
  s.withDesc d (fun n => n == 0x01) (fun s =>
    let req := s.ringReq d.ref.ring
    if d.writes.isEmpty then s.ends d 0x33
    else if !d.writes.all (fun w => s.namesAddr req w.1 w.2) then s.ends d 0x22
    else
      let r := s.writeList req 0 d.writes
      match r.2 with
      | none => r.1.ends d cplOk
      | some e => r.1.complete d.ref 0x36 e.1 e.2.code 0 0)

/-- PARAM (R319). -/
def execParam (d : Desc) (s : State) : Host.Outcome State Fault Refusal :=
  s.withDesc d (fun n => n == 0x02) (fun s =>
    let req := s.ringReq d.ref.ring
    let q : Thr := ⟨d.field 1 4 4, d.field 1 8 3⟩
    let t := s.thread q
    if d.writes.isEmpty then s.ends d 0x33
    else if !s.namesTile req.domain q.tile || !d.writes.all (fun w => s.namesAddr req w.1 w.2) then
      s.ends d 0x22
    else if 16 ≤ t.params.length then s.ends d 0x25
    else
      let p : HeldParam := { desc := d.ref, domain := req.domain, secure := req.secure, writes := d.writes }
      let s := s.modThread q (fun t => { t with params := t.params ++ [p] })
      if t.st = .idle ∧ t.lq.isEmpty then s.applyParams q else s)

/-! LAUNCH, FEED and FRAME (R322-R324; 06 R185). -/

/-- The start mode a LAUNCH names. -/
def Desc.startMode (d : Desc) : StartMode :=
  match d.field 1 16 2 with
  | 0 => .now
  | 1 => .at (d.word 2)
  | 2 => .trig (d.field 1 18 3)
  | _ => .ptp (d.word 2)

/-- LAUNCH (R322, R97). -/
def execLaunch (d : Desc) (s : State) : Host.Outcome State Fault Refusal :=
  s.withDesc d (fun n => n == 0x20) (fun s =>
    let q : Thr := ⟨d.field 1 0 4, d.field 1 4 3⟩
    if !s.namesTile (s.ringReq d.ref.ring).domain q.tile then s.ends d 0x22
    else if 4 ≤ (s.thread q).lq.length then s.ends d 0x20
    else
      let l : Launch := { desc := d.ref, entry := d.field 1 8 8, mode := d.startMode,
                          args := [d.word 3, d.word 4, d.word 5, d.word 6] }
      s.modThread q (fun t => { t with lq := t.lq ++ [l] }))

/-- FEED (R324): an extent; FEED_DRY clears. -/
def execFeed (d : Desc) (s : State) : Host.Outcome State Fault Refusal :=
  s.withDesc d (fun n => n == 0x30) (fun s =>
    let t := d.field 1 0 4
    let b := d.field 1 4 2
    let start := (d.word 2).toNat
    let length := d.field 3 0 32
    if !s.namesTile (s.ringReq d.ref.ring).domain t then s.ends d 0x22
    else if length = 0 ∨ length % 4 ≠ 0 ∨ start ≠ Tab.get s.feedEnd (t, b) 0 then s.ends d 0x24
    else if 64 ≤ (s.extents.filter (fun e => e.1 == (t, b))).length then s.ends d 0x25
    else
      let e : Extent := { ref := d.ref, start := start, count := length / 4, hostAddr := d.word 4,
                          rkey := d.field 5 0 32 }
      { s with extents := s.extents ++ [((t, b), e)],
               feedEnd := Tab.set s.feedEnd (t, b) (start + length / 4) }.put (bobStatus_FEED_DRY t b) false)

/-- Operation i of a FRAME. -/
def Desc.frameOp (d : Desc) (i : Nat) : Nat := d.field (2 + i / 4) (16 * (i % 4)) 16

/-- One operation on the ledger: bit 2q + 1 is X, bit 2q is Z (R181, R323). -/
def frameApply (l : BitVec 768) (op : Nat) : BitVec 768 :=
  let q := op % 512
  let v : BitVec 768 := BitVec.ofNat 768 ((op / 1024 % 4) <<< (2 * q))
  if op.testBit 9 then (l &&& ~~~(BitVec.ofNat 768 (3 <<< (2 * q)))) ||| v else l ^^^ v

/-- The ledger bits of the entries that operations set (R186). -/
def frameSets (ops : List Nat) : BitVec 768 :=
  ops.foldl (fun m op => if op.testBit 9 then m ||| BitVec.ofNat 768 (3 <<< (2 * (op % 512))) else m) 0

/-- Operations of the host on the ledger; an entry that is set leaves the undo mask of every open shot
(R186). -/
def State.applyFrame (s : State) (ops : List Nat) : State :=
  let m := frameSets ops
  let s := s.setLedger (ops.foldl frameApply s.ledger)
  { s with decTick.set := s.decTick.set ||| m, shots := s.shots.map (fun x => { x with undo := x.undo &&& ~~~m }) }

/-- FRAME (R185, R323). -/
def execFrame (d : Desc) (s : State) : Host.Outcome State Fault Refusal :=
  s.withDesc d (fun n => n == 0x28) (fun s =>
    let domain := (s.ringReq d.ref.ring).domain
    let count := d.field 1 48 5
    let maxLag := d.field 1 32 16
    let ops := (List.range count).map d.frameOp
    let lag := s.frameLag (d.field 1 0 32)
    if count = 0 ∨ 24 < count then s.ends d 0x33
    else if ops.any (fun o => decide (384 ≤ o % 512)) then s.ends d 0x24
    else if ops.any (fun o => !s.namesTile domain (o % 512 / 24)) then s.ends d 0x22
    else if maxLag ≠ 0 ∧ (maxLag : Int) < lag then s.ends d 0x23
    else
      ((s.ledgerRead (ops.map (fun o => o % 512 / 32))).applyFrame ops).complete d.ref cplOk 0 (unsignedOf 32 lag) s.ft 0)

end Sys2Proof.Machine
end

