-- ==== Sys2Proof/Machine/Datagram.lean ====
section
/-! DEFINITION. Kenper-M datagrams: parsing, access control, duplicates, and the execution of requests
(11 R307-R310; 14 R378, R380). -/

namespace Sys2Proof.Machine

open Fld

/-! The datagram (R307). -/

/-- Big-endian value of bytes: the network order of R307. -/
def beBytes (bs : List Byte) : Nat := bs.foldl (fun n b => 256 * n + b.toNat) 0

/-- Field of a datagram. -/
def netField (bs : List Byte) (off n : Nat) : Nat := beBytes ((bs.drop off).take n)

/-- Operation k of a request. -/
def datagramOp (bs : List Byte) (k : Nat) : MOp :=
  let at_ := 12 + 16 * k
  { addr := netField bs at_ 4, op := netField bs (at_ + 4) 1, data := BitVec.ofNat 64 (netField bs (at_ + 8) 8) }

/-- Whether a datagram is a well-formed request. -/
def datagramGood (bs : List Byte) : Bool :=
  let n := netField bs 8 1
  decide (12 ≤ bs.length) && netField bs 0 2 == 0x4B4D && netField bs 2 1 == 1 && netField bs 3 1 == 1
    && decide (1 ≤ n ∧ n ≤ 64) && bs.length == 12 + 16 * n

/-! Access control (R310). -/

/-- Whether an ACL entry matches a source address: a PREFIX of 0 matches every address (DEDUCED, log entry 40). -/
def State.aclMatches (s : State) (i : Nat) (src : MSource) : Bool :=
  let n := s.rd (acl0_PREFIX i)
  let width := if src.v6 then 128 else 32
  let addr := if src.v6 then s.rd (acl1_ADDR_HI i) * 2 ^ 64 + s.rd (acl2_ADDR_LO i)
    else s.rd (acl2_ADDR_LO i) % 2 ^ 32
  let drop := width - min n width
  s.on (acl0_EN i) && (n == 0 || (s.on (acl0_V6 i) == src.v6 && addr >>> drop == src.addr >>> drop))

/-- The requester a source stands for; in recovery, that of the reset values of entry 0 (14 R380). -/
def State.aclFor (s : State) (src : MSource) : Option Requester :=
  if s.rd globalBoot_STAGE = 5 then some ⟨0, true⟩
  else
    match (List.range 16).find? (fun i => s.aclMatches i src) with
    | some i => some ⟨s.rd (acl0_DOMAIN i), s.on (acl0_SECURE i)⟩
    | none => none

/-! Operations (R308). -/

/-- Whether recovery reaches an address (14 R380). -/
def recoveryAddr (a : Nat) : Bool :=
  match Reg.ofAddr (a / 8 * 8) with
  | some r => (match r.name with
      | .globalId | .globalBoot | .globalBootCfg | .flashCtrl | .flashAddr | .flashBuf => true
      | _ => false)
  | none => false

/-- One operation. -/
def State.runOp (s : State) (req : Requester) (o : MOp) : State × MResult :=
  let wide := o.op == 2 || o.op == 4
  let writes := o.op == 3 || o.op == 4
  if o.op = 0 ∨ 4 < o.op then (s, ⟨.badAccess, 0⟩)
  else if o.addr % (if wide then 8 else 4) ≠ 0 then (s, ⟨.badAccess, if writes then o.data else 0⟩)
  else if s.rd globalBoot_STAGE = 5 ∧ !recoveryAddr o.addr then
    (s, ⟨.noRegister, if writes then o.data else 0⟩)
  else if writes then
    let p := s.writeAt req o.addr wide (if wide then o.data else o.data &&& 0xFFFFFFFF)
    (p.1, ⟨p.2, o.data⟩)
  else
    let p := s.readAt req o.addr wide
    (p.1, ⟨p.2.1, if p.2.1 = .ok then p.2.2 else 0⟩)

/-- An operation of a request, or, after one that failed under STOP_ON_ERROR, its SKIPPED. -/
def State.runFor (s : State) (x : MRequest) (o : MOp) : State × MResult :=
  if x.stopOnError && x.results.any (fun r => r.2.status != .ok) then
    (s, ⟨MStatus.skipped, if 3 ≤ o.op then o.data else 0⟩)
  else s.runOp x.req o

/-- The next operation of the request that executes: each crosses into the tick domain by itself (R308; 01 R21;
DESIGN CHOICE, log entry 78). A request whose write resets the device is gone with it. -/
def State.runNext (s : State) (x : MRequest) : State :=
  match x.ops with
  | [] => { s with mExec := some x }
  | o :: rest =>
      let p := s.runFor x o
      if p.1.rd globalBoot_STAGE < 3 then p.1
      else { p.1 with mExec := some { x with ops := rest, results := x.results ++ [(o, p.2)] } }

/-- The request that executes goes on by an operation. -/
def State.mTick (s : State) : State :=
  match s.mExec with
  | some x => s.runNext x
  | none => s

/-! The response (R307). -/

/-- n bytes of a number in network order. -/
def netBytes : Nat → Nat → List Byte
  | 0, _ => []
  | n + 1, v => netBytes n (v / 256) ++ [BitVec.ofNat 8 v]

/-- An operation with its STATUS and DATA. -/
def opBytes (p : MOp × MResult) : List Byte :=
  netBytes 4 p.1.addr ++ netBytes 1 p.1.op ++ netBytes 1 p.2.status.code ++ netBytes 2 0 ++ netBytes 8 p.2.data.toNat

/-- The response datagram of a request. -/
def MRequest.response (x : MRequest) : List Byte :=
  netBytes 2 0x4B4D ++ netBytes 1 1 ++ netBytes 1 0x81 ++ netBytes 4 x.seq.toNat ++ netBytes 1 x.results.length
    ++ netBytes 1 (if x.stopOnError then 1 else 0) ++ netBytes 2 0 ++ x.results.flatMap opBytes

/-! Datagrams and responses (R309). -/

/-- Whether Kenper-M answers on a link (14 R378, R380). -/
def State.mAnswers (s : State) (link : Nat) : Bool :=
  s.linkExists link && s.on kenMCfg_EN &&
    (match s.rd globalBoot_STAGE with
    | 3 | 4 => true
    | 5 => link == 0
    | _ => false)

/-- One more answer to a request that still waits or executes. -/
def MRequest.again (src : MSource) (seq : BitVec 32) (x : MRequest) : MRequest :=
  if x.src = src ∧ x.seq = seq then { x with sends := x.sends + 1 } else x

/-- KENPER_M_DATAGRAM (R307-R310): a UDP payload for a port; for another port than UDP_PORT it is of a protocol
that the device does not have (R302). -/
def execKenperMDatagram (link : Nat) (src : MSource) (port : BitVec 16) (bytes : List Byte) (s : State) :
    Host.Outcome State Fault Refusal :=
  if !s.mAnswers link then .next s
  else if port.toNat ≠ s.rd kenMCfg_UDP_PORT then .next (s.bump (linkCounts_RX_BAD link))
  else if !datagramGood bytes then .next (s.bump kenMStatus_MALFORMED)
  else
    match s.aclFor src with
    | none => .next (s.bump kenMStatus_DISCARD_ACL)
    | some req =>
        let seq := BitVec.ofNat 32 (netField bytes 4 4)
        let same (x : MRequest) : Bool := x.src == src && x.seq == seq
        match s.kept.find? (fun k => k.src == src && k.seq == seq) with
        | some k =>
            .next (({ s with kept := k :: s.kept.erase k }.bump kenMStatus_DUP_HITS).send
              (.response k.src k.bytes))
        | none =>
            if s.mExec.any same || s.mWait.any same then
              .next ({ s with mExec := s.mExec.map (MRequest.again src seq),
                              mWait := s.mWait.map (MRequest.again src seq) }.bump kenMStatus_DUP_HITS)
            else
              let x : MRequest :=
                { src := src, seq := seq, req := req, stopOnError := (netField bytes 9 1).testBit 0,
                  ops := (List.range (netField bytes 8 1)).map (datagramOp bytes), results := [], sends := 1 }
              if s.mExec.isNone then finish (s.runNext x)
              else if 16 ≤ s.mWait.length then .next (s.bump kenMStatus_OVERRUN)
              else .next { s with mWait := s.mWait ++ [x] }

/-- KENPER_M_RESPONSE (R309): the request has been executed; the response is sent, and kept as the last one of
its source; the next request begins. -/
def execKenperMResponse (s : State) : Host.Outcome State Fault Refusal :=
  match s.mExec with
  | none => .next s
  | some x =>
      if !x.ops.isEmpty then .next s
      else
        let k : KeptResponse := { src := x.src, seq := x.seq, bytes := x.response }
        let s := { s with mExec := none, kept := (k :: s.kept.filter (fun y => y.src != x.src)).take 32 }
        let s := s.each (List.range x.sends) (fun s _ => s.send (.response x.src x.response))
        match s.mWait with
        | [] => .next s
        | y :: rest => finish ({ s with mWait := rest }.runNext y)

end Sys2Proof.Machine
end

