-- ==== Sys2Proof/Machine/Transfers.lean ====
section
/-! DEFINITION. LOAD, READ and SHARE (11 R320, R321; 03 R105). -/

namespace Sys2Proof.Machine

open Fld

/-! The SPACE table (R320). -/

/-- Whether a SPACE takes a LOAD, and a READ. -/
def spaceLoads (n : Nat) : Bool :=
  match n with
  | 0 | 2 | 3 | 4 | 5 => true
  | _ => false
def spaceReads (n : Nat) : Bool := decide (1 ≤ n ∧ n ≤ 0xA)

/-- The unit of OFFSET in bytes, and the limit in units, of a SPACE with a limit. -/
def spaceLimit (n : Nat) : Option (Nat × Nat) :=
  match n with
  | 1 => some (8, 131072)
  | 2 => some (8, 8192)
  | 3 => some (1, 4194304)
  | 4 => some (16, 32768)
  | 5 => some (8, 32768)
  | 7 => some (8, 4096)
  | 8 => some (1, 262144)
  | _ => none

/-- Whether a transfer is out of range or misaligned. -/
def spaceRange (space off length : Nat) : Bool :=
  length == 0 || length % 8 != 0 ||
    match spaceLimit space with
    | some (u, n) => decide (u * n < off * u + length) || (u == 1 && off % 8 != 0)
        || (space == 4 && length % 16 != 0)
    | none =>
        match space with
        | 6 => off != 0 || length != 96
        | 9 => decide (11 < off)
        | _ => off != 0

/-- Whether a domain may name the target (R311): a queue is held by a claim instead (10 R297). -/
def State.namesSpace (s : State) (domain space tile off length : Nat) : Bool :=
  domain == 0 ||
    match space with
    | 0 | 1 | 2 | 3 | 8 => s.ownsTile domain tile
    | 4 => (List.range (length / 16)).all (fun i => s.ownsTile domain (s.rd (dirWord0_TILE (off + i))))
    | 9 | 0xA => true
    | _ => false

/-! Data that arrives (R321). -/

def State.transfer (s : State) (ref : DescRef) : Option Transfer := s.transfers.find? (fun t => t.ref == ref)
def State.modTransfer (s : State) (ref : DescRef) (f : Transfer → Transfer) : State :=
  { s with transfers := s.transfers.map (fun t => if t.ref = ref then f t else t) }
def State.dropTransfer (s : State) (ref : DescRef) : State :=
  { s with transfers := s.transfers.filter (fun t => t.ref != ref) }

/-- The next READ of a transfer, of up to 16 KiB and in address order, is issued (R321). -/
def State.askLoad (s : State) (t : Transfer) : State :=
  let n := min 16384 (t.length - t.asked)
  (s.rdmaRead (s.rd (cmdCfg_QP t.ref.ring)) t.rkey (t.hostAddr + BitVec.ofNat 64 t.asked) n (.load t.ref)).modTransfer
    t.ref (fun t => { t with asked := t.asked + n })

/-- The transfer of a ring that asks for data next, if its queue pair can read. -/
def State.loadOf (s : State) (r : Nat) : Option Transfer :=
  if s.canRead (s.rd (cmdCfg_QP r)) then s.transfers.find? (fun t => t.ref.ring == r && decide (t.asked < t.length))
  else none

/-- The command rings that may have something to read, beginning after the one served last. -/
def State.readRings (s : State) : List Nat :=
  let set := s.regs.filterMap (fun p => if p.1.name = .cmdCfg then some p.1.i else none)
  let rs := set ++ (s.transfers.map (fun t => t.ref.ring)).filter (fun r => !set.contains r)
  rs.filter (fun r => decide (s.kenRun.turn < r)) ++ rs.filter (fun r => decide (r ≤ s.kenRun.turn))

/-- A ring takes its turn at a read tag, if it has something to read: data of a LOAD, or descriptors. -/
def State.takeTurn (s : State) (r : Nat) : Option State :=
  let s' : State := { s with kenRun.turn := r }
  match s.loadOf r with
  | some t => some (s'.askLoad t)
  | none => if s.canFetch r then some (s'.fetch r) else none

/-- Descriptor fetches and LOAD data take the free read tags round-robin by ring, behind the refills and the rings
with PRIO (R337, R338). -/
def State.askReads : Nat → State → State
  | 0, s => s
  | fuel + 1, s =>
      match s.readRings.findSome? s.takeTurn with
      | none => s
      | some s => s.askReads fuel

/-- Bytes of a transfer's READs arrive, in order; a READ all of which has arrived frees its tag. -/
def readArrived (ref : DescRef) (now : Nat) : Nat → List OutReq → List OutReq
  | _, [] => []
  | n, r :: rest =>
      if r.kind = .load ref then
        if r.left ≤ n then readArrived ref now (n - r.left) rest
        else { r with left := r.left - n, sent := now } :: rest
      else r :: readArrived ref now n rest

/-- Bytes that a transfer's READs still await. -/
def State.awaited (s : State) (ref : DescRef) : Nat :=
  (s.outReqs.filter (fun r => r.kind == .load ref)).foldl (fun m r => m + r.left) 0

/-- A whole image is accepted: entry table, bindings and thread set-up apply in one tick (03 R105). -/
def State.acceptImage (s : State) (tile : Nat) (bs : List Byte) : State :=
  let put (s : State) (r : Reg) (w : Word) : State := s.land r ⟨⟨0, true⟩, .whole, w⟩
  let s := { s with
    entries := match heldSection bs 3 with
      | some ws => Tab.set s.entries tile ws
      | none => Tab.erase s.entries tile,
    entry0 := Tab.set s.entry0 tile (BitVec.ofNat 32 (imgField bs 0x18 4)) }
  let binds := (heldSection bs 4).getD []
  let s := s.each (List.range binds.length) (fun s k => put s ⟨.bind, tile, k, 0⟩ (binds.getD k 0))
  let ths := (heldSection bs 5).getD []
  let s := s.each (List.range (ths.length / 2)) (fun s h =>
    put (put s ⟨.thrCfg, tile, h, 0⟩ (ths.getD (2 * h) 0)) ⟨.trigSrc, tile, h, 0⟩ (ths.getD (2 * h + 1) 0))
  s.wr (ndlStatus_IMG_STATE tile) 2

/-- Bytes of an image arrive: the check before anything is written, the sections as they come, the CRC
at the end; the CODE of a rejection (03 R105; R321). -/
def State.takeImage (s : State) (tile length : Nat) (old bs : List Byte) : State × Option Nat :=
  let img := old ++ bs
  let reject (s : State) (c : Nat) : State × Option Nat := (s.wr (ndlStatus_IMG_STATE tile) 3, some c)
  if !tableHere img length then (s, none)
  else
    let checked := tableHere old length
    match if checked then none else imageCode img length with
    | some c => reject s c
    | none =>
        let s := s.writeSections tile img (if checked then old.length else 0)
        if img.length ≠ length then (s, none)
        else if imageCrc img ≠ imgField img 0x1C 4 then reject s 7
        else (s.acceptImage tile img, none)

/-- One directory entry of a LOAD (04 R110): whether it is rejected. A partition's entry is written only
where it names a tile of that partition (R311). -/
def State.loadEntry (s : State) (domain p : Nat) (w0 w1 : Word) : State × Nat :=
  if !s.namesTile domain (bitsOf w0 (dirWord0_TILE 0).lo (dirWord0_TILE 0).width) then (s, 1)
  else ((s.onDirWord1 p w1).onDirWord0 p w0, if entryRejected w0 w1 then 1 else 0)

/-- A load that writes an envelope word discards the staged copies that hold it (04 R121). -/
def State.unstage (s : State) (tile i : Nat) : State :=
  { s with staged := s.staged.filter (fun x =>
      let base := bitsOf x.w0 32 19
      let bytes := x.samples.length * (if x.tgt.isFlux then 2 else 4)
      !(x.tgt.tile == tile && decide (base ≤ i) && decide (8 * i < 8 * base + bytes))) }

/-- Word i of a LOAD's target is written; word 0 of a directory entry, held, goes with word 1. The
entries rejected. -/
def State.loadWord (s : State) (domain space tile i : Nat) (held w : Word) : State × Nat :=
  match space with
  | 2 => (s.setMemWord .data tile i w, 0)
  | 3 => ((s.setMemWord .env tile i w).unstage tile i, 0)
  | 5 => (s.onPdcTable i w, 0)
  | _ => if i % 2 = 0 then (s, 0) else s.loadEntry domain (i / 2) held w

/-- Words of a LOAD are written from word i of its target onward: the entries rejected. -/
def State.loadWords (s : State) (domain space tile : Nat) : Nat → Word → List Word → State × Nat
  | _, _, [] => (s, 0)
  | i, held, w :: rest =>
      let e := s.loadWord domain space tile i held w
      let p := e.1.loadWords domain space tile (i + 1) w rest
      (p.1, e.2 + p.2)

/-- The word of its target at which a transfer begins. -/
def Transfer.firstWord (t : Transfer) : Nat :=
  match t.space with
  | 3 => t.offset / 8
  | 4 => 2 * t.offset
  | _ => t.offset

/-- The completion of a LOAD or SHARE (R328). -/
def State.endLoad (s : State) (t : Transfer) (status code : Nat) : State :=
  (s.dropTransfer t.ref).complete t.ref status code (t.done / 8) t.info t.rejected

/-- Whether a transfer is an image still on its way to a tile. -/
def Transfer.bringsImage (x : Transfer) (tile : Nat) : Bool :=
  x.space == 0 && x.here && x.tile == tile && x.refused.isNone && decide (x.done < x.length)

/-- Data of a transfer is written, in order: the transfer as it then stands. IMG_STATE stays 1 while another image
is on its way to the tile (03 R105). -/
def State.writeLoad (s : State) (t : Transfer) (others : List Transfer) (bs : List Byte) : State × Transfer :=
  let t1 : Transfer := { t with done := t.done + bs.length }
  if !t.here || t.refused.isSome then (s, t1)
  else if t.space = 0 then
    let p := s.takeImage t.tile t.length t.image bs
    (if others.any (fun x => x.bringsImage t.tile) then p.1.wr (ndlStatus_IMG_STATE t.tile) 1 else p.1,
      { t1 with image := t.image ++ bs, refused := p.2 })
  else
    let p := s.loadWords t.domain t.space t.tile (t.firstWord + t.done / 8) 0 (wordsOf (bs.length / 8) bs)
    (p.1, { t1 with rejected := t.rejected + p.2 })

/-- The transfers in progress beside one of this device's, or beside one that another device makes here. -/
def State.othersThan (s : State) (ref : DescRef) : List Transfer :=
  s.transfers.filter (fun x => x.ref != ref) ++ s.kenRun.remotes.map Prod.snd
def State.othersThanRemote (s : State) (src : Nat) (ref : DescRef) : List Transfer :=
  s.transfers ++ (s.kenRun.remotes.filter (fun p => !(p.1 == src && p.2.ref == ref))).map Prod.snd

/-! SHARE over the fabric (R321; 07 R235). -/

/-- The fields and the data of a configuration message. -/
def ConfigMsg.fields : ConfigMsg → List Nat × List Byte
  | .data r i sp t o n a bs => ([0, r, i, sp, t, o, n, a], bs)
  | .ack r i st => ([1, r, i, st], [])

/-- The message that fields and data make, if they make one. -/
def configOf : List Nat × List Byte → Option ConfigMsg
  | ([0, r, i, sp, t, o, n, a], bs) => some (.data r i sp t o n a bs)
  | ([1, r, i, st], _) => some (.ack r i st)
  | _ => none

/-- A configuration message leaves for a device, in a format that the spec does not give (DESIGN CHOICE, log
entry 77). -/
def State.sendConfig (s : State) (dev : Nat) (m : ConfigMsg) : State :=
  s.sendBulk 0 dev 2 (s.rd eswId_DEV) (Config.configData m.fields.1 m.fields.2)

/-- A SHARE is answered by its destination, or cannot reach it (R321). -/
def State.shareEnds (s : State) (t : Transfer) (status : Nat) : State :=
  if status ≠ 0 then s.endLoad t 0x35 status
  else if t.done < t.length then s
  else
    match t.refused with
    | some c => s.endLoad t 0x30 c
    | none => s.endLoad t cplOk 0

/-- The SHARE at a ring position. -/
def State.shareAt (s : State) (r index : Nat) : Option Transfer :=
  s.transfers.find? (fun t => t.ref.ring == r && t.ref.index == index && t.dest.isSome)

/-- The SHAREs to a device that a lost message was on its way to cannot reach it (R321; 07 R236). -/
def State.shareLost (s : State) (dev : Nat) : State :=
  s.each (s.transfers.filter (fun t => t.dest == some dev)) (fun s t => s.endLoad t 0x35 0)

/-- Data of a transfer arrives, in order: written here, and sent on for a SHARE (R321). -/
def State.takeLoad (s : State) (ref : DescRef) (bytes : List Byte) : State :=
  let g := if (s.transfer ref).any (fun t => t.space == 4) then 16 else 8
  let n := min bytes.length (s.awaited ref) / g * g
  let s := { s with outReqs := readArrived ref s.tick n s.outReqs }
  match s.transfer ref with
  | none => s
  | some t =>
      let bs := bytes.take n
      let p := s.writeLoad t (s.othersThan ref) bs
      let s := p.1.modTransfer ref (fun _ => p.2)
      match t.dest, p.2.refused with
      | some dev, _ =>
          if (s.bulkLane dev).isNone then s.endLoad p.2 0x35 0
          else s.sendConfig dev (.data ref.ring ref.index t.space t.tile t.offset t.length t.done bs)
      | none, some c => s.endLoad p.2 0x30 c
      | none, none => if p.2.done = t.length then s.endLoad p.2 cplOk 0 else s

/-- The descriptor at a ring position whose READs are outstanding. -/
def State.loadAt (s : State) (r index : Nat) : Option DescRef :=
  (s.outReqs.filterMap (fun o => match o.kind with | .load ref => some ref | _ => none)).find?
    (fun d => d.ring == r && d.index == index)

/-- LOAD_DATA (R321): response data of the LOAD or SHARE at a ring position. -/
def execLoadData (r : BitVec 6) (index : Nat) (bytes : List Byte) (s : State) :
    Host.Outcome State Fault Refusal :=
  match s.loadAt r.toNat index with
  | none => .next s
  | some ref => finish (s.takeLoad ref bytes)

/-! The descriptors. -/

/-- The transfer that a descriptor names. -/
def Desc.transfer (d : Desc) (domain : Nat) : Transfer :=
  { ref := d.ref, domain := domain, space := d.field 1 4 4, tile := d.field 1 0 4,
    offset := (d.word 2).toNat, length := d.field 3 0 32, hostAddr := d.word 4, rkey := d.field 5 0 32 }

/-- A transfer begins: an image that is loaded here has IMG_STATE 1 from now on. -/
def State.beginLoad (s : State) (t : Transfer) : State :=
  let s := if t.space = 0 ∧ t.here then s.wr (ndlStatus_IMG_STATE t.tile) 1 else s
  { s with transfers := s.transfers ++ [t] }

/-- LOAD (R320, R321). -/
def execLoad (d : Desc) (s : State) : Host.Outcome State Fault Refusal :=
  s.withDesc d (fun n => n == 0x10) (fun s =>
    let t := d.transfer (s.ringReq d.ref.ring).domain
    if !spaceLoads t.space then s.ends d 0x33
    else if spaceRange t.space t.offset t.length then s.ends d 0x24
    else if !s.namesSpace t.domain t.space t.tile t.offset t.length then s.ends d 0x22
    else if t.space = 0 ∧ s.tileRunning t.tile then s.ends d 0x21
    else s.beginLoad t)

/-- SHARE (R320, R321): only from domain 0; a destination that no lane leads to cannot be reached. -/
def execShare (d : Desc) (s : State) : Host.Outcome State Fault Refusal :=
  s.withDesc d (fun n => n == 0x12) (fun s =>
    let dev := d.field 1 48 11
    let t : Transfer := { d.transfer (s.ringReq d.ref.ring).domain with
      dest := some dev, here := (d.word 1).getLsbD 59 }
    if !spaceLoads t.space then s.ends d 0x33
    else if t.domain ≠ 0 then s.ends d 0x22
    else if spaceRange t.space t.offset t.length then s.ends d 0x24
    else if t.here ∧ t.space = 0 ∧ s.tileRunning t.tile then s.ends d 0x21
    else if (s.bulkLane dev).isNone then s.ends d 0x35
    else s.beginLoad t)

/-- SHARE_ACK (R321): the destination acknowledges what has been sent, or refuses. -/
def execShareAck (r : BitVec 6) (index : Nat) (status : BitVec 8) (s : State) :
    Host.Outcome State Fault Refusal :=
  .next (match s.shareAt r.toNat index with
    | some t => s.shareEnds t status.toNat
    | none => s)

/-- The STATUS with which this device refuses the LOAD that a SHARE makes on it (R320, R321). -/
def State.shareRefusal (s : State) (t : Transfer) : Option Nat :=
  if !spaceLoads t.space then some 0x33
  else if spaceRange t.space t.offset t.length then some 0x24
  else if t.space = 0 ∧ s.tileRunning t.tile then some 0x21
  else none

/-- Data of a LOAD that a SHARE of another device makes here, in domain 0 (R321): it is answered when it is whole,
or refused. -/
def State.takeShare (s : State) (src : Nat) (t : Transfer) (start : Nat) (bs : List Byte) : State :=
  let mine (p : Nat × Transfer) : Bool := p.1 == src && p.2.ref == t.ref
  let answer (s : State) (status : Nat) : State :=
    { s with kenRun.remotes := s.kenRun.remotes.filter (fun p => !mine p) }.sendConfig src
      (.ack t.ref.ring t.ref.index status)
  let go (s : State) (t : Transfer) : State :=
    let p := s.writeLoad t (s.othersThanRemote src t.ref) bs
    let s : State := { p.1 with kenRun.remotes := p.1.kenRun.remotes.filter (fun e => !mine e) ++ [(src, p.2)] }
    match p.2.refused with
    | some _ => answer s 0x30
    | none => if t.length ≤ p.2.done then answer s cplOk else s
  if start = 0 then
    match s.shareRefusal t with
    | some c => answer s c
    | none => go (if t.space = 0 then s.wr (ndlStatus_IMG_STATE t.tile) 1 else s) t
  else
    match s.kenRun.remotes.find? mine with
    | some p => if p.2.done = start then go s p.2 else s
    | none => s

/-- A configuration message from a device (R321; 07 R235). -/
def State.takeConfig (s : State) (src : Nat) (ds : List (BitVec 160)) : State :=
  match (Config.configRead ds).bind configOf with
  | some (.data r i sp tile off len start bs) =>
      let ref : DescRef := { ring := r, index := i, tag := 0, cpl := true, inl := false, opcode := 0x10 }
      let t : Transfer := { ref := ref, domain := 0, space := sp, tile := tile, offset := off, length := len,
                            hostAddr := 0, rkey := 0 }
      s.takeShare src t start bs
  | some (.ack r i st) =>
      (match s.shareAt r i with
      | some t => if t.dest = some src then s.shareEnds t st else s
      | none => s)
  | none => s

/-! READ (R321). -/

/-- A word of a memory: as read, and whether SECDED cannot correct it (12 R341; DESIGN CHOICE, log entry 8, site 7). -/
def State.readMem (s : State) (sp : Space) (tile i : Nat) : State × Word × Bool :=
  if s.poisoned sp.locus tile i then
    ((s.bump intCounts2_POISON_RD).fault 2 sp.locus tile i [] none,
      BitVec.ofNat 64 (Config.unstated 7 [sp.locus, tile, i]), true)
  else (s, s.memWord sp tile i, false)

/-- Word i of a SPACE, counted from its start. -/
def State.readSpace (s : State) (req : Requester) (space tile i : Nat) : State × Word × Bool :=
  let table (r : Reg) (locus addr : Nat) : State × Word × Bool :=
    let p := s.takeRead req r
    (p.1, p.2.2, s.poisoned locus 0 addr)
  match space with
  | 1 => s.readMem .instr tile i
  | 2 => s.readMem .data tile i
  | 3 => s.readMem .env tile i
  | 4 => table (if i % 2 = 0 then ⟨.dirWord0, i / 2, 0, 0⟩ else ⟨.dirWord1, i / 2, 0, 0⟩) 4 i
  | 5 => table ⟨.pdcTable, i, 0, 0⟩ 5 i
  | 6 => (s.ledgerRead [i], (s.ledgerSeen >>> (64 * i)).setWidth 64, s.poisoned 6 0 i)
  | 7 => (let p := s.takeRead req ⟨.decWord, i, 0, 0⟩; (p.1, p.2.2, false))
  | _ => (s, s.memWord .trace tile i, false)

/-- n words from a word onward, and the position of the first that SECDED cannot correct. -/
def State.readWords (s : State) (req : Requester) (space tile : Nat) :
    Nat → Nat → State × List Word × Option Nat
  | 0, _ => (s, [], none)
  | n + 1, i =>
      let p := s.readSpace req space tile i
      let r := p.1.readWords req space tile n (i + 1)
      (r.1, p.2.1 :: r.2.1, if p.2.2 then some i else r.2.2)

/-- The words waiting in a queue that a drain names. -/
def State.drainLevel (s : State) (space u : Nat) : Nat :=
  if space = 9 then s.tdcLevel u else s.evLog.words.length

/-- A drain of up to n words, which never reads an empty queue (R321; 09 R271; 10 R300). -/
def State.drain (s : State) (domain space u : Nat) : Nat → State × List Word
  | 0 => (s, [])
  | n + 1 =>
      if s.drainLevel space u = 0 then (s, [])
      else
        let p := if space = 9 then s.popTdc u domain else s.popLog domain
        let r := p.1.drain domain space u n
        (r.1, p.2.2 :: r.2)

/-- Whether a domain holds the claim on the queue a drain names (10 R297). -/
def State.holdsQueue (s : State) (domain space u : Nat) : Bool :=
  if space = 9 then s.holdsTdc u domain else s.rd claimLog_HOLDER == domain + 1

/-- The offset of word i in the unit of a SPACE. -/
def spaceOffset (space i : Nat) : Nat :=
  match space with
  | 3 => 8 * i
  | 4 => i / 2
  | _ => i

/-- Words are delivered, and the completion follows their acknowledgement (R321, R326). -/
def State.deliver (s : State) (t : Transfer) (ws : List Word) (poison : Option Nat) : State :=
  let q := s.rd (cmdCfg_QP t.ref.ring)
  let status := if poison.isSome then 0x32 else cplOk
  let info := BitVec.ofNat 64 ((poison.map (spaceOffset t.space)).getD 0)
  if ws.isEmpty then s.complete t.ref status 0 0 info 0
  else
    let s := s.rdmaWrite q t.rkey t.hostAddr ws
    { s with readWait := s.readWait ++ [{ ref := t.ref, q := q, psn := (s.qp q).sqPsn - 1, status := status,
                                          words := ws.length, info := info }] }

/-- READ (R320, R321): it waits while its queue pair cannot send (R337). -/
def execRead (d : Desc) (s : State) : Host.Outcome State Fault Refusal :=
  let req := s.ringReq d.ref.ring
  let t := d.transfer req.domain
  let bad := !spaceReads t.space || spaceRange t.space t.offset t.length
  if !bad && !s.canWrite (s.rd (cmdCfg_QP d.ref.ring)) then .next s
  else
    s.withDesc d (fun n => n == 0x11) (fun s =>
      if !spaceReads t.space then s.ends d 0x33
      else if bad then s.ends d 0x24
      else if !s.namesSpace t.domain t.space t.tile t.offset t.length then s.ends d 0x22
      else if t.space = 8 ∧ s.on (traceCtrl_BUSY t.tile) then s.ends d 0x21
      else if t.space = 9 ∨ t.space = 0xA then
        if !s.holdsQueue t.domain t.space t.offset then s.ends d 0x26
        else
          let p := s.drain t.domain t.space t.offset (t.length / 8)
          p.1.deliver t p.2 none
      else
        let first := if t.space = 8 then t.offset / 8 else t.firstWord
        let p := s.readWords req t.space t.tile (t.length / 8) first
        p.1.deliver t p.2.1 p.2.2)

end Sys2Proof.Machine
end

