-- ==== Sys2Proof/Machine/FabricRx.lean ====
section
/-! DEFINITION. Stitches received in Active: decision entries, control entries, bulk data and its
replay (07 R203-R206, R220-R225, R230, R235-R237; 12 R343, R353). -/

namespace Sys2Proof.Machine

open Fld

/-! Entries (R209, R223, R230). -/

/-- A field of a word by the place of a register field. -/
def RField.of (f : RField) (w : Word) : Nat := bitsOf w f.lo f.width

/-- Bits [lo + n − 1 : lo] of a number. -/
def part (w lo n : Nat) : Nat := w / 2 ^ lo % 2 ^ n

/-- A control entry taken on a lane (R230). -/
def State.takeControl (s : State) (l e : Nat) : State :=
  let lane := BitVec.ofNat 5 l
  let bar := BitVec.ofNat 6 (part e 6 6)
  let gen := BitVec.ofNat 4 (part e 12 4)
  let tick := BitVec.ofNat 36 (part e 16 36)
  let dev := BitVec.ofNat 11 (part e 6 11)
  let devTick := BitVec.ofNat 36 (part e 17 36)
  match part e 2 4 with
  | 0 => s.takeArrive lane bar gen tick
  | 1 => s.takeRelease lane bar gen tick
  | 2 => s.takeUnpickRx lane bar gen tick
  | 3 => s.takePauseRx lane bar gen (BitVec.ofNat 16 (part e 16 16))
  | 4 => s.takeDown lane dev devTick
  | 5 => s.takeUp lane dev devTick
  | _ => s.bump (laneCounts2_NOROUTE l)

/-- A decision entry decoded in the stitch of slot n (R224). -/
def State.takeDecision (s : State) (l n e : Nat) : State :=
  let route := part e 2 9
  let w := s.rxrFor l route n
  let f (r : Nat → Nat → RField) : Nat := (r l route).of w.1
  if f rxr0_EN = 0 then s.bump (laneCounts2_NOROUTE l)
  else
    let time := part e 43 10
    let due := time + (rxr1_PRE l route).of w.2
    let age := (s.ft.toNat + 1024 - due % 1024) % 1024
    let lat := s.laneLat l
    let word (value : Nat) (amb anom fa : Bool) (status : Nat) : Word :=
      decisionWord value (BitVec.ofNat 64 time) amb anom fa status (f rxr0_KIND) (f rxr0_SRC_TILE) (f rxr0_SRC_DEV)
    let deliver (s : State) (tick : Nat) (word : Word) : State :=
      if f rxr0_DLV = 0 then s
      else
        let d : Delivery := { tick := tick, lane := l, entry := route, slot := f rxr0_SLOT, word := word }
        { s with deliveries := s.deliveries ++ [d] }
    if lat ≤ age then
      deliver (s.bump (laneCounts1_MISTIME l)) (s.tick + 1) (word 0 false false false 2)
    else
      let tick := s.tick + lat - age
      let s := deliver s tick (word (part e 11 32) (e.testBit 53) (e.testBit 54) (e.testBit 55) 0)
      if f rxr0_FWD = 0 then s
      else
        let bits := e - part e 2 9 * 2 ^ 2 + f rxr0_OUT_ROUTE % 512 * 2 ^ 2
        s.readyOn (s.leadLane (f rxr0_OUT_LANE)) { cls := 2, key := l, ready := tick, bits := BitVec.ofNat 56 bits }

/-- An entry of a decision stitch of slot n, received on physical lane m of lane l (R223). A decision to
deliver between ends that the last marker found more than one tick apart is undefined (R353 U5). -/
def State.takeEntry (s : State) (m l n e : Nat) : State :=
  match e % 4 with
  | 0 => s
  | 1 =>
      let w := (s.rxrFor l (part e 2 9) n).1
      let taken := (rxr0_EN l 0).of w = 1 ∧ ((rxr0_DLV l 0).of w = 1 ∨ (rxr0_FWD l 0).of w = 1)
      (if (s.lane m).apart ∧ taken then s.undefined 5 else s).takeDecision l n e
  | 2 => s.takeControl l e
  | _ => s.bump (laneCounts2_NOROUTE l)

/-- A valid or corrected stitch of an Active lane passes. -/
def State.slotGood (s : State) (l : Nat) : State :=
  (s.slotPassed l).modLane l (fun x => { x with missRun := 0 })

/-- Whether a header makes the stitch invalid: a double-bit error, or a reserved TYPE (R204). -/
def headerInvalid (w : Nat) : Bool :=
  match headerType (w % 256) with
  | none => true
  | some t => decide (6 ≤ t)

/-- A decision stitch of the slot expected, its TYPE as decoded (R205, R221, R225). -/
def State.takeDecisionStitch (s : State) (l w : Nat) (incomplete : Bool) : State :=
  let n := (s.lane l).rxSlot
  match openBch w with
  | none => ((s.bump (laneCounts0_UNCORR l)).slotMissed l).slotPassed l
  | some (w, k) =>
      let s := (s.correctedBits l k).slotGood l
      let s := if incomplete then s.markBad l n else s
      let lead := s.leadLane l
      if !(s.copies lead).isEmpty && (s.lane lead).got.contains n then s
      else
        let s := s.modLane lead (fun x => { x with got := (n :: x.got).take 64 })
        s.each (List.range 4) (fun s i => s.takeEntry l lead n (part w (56 * i + 8) 56))

/-- DECISION_STITCH_RX (R203-R205, R221-R225): the 256 bits of a slot as they stand on the wire. -/
def execDecisionStitchRx (l : BitVec 5) (wire : BitVec 256) (s : State) : Host.Outcome State Fault Refusal :=
  let l := l.toNat
  let x := s.lane l
  let st := s.rd (laneStatus_STATE l)
  let w := (scramble x.rxScr wire).toNat
  if st = laneAlign ∨ st = laneExchange then .next (s.slotPassed l)
  else if st ≠ laneActiveSt then .next s
  else if x.rxSlot % 4096 = 4095 ∨ headerInvalid w then .next (s.slotInvalid l)
  else
    match headerType (w % 256) with
    | some 1 => finish (s.takeDecisionStitch l w false)
    | some 2 => finish (s.takeDecisionStitch l w true)
    | _ => .next s

/-! Bulk (R235-R237). -/

/-- What a field of DATA holds of a defect forward (R194, R235). -/
def forwardOf (d : BitVec 160) : DefectForward :=
  let w2 : Word := d.setWidth 64
  let w3 : Word := (d >>> 64).setWidth 64
  { dev := BitVec.ofNat 11 (bitsOf w3 8 11), patch := BitVec.ofNat 6 (bitsOf w2 16 6),
    a := (d >>> 128).setWidth 32, word2 := w2, word3 := w3 }

/-- A whole bulk message received on a lane: passed on toward its device, or taken (R202, R235). -/
def State.takeBulk (s : State) (l : Nat) (ps : List BulkPart) : State :=
  match ps with
  | [] => s
  | p :: _ =>
      if p.dest ≠ s.rd eswId_DEV then s.sendBulk l p.dest p.mtype p.src (ps.map BulkPart.data)
      else
        match p.mtype with
        | 0 | 1 | 4 => s
        | 2 => s.takeConfig p.src (ps.map BulkPart.data)
        | 3 => s.takeForward (.fabric l) (forwardOf p.data)
        | 5 =>
            s.each [part p.data.toNat 0 56, part p.data.toNat 56 56] (fun s e =>
              if e % 4 = 2 then s.takeControl l e else s)
        | _ => s.bump (laneCounts2_NOROUTE l)

/-- ACK frees the replay buffer up to a sequence number (R236). -/
def ackReplay (ack : BitVec 8) (ps : List SentPart) : List SentPart :=
  if ps.any (fun p => p.seq == ack) then (ps.dropWhile (fun p => p.seq != ack)).drop 1 else ps

/-- A bulk data stitch with a number and a part: the next in order is taken (R236). -/
def State.takePart (s : State) (l : Nat) (seq : BitVec 8) (p : BulkPart) : State :=
  let x := s.lane l
  if seq ≠ x.rxSeq + 1 then s
  else
    let q := if p.first then [p] else x.inq ++ [p]
    if p.last then (s.setLane l { x with rxSeq := seq, inq := [] }).takeBulk l q
    else s.setLane l { x with rxSeq := seq, inq := q }

/-- The part that a bulk data stitch holds (R235). -/
def partOf (w : Nat) : BulkPart :=
  { first := w.testBit 25, last := w.testBit 26, mtype := part w 32 4, dest := part w 36 11,
    src := part w 47 11, data := BitVec.ofNat 160 (part w 72 160) }

/-- A bulk or idle stitch of the slot expected, k bits of its header corrected; a data stitch of which no good
copy is left brings a NAK (R204, R205, R221, R236). -/
def State.takeBulkStitch (s : State) (l w k : Nat) (data : Bool) : State :=
  let lead := s.leadLane l
  if !crcGood w then
    let n := (s.lane l).rxSlot
    let s := ((s.bump (laneCounts0_CRC_ERR l)).slotMissed l).slotPassed l
    if data && s.windowBad lead n then s.modLane lead (fun x => { x with nakTx := true }) else s
  else
    let s := (s.correctedBits l k).slotGood l
    let s := s.modLane lead (fun x => { x with
      replay := ackReplay (BitVec.ofNat 8 (part w 16 8)) x.replay, nakRx := x.nakRx || w.testBit 24 })
    if data then s.takePart lead (BitVec.ofNat 8 (part w 8 8)) (partOf w) else s

/-- BULK_STITCH_RX (R203-R206, R235-R237): the 256 bits of a slot as they stand on the wire. -/
def execBulkStitchRx (l : BitVec 5) (wire : BitVec 256) (s : State) : Host.Outcome State Fault Refusal :=
  let l := l.toNat
  let x := s.lane l
  let st := s.rd (laneStatus_STATE l)
  let w := (scramble x.rxScr wire).toNat
  if st = laneAlign ∨ st = laneExchange then .next (s.slotPassed l)
  else if st ≠ laneActiveSt then .next s
  else if x.rxSlot % 4096 = 4095 ∨ headerInvalid w then .next (s.slotInvalid l)
  else
    match openHeader w with
    | some (0, w, k) => finish (s.takeBulkStitch l w k false)
    | some (3, w, k) => finish (s.takeBulkStitch l w k true)
    | _ => .next s

/-- BULK_RETRANSMIT (R236): after a NAK everything beyond ACK is to be sent again, in order. -/
def execBulkRetransmit (l : BitVec 5) (s : State) : Host.Outcome State Fault Refusal :=
  let l := l.toNat
  let x := s.lane l
  if !x.nakRx then .next s
  else .next (s.setLane l { x with nakRx := false, replay := x.replay.map (fun p => { p with again := true }) })

/-- Whether the retry budget of a lane is exhausted: 512 ticks, or a fifth retry (R236). -/
def State.bulkSpent (s : State) (l : Nat) : Bool :=
  (s.lane l).replay.any (fun p => decide (p.sent + 512 ≤ s.tick) || (p.again && decide (4 ≤ p.resent)))

/-- The retry budget of a lane is exhausted (R236; 12 R343): the messages in the replay buffer are dropped, the
management processor that sent one is told (a SHARE then ends), the lane declares loss, a pair as one (DEDUCED, log entry 121), and
the open joint shots whose tree uses the lane have a fault. -/
def State.bulkExhaust (s : State) (l : Nat) : State :=
  let s := s.bump (laneCounts1_EXHAUST l)
  let lost := (s.lane l).replay.map (fun p => (p.part.src, p.part.dest, p.part.mtype))
  let s := s.each lost.eraseDups (fun s m =>
    let s := s.send (.bulkLost m.1 m.2.1 m.2.2)
    if m.1 = s.rd eswId_DEV ∧ m.2.2 = 2 then s.shareLost m.2.1 else s)
  let s := s.modLane l (fun x => { x with replay := [], outq := x.outq.dropWhile (fun p => !p.first) })
  let s := s.each (l :: s.copies l) State.declareLoss
  let xs := s.shots.filter (fun x => x.joint && s.inTree x.bar l)
  let owner := (xs.head?.bind (fun x => x.parts.head?)).map ShotPart.thr
  s.fault 7 0 ((owner.map Thr.tile).getD 0) l (xs.map Shot.id) owner

/-- BULK_RETRY_EXHAUSTED (R236). -/
def execBulkRetryExhausted (l : BitVec 5) (s : State) : Host.Outcome State Fault Refusal :=
  if s.bulkSpent l.toNat then finish (s.bulkExhaust l.toNat) else .next s

end Sys2Proof.Machine
end

