-- ==== Sys2Proof/Machine/Integrity.lean ====
section
/-! DEFINITION. Faults that checks find, and the scrubber (12 R339-R343, R351). -/

namespace Sys2Proof.Machine

open Fld

/-! Owners (R343). -/

/-- The tone's synthesis channel, where a target is a tone: tile and channel. -/
def Tgt.onChannel (g : Tgt) (t c : Nat) : Bool :=
  match g with
  | .tone t' c' _ => t' == t && c' == c
  | .flux _ _ => false

/-- The earlier of two threads in tile and thread order. -/
def Thr.least : List Thr → Option Thr
  | [] => none
  | q :: rest =>
      match Thr.least rest with
      | none => some q
      | some r => some (if r.lt q then r else q)

/-- Of several owners on one tile, the one whose shot takes the fault: the first with an open shot, else
the first. -/
def State.pickOwner (s : State) (qs : List Thr) : Option Thr :=
  match Thr.least (qs.filter (fun q => (s.shotOf q).isSome)) with
  | some q => some q
  | none => Thr.least qs

/-- The windows held on a channel that are being integrated, dumped or discriminated. -/
def State.windowOwners (s : State) (p : Window → Bool) : List Thr :=
  (s.windows.filter (fun w => p w && !w.latched)).map Window.thr

/-- The records of a tile's holding area with one of them marked uncorrectable. -/
def markRecord (t : Nat) : Nat → List HoldRec → List HoldRec
  | _, [] => []
  | i, r :: rest =>
      if r.tile ≠ t then r :: markRecord t i rest
      else if i = 0 then { r with bad := true } :: rest
      else r :: markRecord t (i - 1) rest

/-- The tile of a word of an array, where each tile has one (R339). -/
def locusTile (locus tile : Nat) : Nat := if locus ≤ 3 ∨ (8 ≤ locus ∧ locus ≤ 0xA) then tile else 0

/-- A word is rewritten with the poison pattern (R341). -/
def State.poisonWord (s : State) (locus tile addr : Nat) : State :=
  let tile := locusTile locus tile
  match locus with
  | 1 | 2 | 3 | 4 | 5 | 6 | 8 | 9 =>
      if s.poisoned locus tile addr then s else { s with poison := (locus, tile, addr) :: s.poison }
  | 7 => { s with slots := Tab.set s.slots addr { s.slot addr with bad := true } }
  | 0xA => { s with holding := markRecord tile (addr / 4) s.holding }
  | _ => s

/-- A word of a result queue loses its parity (R333). -/
def State.spoilRq (s : State) (t i : Nat) : State :=
  let q := s.rq t
  s.setRq t { q with words := (q.words.take i) ++
    ((q.words.drop i).take 1).map (fun w => { w with parityOk := false }) ++ q.words.drop (i + 1) }

/-- A word of a TDC event queue or of the event log loses its parity (09 R271, 10 R300). -/
def State.spoilTdc (s : State) (u i : Nat) : State :=
  s.setTdcUnit u { s.tdcUnit u with queue := (s.tdcUnit u).queue.spoil i }
def State.spoilLog (s : State) (i : Nat) : State := { s with evLog := s.evLog.spoil i }

/-- Loci a class can name (R339, R342). -/
def classLocus (cls locus : Nat) : Bool :=
  match cls with
  | 1 => decide (0x10 ≤ locus ∧ locus ≤ 0x16)
  | 2 | 3 => decide (1 ≤ locus ∧ locus ≤ 0xA)
  | 4 => locus == 7
  | _ => false

/-- A fault of the thread that owns what was affected, or of none (R343). -/
def State.ownedFault (s : State) (f : FaultReport) (owner : Option Thr) : State :=
  match owner with
  | some q => s.threadFault f.cls f.locus q f.addr
  | none => s.fault f.cls f.locus f.tile f.addr [] none

/-- The thread whose command forms the samples of a target: of the play on it, else of the `flux` level in
effect, while the launch that set it runs (R339, R343). -/
def State.targetOwner (s : State) (g : Tgt) : Option Thr :=
  match s.playingOn g with
  | some p => some p.thr
  | none =>
      match g with
      | .tone .. => none
      | .flux t k => (s.fluxRun t k).owner.bind (fun o =>
          if (s.thread o.1).startedFt = o.2 ∧ (s.thread o.1).st ≠ .idle then some o.1 else none)

/-- The fault of a report, at its site. -/
def State.siteFault (s : State) (f : FaultReport) : State :=
  match f.site with
  | .thread q => s.ownedFault f (some q)
  | .target g => s.ownedFault f (s.targetOwner g)
  | .channel t c =>
      s.ownedFault f (s.pickOwner ((s.plays.filter (fun p => p.tgt.onChannel t c)).map Playing.thr))
  | .window t c => s.ownedFault f (s.pickOwner (s.windowOwners (fun w => w.tile == t && w.c == c)))
  | .bin t b =>
      s.ownedFault f (s.pickOwner (s.windowOwners (fun w => w.tile == t
        && (acqCfg_BIN w.tile w.c).of w.bank.cfg == b)))
  | .patch p => s.ownedFault f (some (s.patchOwner p))
  | .ledger => s.fault f.cls f.locus f.tile f.addr (s.shots.map Shot.id) none
  | .holding t i =>
      match (s.holding.filter (fun r => r.tile == t))[i]? with
      | none => s
      | some r =>
          if r.committed then s
          else
            match r.shot.bind s.shotById with
            | some x => s.fault f.cls f.locus t f.addr [x.id] (some r.thr)
            | none => s
  | .slot n => s.fault f.cls f.locus f.tile n [] none
  | .lane l => s.bulkExhaust l
  | .nowhere => s.fault f.cls f.locus f.tile f.addr [] none

/-- Whether a report names a bin that is neither computed nor forwarded (05 R149). -/
def FaultReport.unformed (f : FaultReport) (s : State) : Bool :=
  match f.site with
  | .bin t b => !(s.binsUsed t).contains b
  | _ => false

/-- A residue mismatch on a bridge word marks the quadrant whose bridge it crossed (01 R20). -/
def State.bridgeMark (s : State) (f : FaultReport) : State :=
  if f.cls = 1 ∧ f.locus = 0x13 then s.putBit dieStatus_QRES_ERR (f.tile / 4) true else s

/-- FAULT_DETECTED (R339-R343, R351): a check fails at a read; class 0 is a single-bit error, corrected in the
read. In a result queue, the event queue of TDC unit `tile`, or the event log (loci 0x20 to 0x22, the model's own
numbers: DESIGN CHOICE, log entry 70) word `addr` loses its parity. The faults of classes 0x05 to 0x08 and the reads of poisoned words that the model meets itself are
raised where they arise. -/
def execFaultDetected (f : FaultReport) (s : State) : Host.Outcome State Fault Refusal :=
  if f.cls = 0 then .next (if 1 ≤ f.locus ∧ f.locus ≤ 0xB then s.bump intCounts_CORRECTED else s)
  else if f.locus = 0x20 then .next (s.spoilRq f.tile f.addr)
  else if f.locus = 0x21 then .next (s.spoilTdc f.tile f.addr)
  else if f.locus = 0x22 then .next (s.spoilLog f.addr)
  else
    match f.site with
    | .lane l => if f.locus = 0x0B then finish (s.bulkExhaust l) else .next s
    | _ =>
        if !classLocus f.cls f.locus then .next s
        else if f.cls = 3 ∧ !s.poisoned f.locus (locusTile f.locus f.tile) f.addr then .next s
        else if f.unformed s then .next s
        else
          let s := if f.cls = 1 then s.bridgeMark f else s.poisonWord f.locus f.tile f.addr
          finish (s.siteFault f)

/-! The scrubber (R341). -/

/-- Arrays that are scrubbed (R339). -/
def scrubbed (locus : Nat) : Bool := decide (1 ≤ locus ∧ locus ≤ 8) || locus == 0xA

/-- Arrays of which the spec does not say what their words hold, so that the read itself says whether a
poisoned word has been written again (R341; DESIGN CHOICE, log entry 113): undo masks behind the ledger, and
what the threads hold. -/
def unmapped (locus addr : Nat) : Bool := (locus == 6 && decide (12 ≤ addr)) || locus == 8

/-- The words of an array, where the spec gives them (R339). -/
def arrayWords (locus : Nat) : Option Nat :=
  match locus with
  | 1 => some 131072
  | 2 => some 8192
  | 3 => some 524288
  | 4 => some 65536
  | 5 => some 32768
  | 7 => some 4096
  | 0xA => some 8192
  | _ => none

/-- Whether the scrubber may read a word of an array now (R341): in address order and from the first again, which
only follows the last where the size is known, and one word in SCRUB_DIV × 8 ticks; 0 stops it. -/
def State.scrubs (s : State) (locus tile addr : Nat) : Bool :=
  let p := Tab.get s.scrubPos (locus, tile) (0, 0)
  scrubbed locus && s.rd intCfg_SCRUB_DIV != 0 && decide (p.2 ≤ s.tick) &&
    match arrayWords locus with
    | some n => decide (addr = p.1 % n)
    | none => decide (addr = p.1 ∨ addr = 0)

/-- Whether a word bears the poison pattern: also one of a decision slot or of a record held. -/
def State.poisonHeld (s : State) (locus tile addr : Nat) : Bool :=
  s.poisoned locus tile addr || (locus == 7 && (s.slot addr).bad)
    || (locus == 0xA && (((s.holding.filter (fun r => r.tile == tile))[addr / 4]?).any HoldRec.bad))

/-- SCRUB_READ (R341): the next word of an array. -/
def execScrubRead (locus tile addr : Nat) (finding : ScrubFinding) (s : State) :
    Host.Outcome State Fault Refusal :=
  if !s.scrubs locus tile addr then .next s
  else
    let next := (addr + 1, s.tick + 8 * s.rd intCfg_SCRUB_DIV)
    let s := { s with scrubPos := Tab.set s.scrubPos (locus, tile) next }
    let w := (locus, locusTile locus tile, addr)
    if s.poisonHeld locus w.2.1 addr && !(unmapped locus addr && decide (finding ≠ .uncorrectable)) then
      .next (s.bump intCounts2_POISON_RD)
    else
      let s := { s with poison := s.poison.filter (fun p => decide (p ≠ w)) }
      match finding with
      | .clean => .next s
      | .corrected => .next (s.bump intCounts_CORRECTED)
      | .uncorrectable => finish ((s.poisonWord locus tile addr).fault 2 locus tile addr [] none)

end Sys2Proof.Machine
end

