-- ==== Sys2Proof/Machine/NeedleAlu.lean ====
section
/-! DEFINITION. The arithmetic, memory, special-register and cursor instructions of a needle
(03 R63, R71, R76). -/

namespace Sys2Proof.Machine

open Fld

/-- `nop` (R76). -/
def execNop (q : Thr) (s : State) : Host.Outcome State Fault Refusal :=
  s.run q 1 (fun t => t)

/-- RD := RA + RB (R76). -/
def execAdd (q : Thr) (rd ra rb : BitVec 5) (s : State) : Host.Outcome State Fault Refusal :=
  s.run q 1 (fun t => t.alu rd ra rb (· + ·))

/-- RD := RA − RB (R76). -/
def execSub (q : Thr) (rd ra rb : BitVec 5) (s : State) : Host.Outcome State Fault Refusal :=
  s.run q 1 (fun t => t.alu rd ra rb (· - ·))

/-- RD := RA and RB (R76). -/
def execAndR (q : Thr) (rd ra rb : BitVec 5) (s : State) : Host.Outcome State Fault Refusal :=
  s.run q 1 (fun t => t.alu rd ra rb (· &&& ·))

/-- RD := RA or RB (R76). -/
def execOrR (q : Thr) (rd ra rb : BitVec 5) (s : State) : Host.Outcome State Fault Refusal :=
  s.run q 1 (fun t => t.alu rd ra rb (· ||| ·))

/-- RD := RA xor RB (R76). -/
def execXorR (q : Thr) (rd ra rb : BitVec 5) (s : State) : Host.Outcome State Fault Refusal :=
  s.run q 1 (fun t => t.alu rd ra rb (· ^^^ ·))

/-- RD := RA shifted left by RB[5:0] (R76). -/
def execShl (q : Thr) (rd ra rb : BitVec 5) (s : State) : Host.Outcome State Fault Refusal :=
  s.run q 1 (fun t => t.alu rd ra rb shiftLeft)

/-- RD := RA shifted right by RB[5:0] (R76). -/
def execShr (q : Thr) (rd ra rb : BitVec 5) (s : State) : Host.Outcome State Fault Refusal :=
  s.run q 1 (fun t => t.alu rd ra rb shiftRight)

/-- RD := RA shifted right arithmetically by RB[5:0] (R76). -/
def execSar (q : Thr) (rd ra rb : BitVec 5) (s : State) : Host.Outcome State Fault Refusal :=
  s.run q 1 (fun t => t.alu rd ra rb shiftArith)

/-- RD := the low 64 bits of RA × RB, cost 3 (R76). -/
def execMul (q : Thr) (rd ra rb : BitVec 5) (s : State) : Host.Outcome State Fault Refusal :=
  s.run q 3 (fun t => t.alu rd ra rb (· * ·))

/-- RD := the signed minimum (R76). -/
def execMinS (q : Thr) (rd ra rb : BitVec 5) (s : State) : Host.Outcome State Fault Refusal :=
  s.run q 1 (fun t => t.alu rd ra rb minWord)

/-- RD := the signed maximum (R76). -/
def execMaxS (q : Thr) (rd ra rb : BitVec 5) (s : State) : Host.Outcome State Fault Refusal :=
  s.run q 1 (fun t => t.alu rd ra rb maxWord)

/-- RD := 1 if RA < RB signed, else 0 (R76). -/
def execSlt (q : Thr) (rd ra rb : BitVec 5) (s : State) : Host.Outcome State Fault Refusal :=
  s.run q 1 (fun t => t.alu rd ra rb (fun a b => flagWord (a.slt b)))

/-- RD := 1 if RA < RB unsigned, else 0 (R76). -/
def execSltu (q : Thr) (rd ra rb : BitVec 5) (s : State) : Host.Outcome State Fault Refusal :=
  s.run q 1 (fun t => t.alu rd ra rb (fun a b => flagWord (a.ult b)))

/-- RD := RA + IMM (R76). -/
def execAddi (q : Thr) (rd ra : BitVec 5) (imm : BitVec 32) (s : State) : Host.Outcome State Fault Refusal :=
  s.run q 1 (fun t => t.alui rd ra imm (· + ·))

/-- RD := RA and IMM (R76). -/
def execAndi (q : Thr) (rd ra : BitVec 5) (imm : BitVec 32) (s : State) : Host.Outcome State Fault Refusal :=
  s.run q 1 (fun t => t.alui rd ra imm (· &&& ·))

/-- RD := RA or IMM (R76). -/
def execOri (q : Thr) (rd ra : BitVec 5) (imm : BitVec 32) (s : State) : Host.Outcome State Fault Refusal :=
  s.run q 1 (fun t => t.alui rd ra imm (· ||| ·))

/-- RD := RA xor IMM (R76). -/
def execXori (q : Thr) (rd ra : BitVec 5) (imm : BitVec 32) (s : State) : Host.Outcome State Fault Refusal :=
  s.run q 1 (fun t => t.alui rd ra imm (· ^^^ ·))

/-- RD := RA shifted left by IMM[5:0] (R76). -/
def execShli (q : Thr) (rd ra : BitVec 5) (imm : BitVec 32) (s : State) : Host.Outcome State Fault Refusal :=
  s.run q 1 (fun t => t.alui rd ra imm shiftLeft)

/-- RD := RA shifted right by IMM[5:0] (R76). -/
def execShri (q : Thr) (rd ra : BitVec 5) (imm : BitVec 32) (s : State) : Host.Outcome State Fault Refusal :=
  s.run q 1 (fun t => t.alui rd ra imm shiftRight)

/-- RD := RA shifted right arithmetically by IMM[5:0] (R76). -/
def execSari (q : Thr) (rd ra : BitVec 5) (imm : BitVec 32) (s : State) : Host.Outcome State Fault Refusal :=
  s.run q 1 (fun t => t.alui rd ra imm shiftArith)

/-- RD := the low 64 bits of RA × IMM, cost 3 (R76). -/
def execMuli (q : Thr) (rd ra : BitVec 5) (imm : BitVec 32) (s : State) : Host.Outcome State Fault Refusal :=
  s.run q 3 (fun t => t.alui rd ra imm (· * ·))

/-- RD := IMM sign-extended (R76). -/
def execLdi (q : Thr) (rd : BitVec 5) (imm : BitVec 32) (s : State) : Host.Outcome State Fault Refusal :=
  s.run q 1 (fun t => t.setReg rd (imm.signExtend 64))

/-- RD[63:32] := IMM, the low half kept (R76). -/
def execLdih (q : Thr) (rd : BitVec 5) (imm : BitVec 32) (s : State) : Host.Outcome State Fault Refusal :=
  s.run q 1 (fun t => t.setReg rd (imm ++ (t.reg rd).setWidth 32))

/-- The word address of `ld` and `st`: (RA + OFF) mod 8,192 (R76). -/
def Thread.dataIndex (t : Thread) (ra : BitVec 5) (off : BitVec 13) : Nat :=
  (t.reg ra + off.setWidth 64).toNat % 8192

/-- RD := data word (R76); a word SECDED cannot correct is a fault of the thread (R339). -/
def execLd (q : Thr) (rd ra : BitVec 5) (off : BitVec 13) (s : State) : Host.Outcome State Fault Refusal :=
  s.issueThen q 2 (fun s =>
    let i := (s.thread q).dataIndex ra off
    if s.poisoned 0x02 q.tile i then .next (s.poisonFault 0x02 q i)
    else .next (s.modThread q (fun t => t.setReg rd (s.memWord .data q.tile i))))

/-- Data word := RB (R76). -/
def execSt (q : Thr) (ra rb : BitVec 5) (off : BitVec 13) (s : State) : Host.Outcome State Fault Refusal :=
  s.issueThen q 2 (fun s =>
    .next (s.setMemWord .data q.tile ((s.thread q).dataIndex ra off) ((s.thread q).reg rb)))

/-- RD := the slot word as it stood before this tick (06 R174); an uncorrectable word reads lost and
is a fault of kind decision lost (12 R340). -/
def execLdd (q : Thr) (rd ra : BitVec 5) (off : BitVec 13) (s : State) : Host.Outcome State Fault Refusal :=
  s.issueThen q 2 (fun s =>
    let n := ((s.thread q).reg ra + off.setWidth 64).toNat % 4096
    if (s.slot n).bad then
      .next ((s.modThread q (fun t => t.setReg rd (blanked (s.slotSeen n) 2))).fault 4 0x07 q.tile n [] none)
    else .next (s.modThread q (fun t => t.setReg rd (s.slotSeen n))))

/-- RD := the ledger bits (X, Z) of a qubit slot before this tick, or 0 (R76, 06 R183); a word of the ledger
that SECDED cannot correct is a fault (12 R339). -/
def execLdf (q : Thr) (rd ra : BitVec 5) (off : BitVec 13) (s : State) : Host.Outcome State Fault Refusal :=
  s.issueThen q 2 (fun s =>
    let n := ((s.thread q).reg ra + off.setWidth 64).toNat
    let s := s.modThread q (fun t => t.setReg rd
      (if n < 384 then BitVec.ofNat 64 (((s.ledgerSeen) >>> (2 * n)).toNat % 4) else 0))
    .next (if n < 384 then s.ledgerRead [n / 32] else s))

/-- G := special register; a reserved index is program error 0x02 (R71). -/
def execMfs (q : Thr) (g sr : BitVec 5) (s : State) : Host.Outcome State Fault Refusal :=
  s.issueThen q 1 (fun s =>
    match s.special q sr.toNat with
    | some w => .next (s.modThread q (fun t => t.setReg g w))
    | none => .next (s.programError q 0x02))

/-- Special register := G; a read-only or reserved index is program error 0x02 (R71). -/
def execMts (q : Thr) (g sr : BitVec 5) (s : State) : Host.Outcome State Fault Refusal :=
  s.issueThen q 1 (fun s =>
    match (s.thread q).setSpecial sr.toNat ((s.thread q).reg g) with
    | some t => .next (s.setThread q t)
    | none => .next (s.programError q 0x02))

/-- TC := RA, TCF := 0 (R76). -/
def execOpAt (q : Thr) (ra : BitVec 5) (s : State) : Host.Outcome State Fault Refusal :=
  s.run q 1 (fun t => { t with tc := t.reg ra, tcf := 0 })

/-- The cursor advances by IMM fine steps (R76). -/
def execAdv (q : Thr) (imm : BitVec 32) (s : State) : Host.Outcome State Fault Refusal :=
  s.run q 1 (fun t => t.setCursor (t.cursor + imm.toInt))

/-- The cursor moves by the signed RA in fine steps (R76). -/
def execAdvr (q : Thr) (ra : BitVec 5) (s : State) : Host.Outcome State Fault Refusal :=
  s.run q 1 (fun t => t.setCursor (t.cursor + (t.reg ra).toInt))

/-- The cursor := WT·16 + IMM (R76). -/
def execAtw (q : Thr) (imm : BitVec 32) (s : State) : Host.Outcome State Fault Refusal :=
  s.run q 1 (fun t => t.setCursor (t.wt.toNat * 16 + imm.toInt))

/-- The cursor := forest time at issue·16 + IMM (R76). -/
def execAtnow (q : Thr) (imm : BitVec 32) (s : State) : Host.Outcome State Fault Refusal :=
  s.run q 1 (fun t => t.setCursor (s.ft.toNat * 16 + imm.toInt))

end Sys2Proof.Machine
end

