-- ==== Sys2Proof/Machine/Roce.lean ====
section
/-! DEFINITION. RoCE packets received, and the result writers (11 R303-R306, R314, R316, R326, R336,
R337). -/

namespace Sys2Proof.Machine

open Fld

/-- The signed distance of two PSNs. -/
def psnDist (a b : BitVec 24) : Int := signedOf 24 (a - b).toNat

/-! Acknowledgements (R303, R326). -/

/-- The bytes of a WRITE that are not acknowledged when packets up to a PSN have been. -/
def OutReq.unacked (r : OutReq) (psn : BitVec 24) : OutReq :=
  { r with left := r.left - 4096 * (packetsOf r.left - (psnDist r.psn psn).toNat) }

/-- WRITEs up to a PSN are acknowledged. -/
def State.ackWrites (s : State) (q : Nat) (psn : BitVec 24) : State :=
  let kept := s.outReqs.filter (fun r => !(r.q == q && r.isWrite && decide (psnDist r.psn psn ≤ 0)))
  { s with outReqs := kept.map (fun r => if r.q == q && r.isWrite then r.unacked psn else r) }

/-- READs whose data have been acknowledged complete (R321, R326). -/
def State.endReads (s : State) (q : Nat) (psn : BitVec 24) : State :=
  let due (w : ReadWait) : Bool := w.q == q && decide (psnDist w.psn psn ≤ 0)
  let ws := s.readWait.filter due
  { s with readWait := s.readWait.filter (fun w => !due w) }.each ws
    (fun s w => s.complete w.ref w.status 0 w.words w.info 0)

/-- Counts whose entries have all been acknowledged may go to their shadows (R326). -/
def State.freeShadows (s : State) (q : Nat) (psn : BitVec 24) : State :=
  { s with shadowWait := s.shadowWait.map (fun (w : ShadowWait) =>
      if w.q == q && w.after.all (fun a => decide (psnDist a psn ≤ 0)) then { w with after := none } else w) }

/-- A request moves on: retries start afresh (R305). -/
def State.progress (s : State) (q : Nat) : State :=
  s.setQp q { s.qp q with retries := 0, rnrRetries := 0, rnrDue := none }

/-- Everything up to a PSN has been acknowledged; retries start afresh where that acknowledges something new. -/
def State.takeAck (s : State) (q : Nat) (psn : BitVec 24) : State :=
  let a := s.ackWrites q psn
  let t := (a.endReads q psn).freeShadows q psn
  if a.outReqs = s.outReqs then t else t.progress q

/-- A retransmission that counts against RETRY_CNT (R305). -/
def State.retry (s : State) (q : Nat) : State :=
  let x := s.qp q
  if x.retries < s.rd (qpCtrl_RETRY_CNT q) then
    (s.setQp q { x with retries := x.retries + 1 }).resend q
  else s.qpFail q 1

/-- A NAK (R304, R305): 0 sequence error, 3 remote access, 4 remote operation; one for an invalid request has no
effect that R304 lists. -/
def State.takeNak (s : State) (q kind : Nat) : State :=
  match kind with
  | 0 => s.retry q
  | 3 => s.qpFail q 3
  | 4 => s.qpFail q 4
  | _ => s

/-- An RNR NAK (R305): the request is sent again after the wait it asks for. -/
def State.takeRnr (s : State) (q : Nat) (timer : BitVec 5) : State :=
  s.setQp q { s.qp q with rnrDue := some (s.tick + rnrWait timer) }

/-! READ responses (R305). -/

/-- The 32-bit samples of little-endian bytes. -/
def samplesOf : Nat → List Byte → List (BitVec 32)
  | 0, _ => []
  | n + 1, bs => BitVec.ofNat 32 (leBytes (bs.take 4)) :: samplesOf n (bs.drop 4)

/-- The first outstanding READ of a queue pair changed, or dropped. -/
def onFirstRead (q : Nat) (f : OutReq → Option OutReq) : List OutReq → List OutReq
  | [] => []
  | r :: rest =>
      if r.q = q ∧ !r.isWrite then
        match f r with
        | some r => r :: rest
        | none => rest
      else r :: onFirstRead q f rest

/-- A READ response: the next one expected is taken, and a gap makes the device re-issue the READ at
once. -/
def State.takeResponse (s : State) (q : Nat) (psn : BitVec 24) (bytes : List Byte) (last : Bool) : State :=
  match s.outReqs.find? (fun r => r.q == q && !r.isWrite) with
  | none => s
  | some r =>
      if 0 < psnDist psn r.psn then (s.bump (qpErr_SEQ_ERR q)).resend q
      else if psn ≠ r.psn then s
      else
        let s := (s.takeAck q (psn - 1)).progress q
        let s := { s with outReqs := onFirstRead q (fun r => some { r with psn := r.psn + 1, sent := s.tick }) s.outReqs }
        match r.kind with
        | .refill t b _ _ =>
            let s := s.takeRefill t b (samplesOf (bytes.length / 4) bytes)
            if last then { s with outReqs := s.outReqs.filter (fun x =>
              !(x.q == q && x.kind == r.kind)) } else s
        | .load ref => s.takeLoad ref bytes
        | .fetch ring n =>
            { s with outReqs := onFirstRead q (fun _ => none) s.outReqs }.takeDescs ring false n
              (wordsOf (8 * n) bytes)
        | .gone => { s with outReqs := onFirstRead q (fun _ => none) s.outReqs }
        | .write => s

/-! Requests (R303). -/

/-- A request, at its PSN: in Dormant it has an RNR NAK (R306); one ahead is a gap and has a NAK, one behind is
acknowledged again and not applied. -/
def State.inOrder (s : State) (q : Nat) (psn : BitVec 24) (f : State → State) : State :=
  let d := psnDist psn (s.qp q).rqPsn
  if s.dormant then s.send (.ack q 1)
  else if d = 0 then f s
  else if 0 < d then (s.bump (qpErr_SEQ_ERR q)).send (.ack q 4)
  else s.send (.ack q 0)

/-- ROCE_PACKET_RX (R303-R306, R314, R316). -/
def execRocePacketRx (q : BitVec 6) (p : RocePacket) (s : State) : Host.Outcome State Fault Refusal :=
  let q := q.toNat
  let rts := s.rd (qpCtrl_STATE q) == qpRtsState
  if !s.qpListens q then .next s
  else if !p.icrcOk then .next (s.bump (linkCounts_ICRC_ERR (s.qpLink q)))
  else
    match p.body with
    | .write addr rkey bytes =>
        .next (s.inOrder q p.psn (fun s =>
          if rkey.toNat ≠ s.rd kenDb_RKEY then s.send (.ack q 3) else s.takeWrite q addr bytes))
    | .send bytes => .next (s.inOrder q p.psn (fun s => s.takeSend q bytes))
    | .unsupported => .next (s.inOrder q p.psn (fun s => s.invalidRequest q))
    | .readResponse bytes last => if rts then finish (s.takeResponse q p.psn bytes last) else .next s
    | .ack => .next (if rts then s.takeAck q p.psn else s)
    | .nak kind => .next (if rts then (s.takeAck q (p.psn - 1)).takeNak q kind else s)
    | .rnrNak timer => .next (if rts then (s.takeAck q (p.psn - 1)).takeRnr q timer else s)

/-! Result writers (R333, R335, R336). -/

/-- Free slots of a result ring. -/
def State.resFree (s : State) (r : Nat) : Nat :=
  let size := ringSize (s.rd (resCfg_LOG2SIZE r))
  size - 1 - (s.rd (resIdx_PI r) + 2 ^ 32 - s.rd (resIdx_CI r)) % size

/-- Slots of a result ring from its count to its end. -/
def State.resRun (s : State) (r : Nat) : Nat :=
  let size := ringSize (s.rd (resCfg_LOG2SIZE r))
  size - s.rd (resIdx_PI r) % size

/-- A record as it is delivered: with POISON where a word's parity fails (R333). -/
def deliveredWords : Bool → List RqWord → List Word
  | _, [] => []
  | bad, w :: rest =>
      (if w.head && bad then w.w ||| 0x100 else w.w) :: deliveredWords bad rest

/-- n records from the head of a queue. -/
def takeRecords : Nat → List RqWord → List Word
  | 0, _ => []
  | n + 1, ws =>
      let r := ws.take 4
      deliveredWords (r.any (fun w => !w.parityOk)) r ++ takeRecords n (ws.drop 4)

/-- Whether a tile's queue has a batch to send: COALESCE records, or HOLDOFF us since the oldest unsent
record entered. -/
def State.batchDue (s : State) (t r : Nat) : Bool :=
  let ws := (s.rq t).words
  let co := max 1 (min 128 (s.rd (resCfg_COALESCE r)))
  decide (4 ≤ ws.length) && (decide (4 * co ≤ ws.length) ||
    match ws[3]? with
    | some w => decide (w.at_ + 1000 * s.rd (resCfg_HOLDOFF r) ≤ s.tick)
    | none => false)

/-- Whether a 0xE0 notice can be posted to its completion ring, or is discarded there (R330, R336): the ring has
room beside what already waits for it, and its queue pair is in RTS. -/
def State.noticeReady (s : State) (ring : Nat) : Bool :=
  s.cplDiscards ring ||
    (decide ((s.cplWait.filter (fun p => p.1 == ring)).length < s.cplFree ring)
      && s.rd (qpCtrl_STATE (s.rd (cplCfg_QP ring))) == qpRtsState)

/-- RESULT_BATCH (R336): whole records of one tile, in queue order, not across the ring's end. -/
def execResultBatch (t : BitVec 4) (s : State) : Host.Outcome State Fault Refusal :=
  let t := t.toNat
  let r := s.rd (rqCfg_RING t)
  let q := s.rd (resCfg_QP r)
  let notify := s.on (resCfg_PRIO r)
  let x := s.rq t
  let n := min (x.words.length / 4) (min 128 (min (s.resFree r) (s.resRun r)))
  if !s.on (rqCfg_DELIVER t) || !s.on (resCfg_EN r) || !s.kenperRuns || !s.canWrite q || n == 0
      || !s.batchDue t r || (notify && !s.noticeReady (s.rd (resCfg_CRING r))) then .next s
  else
    let size := ringSize (s.rd (resCfg_LOG2SIZE r))
    let pi := s.rd (resIdx_PI r)
    let s := s.setRq t { x with words := x.words.drop (4 * n), rp := x.rp + BitVec.ofNat 13 (4 * n) }
    let s := s.rdmaWrite q (s.rd (resCfg_RKEY r))
      (s.reg ⟨.resBase, r, 0, 0⟩ + BitVec.ofNat 64 (32 * (pi % size))) (takeRecords n x.words)
    let s := s.wr (resIdx_PI r) (pi + n)
    let count := s.rd (resIdx_PI r)
    let s := s.shadowAfter q (s.rd (resCfg_RKEY r)) (s.reg ⟨.resShadow, r, 0, 0⟩) count
    if !notify then .next s
    else
      .next (s.postCpl (s.rd (resCfg_CRING r))
        { opcode := 0xE0, status := cplOk, ring := r, source := 2, info32 := count, tick := s.ft.toNat,
          info15 := n, after := some (q, (s.qp q).sqPsn - 1) })

end Sys2Proof.Machine
end

