-- ==== Sys2Proof/Machine/Ptp.lean ====
section
/-! DEFINITION. The PTP message exchange, the best time transmitter choice, the servo, and exchange
records (02 R52-R56; 11 R301, R331). -/

namespace Sys2Proof.Machine

open Fld

/-- Whether PTP runs: enabled, on the first link of its port, with the firmware running (R52). -/
def State.ptpRuns (s : State) : Bool :=
  s.on ptpCfg_ENABLE && s.kenperRuns && !s.dormant && s.linkExists (4 * s.rd ptpCfg_PORT)

/-! Roles (R52). -/

/-- Ticks without a better Announce after which the algorithm makes this clock the transmitter: three
announce intervals of 2 s, the default profiles' (PRESUMED, log entry 82). -/
def announceInterval : Nat := 2000000000
def announceTimeout : Nat := 3 * announceInterval

/-- Whether the device acts as time transmitter, by ROLE or by the algorithm (R52). -/
def State.transmits (s : State) : Bool :=
  match s.rd ptpCfg_ROLE with
  | 1 => false
  | 2 => true
  | _ => s.ptpRun.heard.any (fun k => decide (k + announceTimeout ≤ s.tick))

/-- Whether an announced clock is better than this one: priority1, then class, accuracy and variance, then
priority2, then the identity (R52). -/
def State.betterClock (s : State) (p1 : BitVec 8) (quality : Int) (p2 : BitVec 8) (lower : Bool) : Bool :=
  if p1.toNat ≠ s.rd ptpCfg_PRIORITY1 then decide (p1.toNat < s.rd ptpCfg_PRIORITY1)
  else if quality ≠ 0 then decide (quality < 0)
  else if p2.toNat ≠ s.rd ptpCfg_PRIORITY2 then decide (p2.toNat < s.rd ptpCfg_PRIORITY2)
  else lower

/-- The sync interval as time transmitter, in ticks: 2^LOG_SYNC s, LOG_SYNC limited to −7 to +1 (R52). -/
def State.syncInterval (s : State) : Nat :=
  let l := max (-7) (min 1 (s.rdS ptpCfg_LOG_SYNC))
  if l < 0 then 1000000000 / 2 ^ l.natAbs else 1000000000 * 2 ^ l.natAbs

/-- Whether a Sync is due (R52). -/
def State.syncDue (s : State) : Bool :=
  s.ptpRuns && s.transmits && s.ptpRun.syncAt.all (fun k => decide (k + s.syncInterval ≤ s.tick))

/-- The partners that messages go to (R52): every unicast partner in use under UNICAST, else one multicast
message. -/
def State.ptpPeers (s : State) : List (Option Nat) :=
  if s.on ptpCfg_UNICAST then
    ((List.range 4).filter (fun i => s.on (ptpPeer_ADDR i 0) || s.on (ptpPeer_ADDR i 1))).map some
  else [none]

/-- Whether a message is for this clock: its port, transport, domain, and under UNICAST a partner (R52). -/
def State.ptpTakes (s : State) (m : PtpMessage) : Bool :=
  m.port.toNat == s.rd ptpCfg_PORT && m.transport.toNat == s.rd ptpCfg_TRANSPORT
    && m.domain.toNat == s.rd ptpCfg_DOMAIN
    && (if s.on ptpCfg_UNICAST then m.peer.any (fun i => s.ptpPeers.contains (some i.toNat)) else true)

/-! Timestamps (R53). -/

/-- The corrections of R53 for a port mode and FEC, in 0.1 ns: transmit and receive.  10GBASE-KR has no RS-FEC:
the spec gives that setting no correction (log entry 8, site 8). -/
def ptpCorrection (mode fec : Nat) : Int × Int :=
  match mode, fec with
  | 0, _ => (410, -1683)
  | 1, 0 => (448, -1812)
  | 1, 1 => (397, -986)
  | 1, _ => (312, -359)
  | _, 1 => (512, -1480)
  | _, 2 => (480, -544)
  | _, _ => (Config.unstated 8 [0], Config.unstated 8 [1])

/-- The corrections of the PTP port in use (R53, R301). -/
def State.ptpCorrections (s : State) : Int × Int :=
  let p := s.rd ptpCfg_PORT
  ptpCorrection (s.rd (port_MODE p)) (s.rd (port_FEC p))

/-- A correction in units of 2^-16 ns. -/
def tenths (x : Int) : Int := roundAway ((x * 65536 : Int) / 10)

/-- The PTP time at the MAC, that far after the tick edge (R53). -/
def State.ptpMac (s : State) (phase : BitVec 16) : Int := (s.ptpNow / 65536 + phase.toNat : Nat)

/-- When a message that passes the MAC now leaves or reaches the balls (R53). -/
def State.ptpLeaves (s : State) : PtpTime := .of (s.ptpMac 0 + tenths s.ptpCorrections.1)
def State.ptpComes (s : State) (phase : BitVec 16) : PtpTime := .of (s.ptpMac phase + tenths s.ptpCorrections.2)

/-! Sending (R52). -/

/-- A message with the set-up of the clock. -/
def State.ptpForm (s : State) (kind : Nat) (peer : Option Nat) (seq : BitVec 16) (time : PtpTime) : PtpSent :=
  { kind := kind, port := s.rd ptpCfg_PORT, transport := s.rd ptpCfg_TRANSPORT, domain := s.rd ptpCfg_DOMAIN,
    peer := peer, seq := seq, time := time }

/-- Messages are sent. -/
def State.sendPtp (s : State) (l : List PtpSent) : State := s.each l (fun s m => s.send (.ptp m))

/-- The two messages of a Sync to a partner: two-step, the Follow_Up with the time it left. -/
def State.syncMessages (s : State) (peer : Option Nat) : List PtpSent :=
  let q := s.ptpRun.syncSeq
  let l := max (-7) (min 1 (s.rdS ptpCfg_LOG_SYNC))
  [{ s.ptpForm 0x0 peer q {} with twoStep := true, interval := l },
   { s.ptpForm 0x8 peer q s.ptpLeaves with interval := l }]

/-- An Announce to a partner, with the priorities of the algorithm. -/
def State.announceMessage (s : State) (peer : Option Nat) : PtpSent :=
  { s.ptpForm 0xB peer s.ptpRun.announceSeq {} with
    interval := 1, priority1 := s.rd ptpCfg_PRIORITY1, priority2 := s.rd ptpCfg_PRIORITY2 }

/-- The Announces due with a Sync (R52; their interval is PRESUMED, log entry 82). -/
def State.sendAnnounce (s : State) : State :=
  if s.ptpRun.announceAt.all (fun k => decide (k + announceInterval ≤ s.tick)) then
    let s' := s.sendPtp (s.ptpPeers.map s.announceMessage)
    { s' with ptpRun := { s'.ptpRun with announceSeq := s.ptpRun.announceSeq + 1, announceAt := some s.tick } }
  else s

/-- PTP_SYNC_TX (R52): at each sync interval a Sync, and the Follow_Up with its time: two-step. -/
def execPtpSyncTx (s : State) : Host.Outcome State Fault Refusal :=
  if s.syncDue then
    let s' := s.sendPtp (s.ptpPeers.flatMap s.syncMessages)
    .next ({ s' with ptpRun := { s'.ptpRun with syncSeq := s.ptpRun.syncSeq + 1, syncAt := some s.tick } }).sendAnnounce
  else .next s

/-- PTP_DELAY_REQ_TX (R52): Delay_Req as time receiver; Pdelay_Req under the peer-to-peer mechanism. The
device notes when it left. -/
def execPtpDelayReqTx (s : State) : Host.Outcome State Fault Refusal :=
  let p2p := s.on ptpCfg_DELAY_MECH
  if !s.ptpRuns || (!p2p && s.transmits) then .next s
  else
    let q := s.ptpRun.reqSeq
    let peers : List (Option Nat) := if p2p then s.ptpPeers
      else [s.ptpRun.sync.bind (fun x => x.peer.map BitVec.toNat)]
    let s' := s.sendPtp (peers.map (fun p => s.ptpForm (if p2p then 0x2 else 0x1) p q {}))
    .next { s' with ptpRun := { s'.ptpRun with reqSeq := q + 1, delay := some { seq := q, left := s.ptpLeaves } } }

/-! The offset (R53, R56). -/

/-- `TIME.PTP_ASYM` in units of 2^-16 ns. -/
def State.asymmetry (s : State) : Rat := ((s.rdS ptpAsym_ASYM * 65536 : Int) : Rat) / 1000

/-- The offset of a delay request-response exchange, in 2^-16 ns, with the link's asymmetry in the sense of
the standard: ((t2 − t1 − c) − (t4 − t3 − c'))/2 − asymmetry. -/
def delayOffset (x : PtpSync) (t1 : PtpTime) (d : PtpDelay) (t4 : PtpTime) (asym : Rat) : Rat :=
  (((x.come.count - t1.count - x.corr) - (t4.count - d.left.count - d.corr) : Int) : Rat) / 2 - asym

/-- The offset under the peer-to-peer mechanism: of the Sync, less the peer delay measured. -/
def peerOffset (x : PtpSync) (sent : PtpTime) (d : PtpDelay) (t2 t3 : PtpTime) (asym : Rat) : Rat :=
  ((x.come.count - sent.count - x.corr : Int) : Rat) - asym
    - (((d.come.count - d.left.count) - (t3.count - t2.count) - d.corr : Int) : Rat) / 2

/-- The exchange that the Sync held and the answered request make, if they are complete (R53, R56). -/
def State.exchange (s : State) : Option PtpExchange :=
  match s.ptpRun.sync, s.ptpRun.delay with
  | some x, some d =>
      match x.sent, d.receipt with
      | some sent, some r =>
          if s.on ptpCfg_DELAY_MECH then
            match d.back with
            | some b => some ⟨d.seq, true, d.twoStep, d.left, r, b, d.come, x.corr + d.corr,
                peerOffset x sent d r b s.asymmetry⟩
            | none => none
          else some ⟨d.seq, false, x.twoStep, sent, x.come, d.left, r, x.corr + d.corr,
            delayOffset x sent d r s.asymmetry⟩
      | _, _ => none
  | _, _ => none

/-! The servo (R56). -/

/-- The lock thresholds, for one sync interval's offset in 2^-16 ns. -/
def State.ptpLock (s : State) (offset : Rat) : State :=
  let small := decide (ratAbs offset < 50 * 65536)
  let large := decide (1000 * 65536 < ratAbs offset)
  let s := { s with ptpGood := if small then s.ptpGood + 1 else 0, ptpBad := if large then s.ptpBad + 1 else 0 }
  let s := if 16 ≤ s.ptpGood then s.put timeStatus_PTP_LOCK true else s
  if 4 ≤ s.ptpBad then s.put timeStatus_PTP_LOCK false else s

/-- The servo of MP3: above 1 ms it steps the clock, else it sets INCR; the spec gives neither value (log
entry 8, site 6). -/
def State.servo (s : State) (offset : Rat) : State :=
  let free (k : Nat) : Nat := Config.unstated 6 [s.tick, offset.num, offset.den, k]
  if 1000000 * 65536 < ratAbs offset then s.stepPtp (BitVec.ofNat 64 (free 1))
  else s.wr ptpIncr_INCR (max incrLow (min incrHigh (free 0)))

/-! Exchange records (11 R331). -/

/-- The eight words of a record. -/
def ptpRecord (x : PtpExchange) (ft : Word) : List Word :=
  [BitVec.ofNat 64 (x.seq.toNat + (if x.p2p then 2 ^ 16 else 0) + (if x.twoStep then 2 ^ 17 else 0)),
   x.t1.ns, x.t2.ns, x.t3.ns, x.t4.ns,
   BitVec.ofNat 64 (x.t1.frac.toNat + x.t2.frac.toNat * 2 ^ 16 + x.t3.frac.toNat * 2 ^ 32 + x.t4.frac.toNat * 2 ^ 48),
   BitVec.ofInt 64 x.correction, ft]

/-- A record is written, and its notice follows. -/
def State.writePtpRecord (s : State) (words : List Word) : State :=
  let size := ringSize (s.rd ptprCfg_LOG2SIZE)
  let pi := s.rd ptprIdx_PI
  let q := s.rd ptprCfg_QP
  let rkey := s.rd ptprCfg_RKEY
  let s := s.rdmaWrite q rkey (s.reg ⟨.ptprBase, 0, 0, 0⟩ + BitVec.ofNat 64 (64 * (pi % size))) words
  let after := some (q, (s.qp q).sqPsn - 1)
  let s := s.wr ptprIdx_PI (pi + 1)
  let count := s.rd ptprIdx_PI
  let s := s.shadowAfter q rkey (s.reg ⟨.ptprShadow, 0, 0, 0⟩) count
  if s.on kenEvt_EN then
    s.postCpl (s.rd kenEvt_CRING)
      { opcode := 0xE1, status := cplOk, source := 3, info32 := count, tick := s.ft.toNat, after := after }
  else s.bump kenCounts_CPL_DISCARD

/-- The records of the buffer that the host has not taken, with those still to be written. -/
def State.ptpRecords (s : State) : Nat :=
  let size := ringSize (s.rd ptprCfg_LOG2SIZE)
  (s.rd ptprIdx_PI + 2 ^ 32 - s.rd ptprIdx_CI) % size + s.ptpRun.records.length

/-- A record is formed: one that finds the buffer full, or not in use (DEDUCED, log entry 81), is discarded and
counted; the others are written when their queue pair can (R337). -/
def State.formPtpRecord (s : State) (words : List Word) : State :=
  if !s.on ptprCfg_EN ∨ ringSize (s.rd ptprCfg_LOG2SIZE) ≤ s.ptpRecords + 1 then s.bump kenCounts_PTP_DROP
  else { s with ptpRun.records := s.ptpRun.records ++ [words] }

/-- The records that wait are written in order; of a buffer no longer in use they are discarded and counted. -/
def State.ptprTick (s : State) : State :=
  if s.ptpRun.records.isEmpty then s
  else if !s.on ptprCfg_EN then
    { s with ptpRun.records := [] }.bumpBy kenCounts_PTP_DROP s.ptpRun.records.length
  else
    s.each s.ptpRun.records (fun s ws =>
      if s.canWrite (s.rd ptprCfg_QP) then { s with ptpRun.records := s.ptpRun.records.drop 1 }.writePtpRecord ws
      else s)

/-- An exchange that is complete moves the lock, and the servo or the host takes it (R56; 11 R331). -/
def State.exchanged (s : State) : State :=
  match s.exchange with
  | none => s
  | some x =>
      let s := { s with ptpRun := { s.ptpRun with sync := none, delay := none } }.ptpLock x.offset
      if s.on ptpCfg_SERVO then s.formPtpRecord (ptpRecord x s.ft) else s.servo x.offset

/-! Messages received (R52, R53). -/

/-- The Sync held changes, and the request sent. -/
def State.setSync (s : State) (x : Option PtpSync) : State := { s with ptpRun := { s.ptpRun with sync := x } }
def State.setDelay (s : State) (f : PtpDelay → PtpDelay) : State :=
  { s with ptpRun := { s.ptpRun with delay := s.ptpRun.delay.map f } }

/-- Whether a number is that of the request sent. -/
def State.asked (s : State) (seq : BitVec 16) : Bool := s.ptpRun.delay.any (fun d => d.seq == seq)

/-- A message as time receiver; answers of the delay mechanism not in use are discarded. -/
def State.ptpReceive (s : State) (m : PtpMessage) : State :=
  let p2p := s.on ptpCfg_DELAY_MECH
  match m.body with
  | .sync seq two origin corr =>
      s.setSync (some ⟨seq, if two then none else some origin, s.ptpComes m.phase, corr, two, m.peer⟩)
  | .followUp seq origin corr =>
      s.setSync (s.ptpRun.sync.map (fun x =>
        if x.seq = seq ∧ x.sent.isNone then { x with sent := some origin, corr := x.corr + corr } else x))
  | .delayResp seq receipt corr =>
      if p2p || !s.asked seq then s
      else (s.setDelay (fun d => { d with receipt := some receipt, corr := corr })).exchanged
  | .pdelayResp seq two receipt corr =>
      if !p2p || !s.asked seq then s
      else
        (s.setDelay (fun d => { d with receipt := some receipt, back := if two then none else some receipt,
                                       come := s.ptpComes m.phase, corr := corr, twoStep := two })).exchanged
  | .pdelayRespFollowUp seq origin corr =>
      if !p2p || !s.asked seq then s
      else (s.setDelay (fun d => { d with back := some origin, corr := d.corr + corr })).exchanged
  | _ => s

/-- PTP_MESSAGE_RX (R52-R56): a message for this clock; requests are answered with the time at which they came,
a better clock is noted, management is discarded. -/
def execPtpMessageRx (m : PtpMessage) (s : State) : Host.Outcome State Fault Refusal :=
  if !s.ptpRuns || !s.ptpTakes m then .next s
  else
    let peer := m.peer.map BitVec.toNat
    match m.body with
    | .announce p1 quality p2 lower =>
        if s.betterClock p1 quality p2 lower then
          .next { s with ptpRun := { s.ptpRun with heard := some s.tick } }
        else .next s
    | .delayReq seq _ =>
        if s.transmits && !s.on ptpCfg_DELAY_MECH then
          .next (s.sendPtp [s.ptpForm 0x9 peer seq (s.ptpComes m.phase)])
        else .next s
    | .pdelayReq seq _ =>
        if s.on ptpCfg_DELAY_MECH then
          .next (s.sendPtp [{ s.ptpForm 0x3 peer seq (s.ptpComes m.phase) with twoStep := true },
            s.ptpForm 0xA peer seq s.ptpLeaves])
        else .next s
    | _ => if s.transmits then .next s else .next (s.ptpReceive m)

end Sys2Proof.Machine
end

