-- ==== Sys2Proof/Machine/RegRows.lean ====
section
/-! DEFINITION. The rows that are a write of one register: each lands under the checks of R8-R10, R308
and R311, with the register's own behaviour. -/

namespace Sys2Proof.Machine

open Fld

/-- A write of a register that exists. -/
def State.landRow (s : State) (r : Reg) (w : WriteOp) : Host.Outcome State Fault Refusal :=
  if r.exists then finish (s.land r w) else .next s

/-- A write with a bit set that starts something: another write of the register is another row's. -/
def State.landStrobe (s : State) (f : RField) (w : WriteOp) : Host.Outcome State Fault Refusal :=
  if strobe w.bits f then s.landRow f.reg w else .next s

/-- POWER_REQUEST (01 R22, R26): a write of GLOBAL.PWR. -/
def execPowerRequest (w : WriteOp) (s : State) : Host.Outcome State Fault Refusal :=
  s.landRow ⟨.pwr, 0, 0, 0⟩ w

/-- REF_CFG_WRITE (02 R32): a write of TIME.REF_CFG. -/
def execRefCfgWrite (w : WriteOp) (s : State) : Host.Outcome State Fault Refusal :=
  s.landRow ⟨.refCfg, 0, 0, 0⟩ w

/-- RELOCK (02 R37): a write of RELOCK. -/
def execRelock (w : WriteOp) (s : State) : Host.Outcome State Fault Refusal :=
  s.landStrobe refCfg_RELOCK w

/-- SYNC_ARM_WRITE (02 R43): a write of ARM = 1. -/
def execSyncArmWrite (w : WriteOp) (s : State) : Host.Outcome State Fault Refusal :=
  s.landStrobe syncCtrl_ARM w

/-- SKEW_CAL_START (02 R45): a write of START. -/
def execSkewCalStart (w : WriteOp) (s : State) : Host.Outcome State Fault Refusal :=
  s.landStrobe skewCal_START w

/-- PTP_INCR_WRITE (02 R54): a write of TIME.PTP_INCR. -/
def execPtpIncrWrite (w : WriteOp) (s : State) : Host.Outcome State Fault Refusal :=
  s.landRow ⟨.ptpIncr, 0, 0, 0⟩ w

/-- PTP_STEP (02 R55): a write of TIME.PTP_STEP. -/
def execPtpStep (w : WriteOp) (s : State) : Host.Outcome State Fault Refusal :=
  s.landRow ⟨.ptpStep, 0, 0, 0⟩ w

/-- LATCH_GO (02 R57): a write of GO. -/
def execLatchGo (w : WriteOp) (s : State) : Host.Outcome State Fault Refusal :=
  s.landStrobe latchCtrl_GO w

/-- DIRECTORY_WORD1_WRITE (04 R110): a write to word 1 of a directory entry. -/
def execDirectoryWord1Write (p : BitVec 15) (w : WriteOp) (s : State) :
    Host.Outcome State Fault Refusal :=
  s.landRow ⟨.dirWord1, p.toNat, 0, 0⟩ w

/-- DIRECTORY_COMMIT (04 R110): a write to word 0 of a directory entry. -/
def execDirectoryCommit (p : BitVec 15) (w : WriteOp) (s : State) :
    Host.Outcome State Fault Refusal :=
  s.landRow ⟨.dirWord0, p.toNat, 0, 0⟩ w

/-- SYN_CH_CFG_WRITE (04 R126): a write of a synthesis channel's CFG. -/
def execSynChCfgWrite (t : BitVec 4) (c : BitVec 2) (w : WriteOp) (s : State) :
    Host.Outcome State Fault Refusal :=
  s.landRow ⟨.synCfg, t.toNat, c.toNat, 0⟩ w

/-- BOBBIN_CFG_WRITE (04 R131): a write of a bobbin's CFG. -/
def execBobbinCfgWrite (t : BitVec 4) (b : BitVec 2) (w : WriteOp) (s : State) :
    Host.Outcome State Fault Refusal :=
  s.landRow ⟨.bobCfg, t.toNat, b.toNat, 0⟩ w

/-- BOBBIN_RESET (04 R137; 11 R324): a write of RESET. -/
def execBobbinReset (t : BitVec 4) (b : BitVec 2) (w : WriteOp) (s : State) :
    Host.Outcome State Fault Refusal :=
  s.landStrobe (bobCfg_RESET t.toNat b.toNat) w

/-- ADC_CFG_WRITE (05 R143): a write of ADC.CFG. -/
def execAdcCfgWrite (t : BitVec 4) (w : WriteOp) (s : State) : Host.Outcome State Fault Refusal :=
  s.landRow ⟨.adcCfg, t.toNat, 0, 0⟩ w

/-- CORR_COMMIT (05 R145): a write of ADC.CORR.COMMIT. -/
def execCorrCommit (t : BitVec 4) (w : WriteOp) (s : State) : Host.Outcome State Fault Refusal :=
  s.landStrobe (adcCorr_COMMIT t.toNat) w

/-- CORR_FORCE (05 R147): a write of FORCE. -/
def execCorrForce (t : BitVec 4) (w : WriteOp) (s : State) : Host.Outcome State Fault Refusal :=
  s.landStrobe (adcCorr_FORCE t.toNat) w

/-- DEMOD_COMMIT (05 R159): a write of ACQ.CTRL.COMMIT. -/
def execDemodCommit (t : BitVec 4) (c : BitVec 5) (w : WriteOp) (s : State) :
    Host.Outcome State Fault Refusal :=
  s.landStrobe (acqCtrl_COMMIT t.toNat c.toNat) w

/-- TRAINING_START (05 R161): a write of ACQ_TRAIN.START. -/
def execTrainingStart (t : BitVec 4) (w : WriteOp) (s : State) : Host.Outcome State Fault Refusal :=
  s.landStrobe (trainCtrl_START t.toNat) w

/-- TRAINING_ABORT (05 R162): a write of ABORT. -/
def execTrainingAbort (t : BitVec 4) (w : WriteOp) (s : State) : Host.Outcome State Fault Refusal :=
  s.landStrobe (trainCtrl_ABORT t.toNat) w

/-- TRACE_GO (05 R163): a write of TRACE.CTRL.GO. -/
def execTraceGo (t : BitVec 4) (w : WriteOp) (s : State) : Host.Outcome State Fault Refusal :=
  s.landStrobe (traceCtrl_GO t.toNat) w

/-- DEC_CLEAR (06 R169): a write of DEC.CLEAR. -/
def execDecClear (w : WriteOp) (s : State) : Host.Outcome State Fault Refusal :=
  s.landRow ⟨.decClear, 0, 0, 0⟩ w

/-- PDC_ENABLE (06 R198): a write of EN = 1. -/
def execPdcEnable (w : WriteOp) (s : State) : Host.Outcome State Fault Refusal :=
  s.landStrobe pdcCfg_EN w

/-- LANE_CFG_WRITE (07 R213): a write of a lane's CFG. -/
def execLaneCfgWrite (l : BitVec 5) (w : WriteOp) (s : State) : Host.Outcome State Fault Refusal :=
  s.landRow ⟨.laneCfg, l.toNat, 0, 0⟩ w

/-- BAR_WRITE (07 R231): a write of ESW.BAR. -/
def execBarWrite (b : BitVec 6) (w : WriteOp) (s : State) : Host.Outcome State Fault Refusal :=
  s.landRow ⟨.eswBar, b.toNat, 0, 0⟩ w

/-- DEV_WRITE (07 R200): a write of ESW.ID. -/
def execDevWrite (w : WriteOp) (s : State) : Host.Outcome State Fault Refusal :=
  s.landRow ⟨.eswId, 0, 0, 0⟩ w

/-- BIAS_APPLY (08 R248): a write of BDIE.APPLY. -/
def execBiasApply (d : BitVec 1) (w : WriteOp) (s : State) : Host.Outcome State Fault Refusal :=
  s.landStrobe (bdieApply_APPLY d.toNat) w

/-- FLUX_ENABLE_WRITE (08 R256): a write of FLX.CTRL. -/
def execFluxEnableWrite (t k : BitVec 4) (w : WriteOp) (s : State) :
    Host.Outcome State Fault Refusal :=
  s.landRow ⟨.fluxCtrl, t.toNat, k.toNat, 0⟩ w

/-- FLUX_LVL_WRITE (08 R252): a write of LVL. -/
def execFluxLvlWrite (t k : BitVec 4) (w : WriteOp) (s : State) :
    Host.Outcome State Fault Refusal :=
  s.landRow ⟨.fluxLvl, t.toNat, k.toNat, 0⟩ w

/-- FLUX_COMMIT (08 R257): a write of FLX.CTRL.COMMIT. -/
def execFluxCommit (t k : BitVec 4) (w : WriteOp) (s : State) : Host.Outcome State Fault Refusal :=
  s.landStrobe (fluxCtrl_COMMIT t.toNat k.toNat) w

/-- FLX_FIT_START (08 R259): a write of FLX_FIT.START. -/
def execFlxFitStart (t : BitVec 4) (w : WriteOp) (s : State) : Host.Outcome State Fault Refusal :=
  s.landStrobe (fitCtrl_START t.toNat) w

/-- FLX_FIT_ABORT (08 R259): a write of ABORT. -/
def execFlxFitAbort (t : BitVec 4) (w : WriteOp) (s : State) : Host.Outcome State Fault Refusal :=
  s.landStrobe (fitCtrl_ABORT t.toNat) w

/-- TDC_UNIT_CFG_WRITE (09 R263): a write of a unit's CFG. -/
def execTdcUnitCfgWrite (u : BitVec 4) (w : WriteOp) (s : State) :
    Host.Outcome State Fault Refusal :=
  s.landRow ⟨.tdcCfg, u.toNat, 0, 0⟩ w

/-- TDC_QUEUE_FLUSH (09 R271): a write of FLUSH. -/
def execTdcQueueFlush (u : BitVec 4) (w : WriteOp) (s : State) : Host.Outcome State Fault Refusal :=
  s.landStrobe (tdcQStatus_FLUSH u.toNat) w

/-- MON_START (09 R279): a write of MON.CTRL.START. -/
def execMonStart (d : BitVec 1) (w : WriteOp) (s : State) : Host.Outcome State Fault Refusal :=
  s.landStrobe (monCtrl_START d.toNat) w

/-- MON_URGENT_GO (09 R281): a write of MON.URGENT.GO. -/
def execMonUrgentGo (d : BitVec 1) (w : WriteOp) (s : State) : Host.Outcome State Fault Refusal :=
  s.landStrobe (monUrgent_GO d.toNat) w

/-- SRC_OWN_WRITE (10 R291): a write of SEAM.SRC_OWN. -/
def execSrcOwnWrite (i : BitVec 5) (w : WriteOp) (s : State) : Host.Outcome State Fault Refusal :=
  s.landRow ⟨.srcOwn, i.toNat, 0, 0⟩ w

/-- TIMER_GO (10 R294): a write of GO. -/
def execTimerGo (k : BitVec 4) (w : WriteOp) (s : State) : Host.Outcome State Fault Refusal :=
  s.landStrobe (tmrCfg_GO k.toNat) w

/-- TIMER_STOP (10 R294): a write of STOP. -/
def execTimerStop (k : BitVec 4) (w : WriteOp) (s : State) : Host.Outcome State Fault Refusal :=
  s.landStrobe (tmrCfg_STOP k.toNat) w

/-- LOG_FLUSH (10 R300): a write of FLUSH. -/
def execLogFlush (w : WriteOp) (s : State) : Host.Outcome State Fault Refusal :=
  s.landStrobe logStatus_FLUSH w

/-- HOST_POLICY_WRITE (13 R369): a write of a host policy entry. -/
def execHostPolicyWrite (level : BitVec 3) (w : WriteOp) (s : State) :
    Host.Outcome State Fault Refusal :=
  s.landRow ⟨.hostPolicy, level.toNat, 0, 0⟩ w

/-- SAVE (14 R384): a write of HW.CTRL.SAVE. -/
def execSave (w : WriteOp) (s : State) : Host.Outcome State Fault Refusal :=
  s.landStrobe hwCtrl_SAVE w

/-- FLASH_PROGRAM (14 R380): a write of FLASH.CTRL.PROGRAM. -/
def execFlashProgram (w : WriteOp) (s : State) : Host.Outcome State Fault Refusal :=
  s.landStrobe flashCtrl_PROGRAM w

/-- FLASH_ERASE (14 R380): a write of FLASH.CTRL.ERASE. -/
def execFlashErase (w : WriteOp) (s : State) : Host.Outcome State Fault Refusal :=
  s.landStrobe flashCtrl_ERASE w

/-- REBOOT (14 R374): a write of GLOBAL.BOOT.REBOOT. -/
def execReboot (w : WriteOp) (s : State) : Host.Outcome State Fault Refusal :=
  s.landStrobe globalBoot_REBOOT w

/-- SETUP_LOCK (11 R312): a write of GLOBAL.LOCK.LOCK. -/
def execSetupLock (w : WriteOp) (s : State) : Host.Outcome State Fault Refusal :=
  s.landStrobe globalLock_LOCK w

/-- PORT_CFG_WRITE (11 R301): a write of KEN.PORT. -/
def execPortCfgWrite (p : Bool) (w : WriteOp) (s : State) : Host.Outcome State Fault Refusal :=
  s.landRow ⟨.port, p.toNat, 0, 0⟩ w

/-- THREAD_STOP (03 R100): a write of THR.CTRL with STOP. -/
def execThreadStop (q : Thr) (w : WriteOp) (s : State) : Host.Outcome State Fault Refusal :=
  s.landStrobe (thrCtrl_STOP q.tile q.idx) w

/-- FLUSH_LQ (03 R100): a write of THR.CTRL with FLUSH_LQ. -/
def execFlushLq (q : Thr) (w : WriteOp) (s : State) : Host.Outcome State Fault Refusal :=
  s.landStrobe (thrCtrl_FLUSH_LQ q.tile q.idx) w

/-- RQ_RESET (11 R334): a write of RQ.CTRL.RESET. -/
def execRqReset (t : BitVec 4) (w : WriteOp) (s : State) : Host.Outcome State Fault Refusal :=
  s.landStrobe (rqCtrl_RESET t.toNat) w

/-- RQ_DELIVER_WRITE (11 R335): a write of RQ.CFG. -/
def execRqDeliverWrite (t : BitVec 4) (w : WriteOp) (s : State) :
    Host.Outcome State Fault Refusal :=
  s.landRow ⟨.rqCfg, t.toNat, 0, 0⟩ w

/-- BOBBIN_LOOP_WRITE (04 R134): a write of LOOP_MARK (0), LOOP_END (1) or the register of LOOP_COUNT. -/
def execBobbinLoopWrite (t : BitVec 4) (b which : BitVec 2) (w : WriteOp) (s : State) :
    Host.Outcome State Fault Refusal :=
  let n : RegName := if which = 0 then .bobLoopMark else if which = 1 then .bobLoopEnd else .bobLoop
  s.landRow ⟨n, t.toNat, b.toNat, 0⟩ w

/-- EXP_TIMER_WRITE (07 R226): a write of an expectation timer's first word, or of its second. -/
def execExpTimerWrite (e : BitVec 6) (word : Bool) (w : WriteOp) (s : State) :
    Host.Outcome State Fault Refusal :=
  s.landRow ⟨if word then .eswExp1 else .eswExp0, e.toNat, 0, 0⟩ w

/-- BIAS_LINK_COMMAND (01 R18): a write of a register of a bias die, repeated so many times by the link. -/
def execBiasLinkCommand (d : BitVec 1) (addr : Nat) (w : WriteOp) (errors : BitVec 4) (s : State) :
    Host.Outcome State Fault Refusal :=
  match Reg.ofAddr addr with
  | none => .next s
  | some r => if r.onBiasDie && r.die == d.toNat then finish (s.writeReg r w errors.toNat).1 else .next s

/-- BIAS_OUTPUT_WRITE (08 R240, R248): a write of a bias output's CODE, or of the register of its RANGE and
TRIM. -/
def execBiasOutputWrite (d : BitVec 1) (b : BitVec 8) (code : Bool) (w : WriteOp) (s : State) :
    Host.Outcome State Fault Refusal :=
  s.landRow ⟨if code then .biasCode else .biasCfg, d.toNat, b.toNat, 0⟩ w

/-- STAT_GO (09 R273): a write of STAT_CTRL.GO of a precision unit. -/
def execStatGo (u : BitVec 4) (w : WriteOp) (s : State) : Host.Outcome State Fault Refusal :=
  if precision u.toNat then s.landStrobe (statCtrl_GO (u.toNat - 8)) w else .next s

/-- SEAM_CH_WRITE (10 R288-R290, R293): a write of a seam channel or a word of a tack cell. -/
def execSeamChWrite (addr : Nat) (w : WriteOp) (s : State) : Host.Outcome State Fault Refusal :=
  match Reg.ofAddr addr with
  | none => .next s
  | some r =>
      match r.name with
      | .seamCh | .tack0 | .tack1 => finish (s.land r w)
      | _ => .next s

/-- CLAIM_WRITE (10 R296): a write of a claim register. -/
def execClaimWrite (addr : Nat) (w : WriteOp) (s : State) : Host.Outcome State Fault Refusal :=
  match Reg.ofAddr addr with
  | none => .next s
  | some r =>
      match r.name with
      | .claimMk | .claimTmr | .claimTdc | .claimLog => finish (s.land r w)
      | _ => .next s

/-- REGISTER_WRITE (R8-R10, R28): a write at an address; without a register there, no effect. -/
def execRegisterWrite (addr : Nat) (w : WriteOp) (s : State) : Host.Outcome State Fault Refusal :=
  finish (s.landAt addr w)

/-- COUNTER_CLEAR (R9): a write of a register with CLR set. -/
def execCounterClear (addr : Nat) (w : WriteOp) (s : State) : Host.Outcome State Fault Refusal :=
  match Reg.ofAddr addr with
  | none => .next s
  | some r => if r.name.hasClr && w.bits.getLsbD 63 then finish (s.land r w) else .next s

/-- A write of a queue pair's CTRL with a value of STATE (11 R304). -/
def State.landQp (s : State) (q : BitVec 6) (st : Nat) (w : WriteOp) : Host.Outcome State Fault Refusal :=
  if w.half ≠ .high ∧ bitsOf w.bits 0 3 = st then s.landRow ⟨.qpCtrl, q.toNat, 0, 0⟩ w else .next s

/-- QP_RESET (11 R304): a write of STATE = Reset. -/
def execQpReset (q : BitVec 6) (w : WriteOp) (s : State) : Host.Outcome State Fault Refusal :=
  s.landQp q qpResetState w

/-- QP_INIT (11 R304): a write of STATE = Init. -/
def execQpInit (q : BitVec 6) (w : WriteOp) (s : State) : Host.Outcome State Fault Refusal :=
  s.landQp q qpInitState w

/-- QP_RTR (11 R304): a write of STATE = RTR. -/
def execQpRtr (q : BitVec 6) (w : WriteOp) (s : State) : Host.Outcome State Fault Refusal :=
  s.landQp q qpRtrState w

/-- QP_RTS (11 R304): a write of STATE = RTS. -/
def execQpRts (q : BitVec 6) (w : WriteOp) (s : State) : Host.Outcome State Fault Refusal :=
  s.landQp q qpRtsState w

/-- RING_CFG_WRITE (11 R313): a write of the +0x00 word of a ring; the PTP record buffer is one. -/
def execRingCfgWrite (kind : RingKind) (r : BitVec 6) (w : WriteOp) (s : State) :
    Host.Outcome State Fault Refusal :=
  s.landRow ⟨kind.cfg, if kind = .ptpr then 0 else r.toNat, 0, 0⟩ w

end Sys2Proof.Machine
end

