-- ==== Sys2Proof/Machine/Dispatch.lean ====
section
/-! DEFINITION. One arm per constructor of Instr. -/

namespace Sys2Proof.Machine

/-- The effect of a command on everything but the queue. -/
def exec (i : Instr) (s : State) : Host.Outcome State Fault Refusal :=
  match i with
  | .nop q => Sys2Proof.Machine.execNop q s
  | .add q rd ra rb => Sys2Proof.Machine.execAdd q rd ra rb s
  | .sub q rd ra rb => Sys2Proof.Machine.execSub q rd ra rb s
  | .andR q rd ra rb => Sys2Proof.Machine.execAndR q rd ra rb s
  | .orR q rd ra rb => Sys2Proof.Machine.execOrR q rd ra rb s
  | .xorR q rd ra rb => Sys2Proof.Machine.execXorR q rd ra rb s
  | .shl q rd ra rb => Sys2Proof.Machine.execShl q rd ra rb s
  | .shr q rd ra rb => Sys2Proof.Machine.execShr q rd ra rb s
  | .sar q rd ra rb => Sys2Proof.Machine.execSar q rd ra rb s
  | .mul q rd ra rb => Sys2Proof.Machine.execMul q rd ra rb s
  | .minS q rd ra rb => Sys2Proof.Machine.execMinS q rd ra rb s
  | .maxS q rd ra rb => Sys2Proof.Machine.execMaxS q rd ra rb s
  | .slt q rd ra rb => Sys2Proof.Machine.execSlt q rd ra rb s
  | .sltu q rd ra rb => Sys2Proof.Machine.execSltu q rd ra rb s
  | .addi q rd ra imm => Sys2Proof.Machine.execAddi q rd ra imm s
  | .andi q rd ra imm => Sys2Proof.Machine.execAndi q rd ra imm s
  | .ori q rd ra imm => Sys2Proof.Machine.execOri q rd ra imm s
  | .xori q rd ra imm => Sys2Proof.Machine.execXori q rd ra imm s
  | .shli q rd ra imm => Sys2Proof.Machine.execShli q rd ra imm s
  | .shri q rd ra imm => Sys2Proof.Machine.execShri q rd ra imm s
  | .sari q rd ra imm => Sys2Proof.Machine.execSari q rd ra imm s
  | .muli q rd ra imm => Sys2Proof.Machine.execMuli q rd ra imm s
  | .ldi q rd imm => Sys2Proof.Machine.execLdi q rd imm s
  | .ldih q rd imm => Sys2Proof.Machine.execLdih q rd imm s
  | .ld q rd ra off => Sys2Proof.Machine.execLd q rd ra off s
  | .st q ra rb off => Sys2Proof.Machine.execSt q ra rb off s
  | .ldd q rd ra off => Sys2Proof.Machine.execLdd q rd ra off s
  | .ldf q rd ra off => Sys2Proof.Machine.execLdf q rd ra off s
  | .mfs q g sr => Sys2Proof.Machine.execMfs q g sr s
  | .mts q g sr => Sys2Proof.Machine.execMts q g sr s
  | .opAt q ra => Sys2Proof.Machine.execOpAt q ra s
  | .adv q imm => Sys2Proof.Machine.execAdv q imm s
  | .advr q ra => Sys2Proof.Machine.execAdvr q ra s
  | .atw q imm => Sys2Proof.Machine.execAtw q imm s
  | .atnow q imm => Sys2Proof.Machine.execAtnow q imm s
  | .jmp q target => Sys2Proof.Machine.execJmp q target s
  | .beq q ra rb target => Sys2Proof.Machine.execBeq q ra rb target s
  | .bne q ra rb target => Sys2Proof.Machine.execBne q ra rb target s
  | .blt q ra rb target => Sys2Proof.Machine.execBlt q ra rb target s
  | .bge q ra rb target => Sys2Proof.Machine.execBge q ra rb target s
  | .bltu q ra rb target => Sys2Proof.Machine.execBltu q ra rb target s
  | .bgeu q ra rb target => Sys2Proof.Machine.execBgeu q ra rb target s
  | .bbs q ra aux target => Sys2Proof.Machine.execBbs q ra aux target s
  | .bbc q ra aux target => Sys2Proof.Machine.execBbc q ra aux target s
  | .bdv q ra aux target => Sys2Proof.Machine.execBdv q ra aux target s
  | .bdn q ra aux target => Sys2Proof.Machine.execBdn q ra aux target s
  | .bws q aux target => Sys2Proof.Machine.execBws q aux target s
  | .loop q aux target => Sys2Proof.Machine.execLoop q aux target s
  | .call q target => Sys2Proof.Machine.execCall q target s
  | .ret q => Sys2Proof.Machine.execRet q s
  | .jr q ra => Sys2Proof.Machine.execJr q ra s
  | .play q sm d rs src tgt pat scale => Sys2Proof.Machine.execPlay q sm d rs src tgt pat scale s
  | .jseg q sm d rs src tgt pat scale => Sys2Proof.Machine.execJseg q sm d rs src tgt pat scale s
  | .stage q sm tgt pat => Sys2Proof.Machine.execStage q sm tgt pat s
  | .setf q sm src tgt => Sys2Proof.Machine.execSetf q sm src tgt s
  | .setp q sm rs src tgt val => Sys2Proof.Machine.execSetp q sm rs src tgt val s
  | .vz q sm rs src tgt val => Sys2Proof.Machine.execVz q sm rs src tgt val s
  | .acq q sm mask len => Sys2Proof.Machine.execAcq q sm mask len s
  | .mark q sm act m width => Sys2Proof.Machine.execMark q sm act m width s
  | .flux q sm rs src tgt val => Sys2Proof.Machine.execFlux q sm rs src tgt val s
  | .emit q sm ev => Sys2Proof.Machine.execEmit q sm ev s
  | .wtrig q n tmo => Sys2Proof.Machine.execWtrig q n tmo s
  | .arm q n => Sys2Proof.Machine.execArm q n s
  | .wdec q rd idx f tmo => Sys2Proof.Machine.execWdec q rd idx f tmo s
  | .wbar q b tmo => Sys2Proof.Machine.execWbar q b tmo s
  | .wptp q ra => Sys2Proof.Machine.execWptp q ra s
  | .wq q => Sys2Proof.Machine.execWq q s
  | .shotBegin q rep joint blk bar reset => Sys2Proof.Machine.execShotBegin q rep joint blk bar reset s
  | .shotEnd q => Sys2Proof.Machine.execShotEnd q s
  | .opEnd q => Sys2Proof.Machine.execOpEnd q s
  | .illegalInstruction q => Sys2Proof.Machine.execIllegalInstruction q s
  | .timedDispatch q => Sys2Proof.Machine.execTimedDispatch q s
  | .patternEnd tgt => Sys2Proof.Machine.execPatternEnd tgt s
  | .markerPulseEnd tile m => Sys2Proof.Machine.execMarkerPulseEnd tile m s
  | .waitTimeout q => Sys2Proof.Machine.execWaitTimeout q s
  | .threadWake q => Sys2Proof.Machine.execThreadWake q s
  | .triggerArrival q n => Sys2Proof.Machine.execTriggerArrival q n s
  | .barrierRelease b => Sys2Proof.Machine.execBarrierRelease b s
  | .ptpTimeDue q => Sys2Proof.Machine.execPtpTimeDue q s
  | .launchStart q => Sys2Proof.Machine.execLaunchStart q s
  | .drainComplete q => Sys2Proof.Machine.execDrainComplete q s
  | .faultCompletion q => Sys2Proof.Machine.execFaultCompletion q s
  | .shotCommit id => Sys2Proof.Machine.execShotCommit id s
  | .pauseEnd q => Sys2Proof.Machine.execPauseEnd q s
  | .faultDetected f => Sys2Proof.Machine.execFaultDetected f s
  | .replayResume q => Sys2Proof.Machine.execReplayResume q s
  | .leaveActive => Sys2Proof.Machine.execLeaveActive s
  | .powerTransitionComplete => Sys2Proof.Machine.execPowerTransitionComplete s
  | .wakeEvent => Sys2Proof.Machine.execWakeEvent s
  | .pllLock => Sys2Proof.Machine.execPllLock s
  | .refLost => Sys2Proof.Machine.execRefLost s
  | .refOkRestore => Sys2Proof.Machine.execRefOkRestore s
  | .syncEdge e => Sys2Proof.Machine.execSyncEdge e s
  | .forestTimeLoad => Sys2Proof.Machine.execForestTimeLoad s
  | .xtalAgeingUpdate => Sys2Proof.Machine.execXtalAgeingUpdate s
  | .xtalAccumCommit => Sys2Proof.Machine.execXtalAccumCommit s
  | .skewCalDone m => Sys2Proof.Machine.execSkewCalDone m s
  | .ptpMessageRx m => Sys2Proof.Machine.execPtpMessageRx m s
  | .ptpSyncTx => Sys2Proof.Machine.execPtpSyncTx s
  | .counterLowRead req addr => Sys2Proof.Machine.execCounterLowRead req addr s
  | .bobbinRefillRequest t b => Sys2Proof.Machine.execBobbinRefillRequest t b s
  | .bobbinRefillData t b data => Sys2Proof.Machine.execBobbinRefillData t b data s
  | .bobbinLoopJump t b => Sys2Proof.Machine.execBobbinLoopJump t b s
  | .adcOverRange t slice input => Sys2Proof.Machine.execAdcOverRange t slice input s
  | .corrPeriodCopy t est => Sys2Proof.Machine.execCorrPeriodCopy t est s
  | .corrApply t => Sys2Proof.Machine.execCorrApply t s
  | .windowOpen t c => Sys2Proof.Machine.execWindowOpen t c s
  | .windowEnd t c codes => Sys2Proof.Machine.execWindowEnd t c codes s
  | .demodBankApply t c => Sys2Proof.Machine.execDemodBankApply t c s
  | .trainingDone t => Sys2Proof.Machine.execTrainingDone t s
  | .traceTrigger t => Sys2Proof.Machine.execTraceTrigger t s
  | .traceDone t samples => Sys2Proof.Machine.execTraceDone t samples s
  | .frame d => Sys2Proof.Machine.execFrame d s
  | .patchAssembly p => Sys2Proof.Machine.execPatchAssembly p s
  | .patchResult p => Sys2Proof.Machine.execPatchResult p s
  | .defectForwardRx f => Sys2Proof.Machine.execDefectForwardRx f s
  | .laneLossOfSignal l => Sys2Proof.Machine.execLaneLossOfSignal l s
  | .laneDetect l signal => Sys2Proof.Machine.execLaneDetect l signal s
  | .laneTrained l preset ctle taps => Sys2Proof.Machine.execLaneTrained l preset ctle taps s
  | .laneLocked l scr => Sys2Proof.Machine.execLaneLocked l scr s
  | .laneAligned l skew => Sys2Proof.Machine.execLaneAligned l skew s
  | .laneExchanged l dev lane trips => Sys2Proof.Machine.execLaneExchanged l dev lane trips s
  | .laneStateTimeout l => Sys2Proof.Machine.execLaneStateTimeout l s
  | .quietBackoffEnd l => Sys2Proof.Machine.execQuietBackoffEnd l s
  | .eqGuardPeriod l transitions exc ctle taps => Sys2Proof.Machine.execEqGuardPeriod l transitions exc ctle taps s
  | .markerTx l => Sys2Proof.Machine.execMarkerTx l s
  | .markerRx l wire arrival frac => Sys2Proof.Machine.execMarkerRx l wire arrival frac s
  | .stitchTx l => Sys2Proof.Machine.execStitchTx l s
  | .decisionStitchRx l wire => Sys2Proof.Machine.execDecisionStitchRx l wire s
  | .expectationTick l r => Sys2Proof.Machine.execExpectationTick l r s
  | .laneLoss l => Sys2Proof.Machine.execLaneLoss l s
  | .bulkStitchRx l wire => Sys2Proof.Machine.execBulkStitchRx l wire s
  | .bulkRetransmit l => Sys2Proof.Machine.execBulkRetransmit l s
  | .bulkRetryExhausted l => Sys2Proof.Machine.execBulkRetryExhausted l s
  | .arrive l b gen tick => Sys2Proof.Machine.execArrive l b gen tick s
  | .release l b gen tick => Sys2Proof.Machine.execRelease l b gen tick s
  | .unpickRx l b gen tick => Sys2Proof.Machine.execUnpickRx l b gen tick s
  | .pauseRx l b gen len => Sys2Proof.Machine.execPauseRx l b gen len s
  | .down l dev tick => Sys2Proof.Machine.execDown l dev tick s
  | .up l dev tick => Sys2Proof.Machine.execUp l dev tick s
  | .biasUpdate d loads => Sys2Proof.Machine.execBiasUpdate d loads s
  | .biasClrN low samples => Sys2Proof.Machine.execBiasClrN low samples s
  | .biasDieReady d => Sys2Proof.Machine.execBiasDieReady d s
  | .parkTableTimeout d => Sys2Proof.Machine.execParkTableTimeout d s
  | .parkTableRx d table => Sys2Proof.Machine.execParkTableRx d table s
  | .biasDriftTrack d b => Sys2Proof.Machine.execBiasDriftTrack d b s
  | .fluxBankApply t k => Sys2Proof.Machine.execFluxBankApply t k s
  | .flxFitDone t => Sys2Proof.Machine.execFlxFitDone t s
  | .tdcEdge n frac => Sys2Proof.Machine.execTdcEdge n frac s
  | .tdcWindowExpiry u => Sys2Proof.Machine.execTdcWindowExpiry u s
  | .tdcHeldStopExpiry u => Sys2Proof.Machine.execTdcHeldStopExpiry u s
  | .tdcRecoveryEnd u => Sys2Proof.Machine.execTdcRecoveryEnd u s
  | .tdcRecalibrate u => Sys2Proof.Machine.execTdcRecalibrate u s
  | .tdcQueuePop u req => Sys2Proof.Machine.execTdcQueuePop u req s
  | .ptCalEdge => Sys2Proof.Machine.execPtCalEdge s
  | .monTimerStart d => Sys2Proof.Machine.execMonTimerStart d s
  | .monSeamStart d => Sys2Proof.Machine.execMonSeamStart d s
  | .monConversionDone d signal => Sys2Proof.Machine.execMonConversionDone d signal s
  | .seamEvent src => Sys2Proof.Machine.execSeamEvent src s
  | .tackFilterExpiry n => Sys2Proof.Machine.execTackFilterExpiry n s
  | .timerOrigin k => Sys2Proof.Machine.execTimerOrigin k s
  | .timerExpiry k => Sys2Proof.Machine.execTimerExpiry k s
  | .logPop req => Sys2Proof.Machine.execLogPop req s
  | .kenperMDatagram link src port bytes => Sys2Proof.Machine.execKenperMDatagram link src port bytes s
  | .linkChange l up => Sys2Proof.Machine.execLinkChange l up s
  | .qpError q cause => Sys2Proof.Machine.execQpError q cause s
  | .ackTimeout q => Sys2Proof.Machine.execAckTimeout q s
  | .rocePacketRx q p => Sys2Proof.Machine.execRocePacketRx q p s
  | .ecnCeRx q => Sys2Proof.Machine.execEcnCeRx q s
  | .cnpRx q => Sys2Proof.Machine.execCnpRx q s
  | .rateRecovery q => Sys2Proof.Machine.execRateRecovery q s
  | .doorbell q addr bytes => Sys2Proof.Machine.execDoorbell q addr bytes s
  | .inlineSend q bytes => Sys2Proof.Machine.execInlineSend q bytes s
  | .descriptorFetch r => Sys2Proof.Machine.execDescriptorFetch r s
  | .descriptorBegin r => Sys2Proof.Machine.execDescriptorBegin r s
  | .descNop d => Sys2Proof.Machine.execDescNop d s
  | .badDescriptor d => Sys2Proof.Machine.execBadDescriptor d s
  | .regWrite d => Sys2Proof.Machine.execRegWrite d s
  | .param d => Sys2Proof.Machine.execParam d s
  | .paramApply q => Sys2Proof.Machine.execParamApply q s
  | .load d => Sys2Proof.Machine.execLoad d s
  | .loadData r index bytes => Sys2Proof.Machine.execLoadData r index bytes s
  | .read d => Sys2Proof.Machine.execRead d s
  | .share d => Sys2Proof.Machine.execShare d s
  | .shareAck r index status => Sys2Proof.Machine.execShareAck r index status s
  | .launch d => Sys2Proof.Machine.execLaunch d s
  | .feed d => Sys2Proof.Machine.execFeed d s
  | .completionWrite => Sys2Proof.Machine.execCompletionWrite s
  | .holdingAreaMove t => Sys2Proof.Machine.execHoldingAreaMove t s
  | .resultBatch t => Sys2Proof.Machine.execResultBatch t s
  | .rqPop t req => Sys2Proof.Machine.execRqPop t req s
  | .scrubRead locus tile addr finding => Sys2Proof.Machine.execScrubRead locus tile addr finding s
  | .modelUpdate sens => Sys2Proof.Machine.execModelUpdate sens s
  | .diodeRead readings => Sys2Proof.Machine.execDiodeRead readings s
  | .heartwoodWriteStart => Sys2Proof.Machine.execHeartwoodWriteStart s
  | .heartwoodWriteDone ok => Sys2Proof.Machine.execHeartwoodWriteDone ok s
  | .heartwoodWriteReject => Sys2Proof.Machine.execHeartwoodWriteReject s
  | .flashOpDone error => Sys2Proof.Machine.execFlashOpDone error s
  | .supplyGood least => Sys2Proof.Machine.execSupplyGood least s
  | .biasSupplyGood d least => Sys2Proof.Machine.execBiasSupplyGood d least s
  | .railFall rail mv => Sys2Proof.Machine.execRailFall rail mv s
  | .rstN low samples => Sys2Proof.Machine.execRstN low samples s
  | .boot => Sys2Proof.Machine.execBoot s
  | .firmwareVerified image => Sys2Proof.Machine.execFirmwareVerified image s
  | .bootComplete => Sys2Proof.Machine.execBootComplete s
  | .quadrantReady q => Sys2Proof.Machine.execQuadrantReady q s
  | .trainingStitchRx l => Sys2Proof.Machine.execTrainingStitchRx l s
  | .stitchSlotInvalid l => Sys2Proof.Machine.execStitchSlotInvalid l s
  | .ptpDelayReqTx => Sys2Proof.Machine.execPtpDelayReqTx s
  | .rnrRetryTimer q => Sys2Proof.Machine.execRnrRetryTimer q s
  | .ethernetFrameRx l f => Sys2Proof.Machine.execEthernetFrameRx l f s
  | .kenperMResponse => Sys2Proof.Machine.execKenperMResponse s
  | .adcCodeClip t slice code => Sys2Proof.Machine.execAdcCodeClip t slice code s
  | .threadStop q w => Sys2Proof.Machine.execThreadStop q w s
  | .flushLq q w => Sys2Proof.Machine.execFlushLq q w s
  | .powerRequest w => Sys2Proof.Machine.execPowerRequest w s
  | .refCfgWrite w => Sys2Proof.Machine.execRefCfgWrite w s
  | .relock w => Sys2Proof.Machine.execRelock w s
  | .syncArmWrite w => Sys2Proof.Machine.execSyncArmWrite w s
  | .skewCalStart w => Sys2Proof.Machine.execSkewCalStart w s
  | .ptpIncrWrite w => Sys2Proof.Machine.execPtpIncrWrite w s
  | .ptpStep w => Sys2Proof.Machine.execPtpStep w s
  | .latchGo w => Sys2Proof.Machine.execLatchGo w s
  | .directoryWord1Write p w => Sys2Proof.Machine.execDirectoryWord1Write p w s
  | .directoryCommit p w => Sys2Proof.Machine.execDirectoryCommit p w s
  | .synChCfgWrite t c w => Sys2Proof.Machine.execSynChCfgWrite t c w s
  | .bobbinCfgWrite t b w => Sys2Proof.Machine.execBobbinCfgWrite t b w s
  | .bobbinReset t b w => Sys2Proof.Machine.execBobbinReset t b w s
  | .bobbinLoopWrite t b which w => Sys2Proof.Machine.execBobbinLoopWrite t b which w s
  | .adcCfgWrite t w => Sys2Proof.Machine.execAdcCfgWrite t w s
  | .corrCommit t w => Sys2Proof.Machine.execCorrCommit t w s
  | .corrForce t w => Sys2Proof.Machine.execCorrForce t w s
  | .demodCommit t c w => Sys2Proof.Machine.execDemodCommit t c w s
  | .trainingStart t w => Sys2Proof.Machine.execTrainingStart t w s
  | .trainingAbort t w => Sys2Proof.Machine.execTrainingAbort t w s
  | .traceGo t w => Sys2Proof.Machine.execTraceGo t w s
  | .decClear w => Sys2Proof.Machine.execDecClear w s
  | .pdcEnable w => Sys2Proof.Machine.execPdcEnable w s
  | .laneCfgWrite l w => Sys2Proof.Machine.execLaneCfgWrite l w s
  | .expTimerWrite e word w => Sys2Proof.Machine.execExpTimerWrite e word w s
  | .barWrite b w => Sys2Proof.Machine.execBarWrite b w s
  | .devWrite w => Sys2Proof.Machine.execDevWrite w s
  | .biasLinkCommand d addr w errors => Sys2Proof.Machine.execBiasLinkCommand d addr w errors s
  | .biasApply d w => Sys2Proof.Machine.execBiasApply d w s
  | .biasOutputWrite d b code w => Sys2Proof.Machine.execBiasOutputWrite d b code w s
  | .fluxEnableWrite t k w => Sys2Proof.Machine.execFluxEnableWrite t k w s
  | .fluxLvlWrite t k w => Sys2Proof.Machine.execFluxLvlWrite t k w s
  | .fluxCommit t k w => Sys2Proof.Machine.execFluxCommit t k w s
  | .flxFitStart t w => Sys2Proof.Machine.execFlxFitStart t w s
  | .flxFitAbort t w => Sys2Proof.Machine.execFlxFitAbort t w s
  | .tdcUnitCfgWrite u w => Sys2Proof.Machine.execTdcUnitCfgWrite u w s
  | .tdcQueueFlush u w => Sys2Proof.Machine.execTdcQueueFlush u w s
  | .statGo u w => Sys2Proof.Machine.execStatGo u w s
  | .monStart d w => Sys2Proof.Machine.execMonStart d w s
  | .monUrgentGo d w => Sys2Proof.Machine.execMonUrgentGo d w s
  | .seamChWrite addr w => Sys2Proof.Machine.execSeamChWrite addr w s
  | .srcOwnWrite n w => Sys2Proof.Machine.execSrcOwnWrite n w s
  | .timerGo k w => Sys2Proof.Machine.execTimerGo k w s
  | .timerStop k w => Sys2Proof.Machine.execTimerStop k w s
  | .claimWrite addr w => Sys2Proof.Machine.execClaimWrite addr w s
  | .logFlush w => Sys2Proof.Machine.execLogFlush w s
  | .registerWrite addr w => Sys2Proof.Machine.execRegisterWrite addr w s
  | .counterClear addr w => Sys2Proof.Machine.execCounterClear addr w s
  | .setupLock w => Sys2Proof.Machine.execSetupLock w s
  | .portCfgWrite p w => Sys2Proof.Machine.execPortCfgWrite p w s
  | .qpReset q w => Sys2Proof.Machine.execQpReset q w s
  | .qpInit q w => Sys2Proof.Machine.execQpInit q w s
  | .qpRtr q w => Sys2Proof.Machine.execQpRtr q w s
  | .qpRts q w => Sys2Proof.Machine.execQpRts q w s
  | .ringCfgWrite kind r w => Sys2Proof.Machine.execRingCfgWrite kind r w s
  | .rqReset t w => Sys2Proof.Machine.execRqReset t w s
  | .rqDeliverWrite t w => Sys2Proof.Machine.execRqDeliverWrite t w s
  | .hostPolicyWrite level w => Sys2Proof.Machine.execHostPolicyWrite level w s
  | .save w => Sys2Proof.Machine.execSave w s
  | .flashProgram w => Sys2Proof.Machine.execFlashProgram w s
  | .flashErase w => Sys2Proof.Machine.execFlashErase w s
  | .reboot w => Sys2Proof.Machine.execReboot w s

end Sys2Proof.Machine
end

