-- ==== Sys2Proof/Decode.lean ====
section
/-! DEFINITION. The words of the needle's instructions (03 R76): what a needle issues from
instruction memory.  The opcode table of the commands gives no bits. -/

namespace Sys2Proof

open Machine

/-- The command that a word of the opcode table spells: the table gives no row any bits. -/
def decodeTableWord (_nbits _w : Nat) : Option Instr := none

/-- The instruction of a thread that an instruction word holds; a word whose opcode is not in the
table is a program error, and reserved bits are ignored (R76). -/
def decodeNeedle (q : Thr) (w : Word) : Instr :=
  match (w.extractLsb' 56 8).toNat with
  | 0x00 => .nop q
  | 0x01 => .add q (w.extractLsb' 51 5) (w.extractLsb' 46 5) (w.extractLsb' 41 5)
  | 0x02 => .sub q (w.extractLsb' 51 5) (w.extractLsb' 46 5) (w.extractLsb' 41 5)
  | 0x03 => .andR q (w.extractLsb' 51 5) (w.extractLsb' 46 5) (w.extractLsb' 41 5)
  | 0x04 => .orR q (w.extractLsb' 51 5) (w.extractLsb' 46 5) (w.extractLsb' 41 5)
  | 0x05 => .xorR q (w.extractLsb' 51 5) (w.extractLsb' 46 5) (w.extractLsb' 41 5)
  | 0x06 => .shl q (w.extractLsb' 51 5) (w.extractLsb' 46 5) (w.extractLsb' 41 5)
  | 0x07 => .shr q (w.extractLsb' 51 5) (w.extractLsb' 46 5) (w.extractLsb' 41 5)
  | 0x08 => .sar q (w.extractLsb' 51 5) (w.extractLsb' 46 5) (w.extractLsb' 41 5)
  | 0x09 => .mul q (w.extractLsb' 51 5) (w.extractLsb' 46 5) (w.extractLsb' 41 5)
  | 0x0A => .minS q (w.extractLsb' 51 5) (w.extractLsb' 46 5) (w.extractLsb' 41 5)
  | 0x0B => .maxS q (w.extractLsb' 51 5) (w.extractLsb' 46 5) (w.extractLsb' 41 5)
  | 0x0C => .slt q (w.extractLsb' 51 5) (w.extractLsb' 46 5) (w.extractLsb' 41 5)
  | 0x0D => .sltu q (w.extractLsb' 51 5) (w.extractLsb' 46 5) (w.extractLsb' 41 5)
  | 0x11 => .addi q (w.extractLsb' 51 5) (w.extractLsb' 46 5) (w.extractLsb' 0 32)
  | 0x13 => .andi q (w.extractLsb' 51 5) (w.extractLsb' 46 5) (w.extractLsb' 0 32)
  | 0x14 => .ori q (w.extractLsb' 51 5) (w.extractLsb' 46 5) (w.extractLsb' 0 32)
  | 0x15 => .xori q (w.extractLsb' 51 5) (w.extractLsb' 46 5) (w.extractLsb' 0 32)
  | 0x16 => .shli q (w.extractLsb' 51 5) (w.extractLsb' 46 5) (w.extractLsb' 0 32)
  | 0x17 => .shri q (w.extractLsb' 51 5) (w.extractLsb' 46 5) (w.extractLsb' 0 32)
  | 0x18 => .sari q (w.extractLsb' 51 5) (w.extractLsb' 46 5) (w.extractLsb' 0 32)
  | 0x19 => .muli q (w.extractLsb' 51 5) (w.extractLsb' 46 5) (w.extractLsb' 0 32)
  | 0x1E => .ldi q (w.extractLsb' 51 5) (w.extractLsb' 0 32)
  | 0x1F => .ldih q (w.extractLsb' 51 5) (w.extractLsb' 0 32)
  | 0x20 => .ld q (w.extractLsb' 51 5) (w.extractLsb' 46 5) (w.extractLsb' 0 13)
  | 0x21 => .st q (w.extractLsb' 46 5) (w.extractLsb' 41 5) (w.extractLsb' 0 13)
  | 0x22 => .ldd q (w.extractLsb' 51 5) (w.extractLsb' 46 5) (w.extractLsb' 0 13)
  | 0x23 => .ldf q (w.extractLsb' 51 5) (w.extractLsb' 46 5) (w.extractLsb' 0 13)
  | 0x24 => .mfs q (w.extractLsb' 51 5) (w.extractLsb' 46 5)
  | 0x25 => .mts q (w.extractLsb' 51 5) (w.extractLsb' 46 5)
  | 0x28 => .opAt q (w.extractLsb' 46 5)
  | 0x29 => .adv q (w.extractLsb' 0 32)
  | 0x2A => .advr q (w.extractLsb' 46 5)
  | 0x2B => .atw q (w.extractLsb' 0 32)
  | 0x2C => .atnow q (w.extractLsb' 0 32)
  | 0x30 => .jmp q (w.extractLsb' 0 17)
  | 0x31 => .beq q (w.extractLsb' 51 5) (w.extractLsb' 46 5) (w.extractLsb' 0 17)
  | 0x32 => .bne q (w.extractLsb' 51 5) (w.extractLsb' 46 5) (w.extractLsb' 0 17)
  | 0x33 => .blt q (w.extractLsb' 51 5) (w.extractLsb' 46 5) (w.extractLsb' 0 17)
  | 0x34 => .bge q (w.extractLsb' 51 5) (w.extractLsb' 46 5) (w.extractLsb' 0 17)
  | 0x35 => .bltu q (w.extractLsb' 51 5) (w.extractLsb' 46 5) (w.extractLsb' 0 17)
  | 0x36 => .bgeu q (w.extractLsb' 51 5) (w.extractLsb' 46 5) (w.extractLsb' 0 17)
  | 0x37 => .bbs q (w.extractLsb' 51 5) (w.extractLsb' 40 6) (w.extractLsb' 0 17)
  | 0x38 => .bbc q (w.extractLsb' 51 5) (w.extractLsb' 40 6) (w.extractLsb' 0 17)
  | 0x39 => .bdv q (w.extractLsb' 51 5) (w.extractLsb' 40 6) (w.extractLsb' 0 17)
  | 0x3A => .bdn q (w.extractLsb' 51 5) (w.extractLsb' 40 6) (w.extractLsb' 0 17)
  | 0x3B => .bws q (w.extractLsb' 40 6) (w.extractLsb' 0 17)
  | 0x3C => .loop q (w.extractLsb' 40 6) (w.extractLsb' 0 17)
  | 0x3D => .call q (w.extractLsb' 0 17)
  | 0x3E => .ret q
  | 0x3F => .jr q (w.extractLsb' 46 5)
  | 0x40 => .play q (w.extractLsb' 54 2) (w.getLsbD 53) (w.getLsbD 52) (w.extractLsb' 47 5) (w.extractLsb' 39 8) (w.extractLsb' 16 15) (w.extractLsb' 0 16)
  | 0x41 => .jseg q (w.extractLsb' 54 2) (w.getLsbD 53) (w.getLsbD 52) (w.extractLsb' 47 5) (w.extractLsb' 39 8) (w.extractLsb' 16 15) (w.extractLsb' 0 16)
  | 0x42 => .stage q (w.extractLsb' 54 2) (w.extractLsb' 39 8) (w.extractLsb' 16 15)
  | 0x44 => .setf q (w.extractLsb' 54 2) (w.extractLsb' 47 5) (w.extractLsb' 39 8)
  | 0x45 => .setp q (w.extractLsb' 54 2) (w.getLsbD 52) (w.extractLsb' 47 5) (w.extractLsb' 39 8) (w.extractLsb' 0 32)
  | 0x46 => .vz q (w.extractLsb' 54 2) (w.getLsbD 52) (w.extractLsb' 47 5) (w.extractLsb' 39 8) (w.extractLsb' 0 32)
  | 0x48 => .acq q (w.extractLsb' 54 2) (w.extractLsb' 24 24) (w.extractLsb' 0 17)
  | 0x4C => .mark q (w.extractLsb' 54 2) (w.extractLsb' 40 2) (w.extractLsb' 32 5) (w.extractLsb' 0 16)
  | 0x4E => .flux q (w.extractLsb' 54 2) (w.getLsbD 52) (w.extractLsb' 47 5) (w.extractLsb' 39 8) (w.extractLsb' 0 32)
  | 0x50 => .emit q (w.extractLsb' 54 2) (w.extractLsb' 32 2)
  | 0x60 => .wtrig q (w.extractLsb' 39 3) (w.extractLsb' 0 32)
  | 0x61 => .arm q (w.extractLsb' 39 3)
  | 0x62 => .wdec q (w.extractLsb' 51 5) (w.extractLsb' 39 12) (w.getLsbD 38) (w.extractLsb' 0 32)
  | 0x63 => .wbar q (w.extractLsb' 39 6) (w.extractLsb' 0 32)
  | 0x64 => .wptp q (w.extractLsb' 46 5)
  | 0x65 => .wq q
  | 0x70 => .shotBegin q (w.getLsbD 55) (w.getLsbD 54) (w.getLsbD 53) (w.extractLsb' 47 6) (w.extractLsb' 0 32)
  | 0x71 => .shotEnd q
  | 0x7F => .opEnd q
  | _ => .illegalInstruction q

/-- The thread and the word of an instruction, with reserved and ignored bits zero (R76); none for a
command that is no instruction. -/
def encodeNeedle (i : Instr) : Option (Thr × Word) :=
  match i with
  | .nop q => some (q, 0x00#8 ++ 0#56)
  | .add q rd ra rb => some (q, 0x01#8 ++ rd ++ ra ++ rb ++ 0#41)
  | .sub q rd ra rb => some (q, 0x02#8 ++ rd ++ ra ++ rb ++ 0#41)
  | .andR q rd ra rb => some (q, 0x03#8 ++ rd ++ ra ++ rb ++ 0#41)
  | .orR q rd ra rb => some (q, 0x04#8 ++ rd ++ ra ++ rb ++ 0#41)
  | .xorR q rd ra rb => some (q, 0x05#8 ++ rd ++ ra ++ rb ++ 0#41)
  | .shl q rd ra rb => some (q, 0x06#8 ++ rd ++ ra ++ rb ++ 0#41)
  | .shr q rd ra rb => some (q, 0x07#8 ++ rd ++ ra ++ rb ++ 0#41)
  | .sar q rd ra rb => some (q, 0x08#8 ++ rd ++ ra ++ rb ++ 0#41)
  | .mul q rd ra rb => some (q, 0x09#8 ++ rd ++ ra ++ rb ++ 0#41)
  | .minS q rd ra rb => some (q, 0x0A#8 ++ rd ++ ra ++ rb ++ 0#41)
  | .maxS q rd ra rb => some (q, 0x0B#8 ++ rd ++ ra ++ rb ++ 0#41)
  | .slt q rd ra rb => some (q, 0x0C#8 ++ rd ++ ra ++ rb ++ 0#41)
  | .sltu q rd ra rb => some (q, 0x0D#8 ++ rd ++ ra ++ rb ++ 0#41)
  | .addi q rd ra imm => some (q, 0x11#8 ++ rd ++ ra ++ 0#14 ++ imm)
  | .andi q rd ra imm => some (q, 0x13#8 ++ rd ++ ra ++ 0#14 ++ imm)
  | .ori q rd ra imm => some (q, 0x14#8 ++ rd ++ ra ++ 0#14 ++ imm)
  | .xori q rd ra imm => some (q, 0x15#8 ++ rd ++ ra ++ 0#14 ++ imm)
  | .shli q rd ra imm => some (q, 0x16#8 ++ rd ++ ra ++ 0#14 ++ imm)
  | .shri q rd ra imm => some (q, 0x17#8 ++ rd ++ ra ++ 0#14 ++ imm)
  | .sari q rd ra imm => some (q, 0x18#8 ++ rd ++ ra ++ 0#14 ++ imm)
  | .muli q rd ra imm => some (q, 0x19#8 ++ rd ++ ra ++ 0#14 ++ imm)
  | .ldi q rd imm => some (q, 0x1E#8 ++ rd ++ 0#19 ++ imm)
  | .ldih q rd imm => some (q, 0x1F#8 ++ rd ++ 0#19 ++ imm)
  | .ld q rd ra off => some (q, 0x20#8 ++ rd ++ ra ++ 0#33 ++ off)
  | .st q ra rb off => some (q, 0x21#8 ++ 0#5 ++ ra ++ rb ++ 0#28 ++ off)
  | .ldd q rd ra off => some (q, 0x22#8 ++ rd ++ ra ++ 0#33 ++ off)
  | .ldf q rd ra off => some (q, 0x23#8 ++ rd ++ ra ++ 0#33 ++ off)
  | .mfs q g sr => some (q, 0x24#8 ++ g ++ sr ++ 0#46)
  | .mts q g sr => some (q, 0x25#8 ++ g ++ sr ++ 0#46)
  | .opAt q ra => some (q, 0x28#8 ++ 0#5 ++ ra ++ 0#46)
  | .adv q imm => some (q, 0x29#8 ++ 0#24 ++ imm)
  | .advr q ra => some (q, 0x2A#8 ++ 0#5 ++ ra ++ 0#46)
  | .atw q imm => some (q, 0x2B#8 ++ 0#24 ++ imm)
  | .atnow q imm => some (q, 0x2C#8 ++ 0#24 ++ imm)
  | .jmp q target => some (q, 0x30#8 ++ 0#39 ++ target)
  | .beq q ra rb target => some (q, 0x31#8 ++ ra ++ rb ++ 0#29 ++ target)
  | .bne q ra rb target => some (q, 0x32#8 ++ ra ++ rb ++ 0#29 ++ target)
  | .blt q ra rb target => some (q, 0x33#8 ++ ra ++ rb ++ 0#29 ++ target)
  | .bge q ra rb target => some (q, 0x34#8 ++ ra ++ rb ++ 0#29 ++ target)
  | .bltu q ra rb target => some (q, 0x35#8 ++ ra ++ rb ++ 0#29 ++ target)
  | .bgeu q ra rb target => some (q, 0x36#8 ++ ra ++ rb ++ 0#29 ++ target)
  | .bbs q ra aux target => some (q, 0x37#8 ++ ra ++ 0#5 ++ aux ++ 0#23 ++ target)
  | .bbc q ra aux target => some (q, 0x38#8 ++ ra ++ 0#5 ++ aux ++ 0#23 ++ target)
  | .bdv q ra aux target => some (q, 0x39#8 ++ ra ++ 0#5 ++ aux ++ 0#23 ++ target)
  | .bdn q ra aux target => some (q, 0x3A#8 ++ ra ++ 0#5 ++ aux ++ 0#23 ++ target)
  | .bws q aux target => some (q, 0x3B#8 ++ 0#10 ++ aux ++ 0#23 ++ target)
  | .loop q aux target => some (q, 0x3C#8 ++ 0#10 ++ aux ++ 0#23 ++ target)
  | .call q target => some (q, 0x3D#8 ++ 0#39 ++ target)
  | .ret q => some (q, 0x3E#8 ++ 0#56)
  | .jr q ra => some (q, 0x3F#8 ++ 0#5 ++ ra ++ 0#46)
  | .play q sm d rs src tgt pat scale => some (q, 0x40#8 ++ sm ++ BitVec.ofBool d ++ BitVec.ofBool rs ++ src ++ tgt ++ 0#8 ++ pat ++ scale)
  | .jseg q sm d rs src tgt pat scale => some (q, 0x41#8 ++ sm ++ BitVec.ofBool d ++ BitVec.ofBool rs ++ src ++ tgt ++ 0#8 ++ pat ++ scale)
  | .stage q sm tgt pat => some (q, 0x42#8 ++ sm ++ 0#7 ++ tgt ++ 0#8 ++ pat ++ 0#16)
  | .setf q sm src tgt => some (q, 0x44#8 ++ sm ++ 0#2 ++ src ++ tgt ++ 0#39)
  | .setp q sm rs src tgt val => some (q, 0x45#8 ++ sm ++ 0#1 ++ BitVec.ofBool rs ++ src ++ tgt ++ 0#7 ++ val)
  | .vz q sm rs src tgt val => some (q, 0x46#8 ++ sm ++ 0#1 ++ BitVec.ofBool rs ++ src ++ tgt ++ 0#7 ++ val)
  | .acq q sm mask len => some (q, 0x48#8 ++ sm ++ 0#6 ++ mask ++ 0#7 ++ len)
  | .mark q sm act m width => some (q, 0x4C#8 ++ sm ++ 0#12 ++ act ++ 0#3 ++ m ++ 0#16 ++ width)
  | .flux q sm rs src tgt val => some (q, 0x4E#8 ++ sm ++ 0#1 ++ BitVec.ofBool rs ++ src ++ tgt ++ 0#7 ++ val)
  | .emit q sm ev => some (q, 0x50#8 ++ sm ++ 0#20 ++ ev ++ 0#32)
  | .wtrig q n tmo => some (q, 0x60#8 ++ 0#14 ++ n ++ 0#7 ++ tmo)
  | .arm q n => some (q, 0x61#8 ++ 0#14 ++ n ++ 0#39)
  | .wdec q rd idx f tmo => some (q, 0x62#8 ++ rd ++ idx ++ BitVec.ofBool f ++ 0#6 ++ tmo)
  | .wbar q b tmo => some (q, 0x63#8 ++ 0#11 ++ b ++ 0#7 ++ tmo)
  | .wptp q ra => some (q, 0x64#8 ++ 0#5 ++ ra ++ 0#46)
  | .wq q => some (q, 0x65#8 ++ 0#56)
  | .shotBegin q rep joint blk bar reset => some (q, 0x70#8 ++ BitVec.ofBool rep ++ BitVec.ofBool joint ++ BitVec.ofBool blk ++ bar ++ 0#15 ++ reset)
  | .shotEnd q => some (q, 0x71#8 ++ 0#56)
  | .opEnd q => some (q, 0x7F#8 ++ 0#56)
  | _ => none

end Sys2Proof
end

