-- ==== Sys2Proof/Machine/Tick.lean ====
section
/-! DEFINITION. What happens on its own in a tick: the commands that fall due, what the needles issue
from instruction memory, and the settling at the end of the tick (DESIGN CHOICE, log entry 1). -/

namespace Sys2Proof.Machine

open Fld

/-- The threads the state lists, in ascending tile and thread (R69). -/
def State.listedThreads (s : State) : List Thr := Thr.all.filter (fun q => (Tab.find s.threads q).isSome)

/-! Commands that are due when a tick begins. -/

/-- Dispatches due from the front of a thread's queue, at most four (03 R64, R65). -/
def State.dueDispatches (s : State) (q : Thr) : List Instr :=
  (((s.thread q).queue.takeWhile (fun c => decide (c.issued < s.tick) && timeDue (c.stamp - 38) s.ft)).take 4).map
    (fun _ => .timedDispatch q)

/-- What is due of a thread's own (03 R51, R70, R77, R94, R97; 13 R362), after its dispatches. -/
def State.dueThread (s : State) (q : Thr) : List Instr :=
  let t := s.thread q
  let ptp := (match t.waitingOn with | some (.ptp ns) => timeDue ns s.ptpNs | _ => false)
    || (decide (t.st = .starting) && t.launch.any (fun l => match l.mode with
        | .ptp ns => timeDue ns s.ptpNs
        | _ => false))
  let wakes := match t.wait with
    | some w => (match w.wake with | some k => decide (k ≤ s.tick) | none => false)
    | none => false
  (if ptp then [.ptpTimeDue q] else [])
    ++ (if wakes then [.threadWake q] else [])
    ++ (if t.pause.any (fun p => decide (p.1 ≤ s.tick)) then [.pauseEnd q] else [])
    ++ (if t.rewind.any (fun r => decide (r.resume ≤ s.tick)) then [.replayResume q] else [])
    ++ (if t.st = .draining ∧ t.awaited = 0 ∧ t.queue.length ≤ (s.dueDispatches q).length then [.drainComplete q] else [])
    ++ (if t.faultDue.any (fun p => decide (p.2 ≤ s.tick)) then [.faultCompletion q] else [])

/-- What an Idle thread takes up (03 R97; 11 R319). -/
def State.dueIdle (s : State) (q : Thr) : List Instr :=
  let t := s.thread q
  if t.st ≠ .idle then []
  else if !t.lq.isEmpty then [.launchStart q]
  else if !t.params.isEmpty then [.paramApply q] else []

/-- What is due of the synthesis and of the readout of the device (04 R119, R128, R133, R134; 05 R146,
R154, R160, R161, R163; 08 R257, R259). -/
def State.dueSignals (s : State) : List Instr :=
  ((s.plays.filter (fun p => !p.tgt.isFlux && decide (p.last < 16 * s.tick))).map (fun p => .patternEnd p.tgt))
    ++ (s.pulses.filter (fun p => decide (p.until_ ≤ 16 * s.tick))).map (fun p => .markerPulseEnd p.tile p.marker)
    ++ (s.windows.filter (fun w => !w.opened && decide (w.w / 16 ≤ s.tick))).map
        (fun w => .windowOpen (BitVec.ofNat 4 w.tile) (BitVec.ofNat 5 w.c))
    ++ (s.traces.filter (fun p => p.2.first.isNone && p.2.start.any (fun a => decide (a / 16 ≤ s.tick)))).map
        (fun p => .traceTrigger (BitVec.ofNat 4 p.1))
    ++ (s.trains.filter (fun p => p.2.full)).map (fun p => .trainingDone (BitVec.ofNat 4 p.1))
    ++ (s.fits.filter (fun p => decide (p.2.target ≤ p.2.whole.rounds))).map (fun p => .flxFitDone (BitVec.ofNat 4 p.1))
    ++ (s.bobs.filter (fun e => decide (0 < s.rd (bobLoop_LOOPS_LEFT e.1.1 e.1.2))
          && s.rd (bobRp_VALUE e.1.1 e.1.2) == e.2.end_)).map
        (fun e => .bobbinLoopJump (BitVec.ofNat 4 e.1.1) (BitVec.ofNat 2 e.1.2))
    ++ s.refillOrder.map (fun p => .bobbinRefillRequest (BitVec.ofNat 4 p.1) (BitVec.ofNat 2 p.2))

/-- The copies of EST in hardware mode, every PERIOD ms (05 R145), on quadrant dies that are ready. -/
def State.dueCopies (s : State) : List Instr :=
  if s.dormant then []
  else ((List.range 16).filter (fun t => s.bitAt dieStatus_QREADY (t / 4) && s.tick % 1000000 == 0
    && s.tick % s.corrPeriod t == 0 && !s.corrHost t)).map (fun t => .corrPeriodCopy (BitVec.ofNat 4 t) none)

/-- Pending coefficients and banks whose boundary has come, before what is dispatched in the tick, which
uses the new values (05 R146, R160; 08 R257). -/
def State.dueBanks (s : State) : List Instr :=
  ((s.corrPend.filter (fun p => s.adcBoundary p.1)).map (fun p => .corrApply (BitVec.ofNat 4 p.1)))
    ++ (s.demodPend.filter (fun p => s.demodBoundary p.1.1 p.1.2)).map
        (fun p => .demodBankApply (BitVec.ofNat 4 p.1.1) (BitVec.ofNat 5 p.1.2))
    ++ (s.fluxRuns.filter (fun p => p.2.pend.isSome && s.fluxBoundary p.1.1 p.1.2)).map
        (fun p => .fluxBankApply (BitVec.ofNat 4 p.1.1) (BitVec.ofNat 4 p.1.2))

/-- What is due of one lane (07 R207, R210, R211, R216, R228, R236). -/
def State.dueLane (s : State) (l : Nat) : List Instr :=
  let v := BitVec.ofNat 5 l
  let slot := match s.slotNow with
    | none => []
    | some n =>
        if !s.on timeStatus_PLL_LOCK then []
        else if n % 4096 = 4095 ∧ s.carries l then [Instr.markerTx v]
        else if s.trains_ l || (n % 4096 != 4095
            && (s.carries l && !s.laneActive (s.leadLane l) || s.laneActive l && s.leadLane l == l)) then
          [.stitchTx v]
        else []
  (if s.laneUp l && decide (8 ≤ (s.lane l).missRun) then [Instr.laneLoss v] else [])
    ++ (if s.laneOverdue l then [.laneStateTimeout v] else [])
    ++ (if s.quietOver l then [.quietBackoffEnd v] else [])
    ++ (if s.bulkSpent l then [.bulkRetryExhausted v] else [])
    ++ (if (s.lane l).nakRx then [.bulkRetransmit v] else [])
    ++ slot

/-- Receive entries whose decision is expected in this tick and was not delivered (07 R227). -/
def State.dueExpectations (s : State) : List Instr :=
  ((s.regs.filterMap (fun p => if p.1.name = .rxr0 then some (p.1.i, p.1.j) else none)).filter
      (fun p => s.expected p.1 p.2 && !s.delivered.contains p)).map
    (fun p => .expectationTick (BitVec.ofNat 5 p.1) (BitVec.ofNat 9 p.2))

/-- What is due of the converters and monitors (09 R265-R268, R274, R275, R279), and of the PTP clock as
transmitter (02 R52). -/
def State.dueTiming (s : State) : List Instr :=
  (List.range 12).flatMap (fun u =>
    let v := BitVec.ofNat 4 u
    (if s.tdcExpired u then [Instr.tdcWindowExpiry v] else [])
      ++ (if s.tdcRecovered u then [.tdcRecoveryEnd v] else [])
      ++ (if s.tdcStale u then [.tdcHeldStopExpiry v] else [])
      ++ (if s.on (tdcCfg_EN u) && s.tdcRecals u then [.tdcRecalibrate v] else []))
    ++ (if s.on timeStatus_PLL_LOCK && s.calDue then [.ptCalEdge] else [])
    ++ (if s.syncDue then [.ptpSyncTx] else [])
    ++ [0, 1].flatMap (fun d => match (s.mon d).readback with
        | some (b, _) => [Instr.biasDriftTrack (BitVec.ofNat 1 d) (BitVec.ofNat 8 b)]
        | none => [])
    ++ ([0, 1].filter s.monTimerDue).map (fun d => .monTimerStart (BitVec.ofNat 1 d))
    ++ (s.monLine.filter (fun p => decide (p.2 ≤ s.tick))).map (fun p => .monSeamStart (BitVec.ofNat 1 p.1))

/-- Whether the resynchronised parts of the matrix stand still: in Dormant (10 R288), and without a
tick. -/
def State.matrixStopped (s : State) : Bool := s.dormant || !s.on timeStatus_PLL_LOCK

/-- The timers of the seam matrix that start or expire (10 R294); a load of forest time that is due may
carry it past an ORIGIN. -/
def State.dueTimers (s : State) : List Instr :=
  let loads := s.syncLoad.any (fun x => decide (x.at_ ≤ s.tick))
  if s.matrixStopped then []
  else ((List.range 16).filter (fun k => s.originDue k || loads && s.on (tmrCfg_ORIGIN_EN k))).map
      (fun k => Instr.timerOrigin (BitVec.ofNat 4 k))
    ++ (s.timers.filter (fun p => p.2.due (s.rd (tmrCfg_MODE p.1) == 2) s.tick)).map
        (fun p => .timerExpiry (BitVec.ofNat 4 p.1))

/-- The command that a descriptor begun is (11 R317). -/
def Desc.command (d : Desc) : Instr :=
  match d.ref.opcode with
  | 0x00 => .descNop d
  | 0x01 => .regWrite d
  | 0x02 => .param d
  | 0x10 => .load d
  | 0x11 => .read d
  | 0x12 => .share d
  | 0x20 => .launch d
  | 0x28 => .frame d
  | 0x30 => .feed d
  | _ => .badDescriptor d

/-- What is due of the Kenper engines (11 R305, R306, R309, R315, R326, R336). -/
def State.dueKenper (s : State) : List Instr :=
  ((s.outReqs.map OutReq.q).eraseDups.map (fun q => Instr.ackTimeout (BitVec.ofNat 6 q)))
    ++ (s.qps.filter (fun p => p.2.rnrDue.any (fun k => decide (k ≤ s.tick)))).map
        (fun p => .rnrRetryTimer (BitVec.ofNat 6 p.1))
    ++ (s.qps.filter (fun p => p.2.rate != 0 && decide (p.2.rateTick + 50000 ≤ s.tick))).map
        (fun p => .rateRecovery (BitVec.ofNat 6 p.1))
    ++ (if s.mExec.any (fun x => x.ops.isEmpty) then [.kenperMResponse] else [])
    ++ (s.readRings.filter (fun r => s.on (cmdCfg_PRIO r) && s.canFetch r)).map
        (fun r => .descriptorFetch (BitVec.ofNat 6 r))
    ++ s.begun.map Desc.command
    ++ (s.fetched.map (fun d => d.ref.ring)).eraseDups.map (fun r => .descriptorBegin (BitVec.ofNat 6 r))
    ++ s.cplWait.map (fun _ => .completionWrite)
    ++ (s.rqs.filter (fun p => decide (4 ≤ p.2.words.length))).map (fun p => .resultBatch (BitVec.ofNat 4 p.1))

/-- What is due of the management processors (01 R22, R24; 02 R38; 14 R370, R383). -/
def State.dueManagement (s : State) : List Instr :=
  (if s.boot.supply && decide (0 < s.tick) && s.tick % 1000000000 == 0 then [Instr.xtalAgeingUpdate] else [])
    ++ (if s.accumDue then [.xtalAccumCommit] else [])
    ++ ((s.hwQueue.filter (fun q => q.stale s.tick)).map (fun _ => .heartwoodWriteReject))
    ++ (if s.hwWrite.isNone && !s.hwQueue.isEmpty && s.hwWindow then [.heartwoodWriteStart] else [])
    ++ (if s.leavePending && !s.anyInScope then [.leaveActive] else [])
    ++ (if s.wakeDue then [.wakeEvent] else [])

/-- Everything due when a tick begins, in the order in which it happens. -/
def State.dueCommands (s : State) : List Instr :=
  let qs := s.listedThreads
  (if s.syncLoad.any (fun x => decide (x.at_ ≤ s.tick)) then [.forestTimeLoad] else [])
    ++ (List.range 32).flatMap s.dueLane
    ++ s.dueTiming ++ s.dueTimers ++ s.dueSignals
    ++ (s.assemblies.filter (fun a => decide (a.tick + 12 ≤ s.tick))).map
        (fun a => .patchResult (BitVec.ofNat 6 a.patch))
    ++ s.dueExpectations ++ s.dueCopies ++ s.dueBanks
    ++ qs.flatMap s.dueDispatches
    ++ s.bars.flatMap (fun p => (p.2.gens.filter (fun e => decide (p.2.gen ≤ e.1)
          && e.2.rel.any (fun r => decide (r.1 ≤ s.tick)))).map (fun _ => .barrierRelease p.1))
    ++ qs.flatMap s.dueThread
    ++ s.dueManagement
    ++ qs.flatMap s.dueIdle ++ s.dueKenper

/-! Issue from instruction memory (03 R72, R74, R76, R87). -/

/-- The threads of a tile that are ready to issue, on the priority slot or the ordinary one. -/
def State.readyThreads (s : State) (t : Nat) (prio : Bool) : List Nat :=
  (List.range 8).filter (fun h =>
    let x := s.thread ⟨t, h⟩
    decide (x.st = .running) && x.hold.isNone && decide (x.readyAt ≤ s.tick) && decide (0 < x.prio) == prio)

/-- The thread that the priority slot serves next: of the ready ones that hold priority the one that
has issued least on the slot since its wake, of those the lowest (R74, R75; DEDUCED, log entry 106). -/
def State.nextPriority (s : State) (t : Nat) : Option Nat :=
  let ready := s.readyThreads t true
  [3, 2, 1].findSome? (fun n => ready.find? (fun h => (s.thread ⟨t, h⟩).prio == n))

/-- The thread that the ordinary slot serves next: round-robin after the last one served (R72). -/
def State.nextOrdinary (s : State) (t : Nat) : Option Nat :=
  let last := match Tab.find s.ordSlot t with | some p => p.2 | none => 7
  let ready := s.readyThreads t false
  ((List.range 8).map (fun i => (last + 1 + i) % 8)).find? ready.contains

/-- The instruction a thread is about to issue: that of the word at PC; past the last word a program
error (R76, R87). -/
def State.nextInstr (s : State) (q : Thr) : Instr :=
  let pc := (s.thread q).pc
  if pc < 131072 then decodeNeedle q (s.memWord .instr q.tile pc) else .illegalInstruction q

/-- What the needles issue in this tick: one thread on each slot of each tile. -/
def State.issueCommands (s : State) : List Instr :=
  (List.range 16).flatMap (fun t =>
    let slot (h : Option Nat) : List Instr := match h with
      | some h => [s.nextInstr ⟨t, h⟩]
      | none => []
    slot (s.nextPriority t) ++ slot (s.nextOrdinary t))

/-! Triggers and timeouts (03 R80-R84): after issue, so that an `arm` of this tick acts first. -/

/-- Triggers that seam channels carry to the inputs of threads in this tick, after them the timeouts,
which they win over (R82), and the commits, over which a fault of the tick wins (12 R352). -/
def State.arrivals (s : State) : List Instr :=
  let qs := s.listedThreads
  qs.flatMap (fun q =>
    let t := s.thread q
    ((List.range 8).filter (fun n => t.trigEn.getLsbD n
        && s.seamNow.contains (bitsOf t.trigSrc (8 * n) 8))).map (fun n => Instr.triggerArrival q (BitVec.ofNat 3 n)))
    ++ (qs.filter (fun q => (s.thread q).waitingOn.isSome
          && ((s.thread q).wait.bind Wait.timeout).any (fun x => timeDue x s.ft))).map (fun q => .waitTimeout q)
    ++ s.shots.map (fun x => .shotCommit x.id)

/-! The end of a tick. -/

/-- The threads whose `wdec` would end on a slot and whose replayable shot takes a lost word as a
fault: the lowest of each tile (12 R343). -/
def State.lostOwners (s : State) (n : Nat) : List Thr :=
  let mine := s.listedThreads.filter (fun q => match (s.thread q).waitingOn with
    | some (.dec _ m _ ref) => m == n && ((s.slot n).since ref).isSome && s.lostReplays q (s.slot n)
    | _ => false)
  mine.filter (fun q => (mine.find? (fun p => p.tile == q.tile)) == some q)

/-- The lost deliveries of this tick are faults of class 0x04 (12 R342, R343). -/
def State.lostFaults (s : State) : State :=
  s.each s.lostNow (fun s x =>
    let qs := s.lostOwners x.1
    s.fault 4 0 ((qs.head?.map Thr.tile).getD 0) x.2 (qs.filterMap (fun q => (s.thread q).shot)) qs.head?)

/-- The waits on slots written in this tick end (03 R83, R84; 06 R174). -/
def State.endDecWaits (s : State) : State :=
  s.each s.listedThreads (fun s q =>
    let t := s.thread q
    match t.waitingOn with
    | some (.dec rd n f ref) =>
        let x := s.slot n
        (match x.since ref with
        | some w =>
            if x.tick ≠ s.tick ∨ s.lostReplays q x then s
            else
              let t := t.takeDec x rd f w
              (s.setThread q (t.decideWait s.tick t.ws w)).tookDelivery q x
        | none => s)
    | _ => s)

/-- Slots with EV pulse the source of their group at a write (06 R176). -/
def State.slotEvents (s : State) : State :=
  s.each (s.writtenNow.filter (fun e => bitsOf e.2.fq 10 1 == 1)) (fun s e => s.pulse (48 + e.1 / 256))

/-- The patches whose inputs have closed, the committed records that move on (11 R332), and the glitch
filters that expire. -/
def State.settleCommands (s : State) : List Instr :=
  ((List.range 64).filter (fun p => (s.patchReady p).isSome)).map (fun p => Instr.patchAssembly (BitVec.ofNat 6 p))
    ++ ((s.holding.filter (fun r => r.committed && (s.rq r.tile).room)).map
        (fun r => .holdingAreaMove (BitVec.ofNat 4 r.tile)))
    ++ (if s.matrixStopped then [] else s.filtersDue.map (fun n => .tackFilterExpiry (BitVec.ofNat 6 n)))

/-- What the writes of a tick bring about by its end: rounds close, waits end, decisions are sent,
barriers settle, samples are formed. -/
def State.settle (s : State) : State :=
  let s := s.closeRounds.lostFaults.endDecWaits.slotEvents.sendDecisions.settleBars
  let s := s.envelopeReads.fluxTick.synTick.markerTick.ptprTick
  (s.writeShadows s.shadowWait.length).askReads 256

/-- The seam matrix at the end of a tick; in Dormant the asynchronous channels alone work (10 R288). -/
def State.settleSeam (s : State) : State :=
  if s.matrixStopped then s.levelRises else s.seamEnd

/-! The next tick. -/

/-- Consumers of seam channels outside the matrix: the latch and trace captures (02 R57; 05 R163). -/
def State.seamConsumers (s : State) : State :=
  let s := if s.on latchCtrl_SEAM_EN && s.seamNow.contains (s.rd latchCtrl_SEAM_CH) then s.latch 0 else s
  s.each (s.traces.filter (fun p => s.seamNow.contains (s.rd (traceCtrl_SEAM_CH p.1)))) (fun s p =>
    s.traceAt p.1 2 (16 * s.tick))

/-- The clocks of a tick edge (02 R39, R54): forest time and the PTP clock count while the RF PLL is
locked; without it the timers of the matrix stand still. In Dormant those of requests do (11 R306). -/
def State.clocks (s : State) : State :=
  let s := { s with tick := s.tick + 1, phase := 0, lostNow := [], delivered := [],
                    ftWas := s.ft, decTick := {} }
  let s := if s.on timeStatus_PLL_LOCK then { s with ft := s.ft + 1 }.ptpTick
    else { s with timers := s.timers.map (fun (k, x) => (k, x.later)) }
  if s.dormant then { s with outReqs := s.outReqs.map (fun (r : OutReq) => { r with sent := r.sent + 1 }) } else s

/-- The units at the start of a tick. -/
def State.units (s : State) : State :=
  let s := if s.matrixStopped then s.seamHold else s.seamTick.seamConsumers.tackWrites
  let s := (s.runActs (fun a => !a.isFlux && !a.isTone) (16 * s.tick + 15)).markerStarts.bobTick.fetchTick
  s.readoutTick.rqTick.fabricTick.tdcTick.monTick.ageRefills.qpTick.mTick

/-- The next tick begins: clocks, units, and the commands that fall due. -/
def State.nextTick (s : State) : State :=
  let s := s.undoRounds.seamShift.clocks.units
  { s with pending := s.dueCommands, monLine := s.monLine.filter (fun p => decide (s.tick < p.2)) }

/-- What the block does when no command waits: the next part of the present tick, or the next tick
(DESIGN CHOICE, log entry 1). -/
def State.idle (s : State) : Host.Outcome State Fault Refusal :=
  match s.phase with
  | 0 => .next { s with pending := s.issueCommands, phase := 1 }
  | 1 => .next { s with pending := s.arrivals, phase := 2 }
  | 2 => let s := s.settle
         finish { s with pending := s.settleCommands, phase := 3 }
  | 3 => let s := s.settleSeam
         finish { s with pending := s.seamRaised.map (fun n => .seamEvent (BitVec.ofNat 9 n)),
                         seamRaised := [], phase := 4 }
  | _ => finish s.nextTick

end Sys2Proof.Machine
end

