-- ==== Sys2Proof/Machine/Balls.lean ====
section
/-! DEFINITION. The ball map (15 R388-R394): which signal, supply or ground each of the 4,096 balls
carries. It has no state; boards are checked against it. -/

namespace Sys2Proof.Machine

/-- A ball by row index, 0 to 63, and column, 1 to 64 (R388). -/
structure Ball where
  row : Nat
  col : Nat
  deriving DecidableEq, Repr

/-- The 19 letters of rows (R388). -/
def rowLetters : List Char :=
  ['A', 'B', 'C', 'D', 'E', 'F', 'G', 'H', 'J', 'K', 'L', 'M', 'N', 'P', 'T', 'U', 'V', 'W', 'Y']

/-- The name of a row: the letters alone, then prefixed by A, B and C (R388). -/
def rowName (i : Nat) : String :=
  let l := (rowLetters.getD (i % 19) 'A').toString
  match i / 19 with
  | 0 => l
  | 1 => "A" ++ l
  | 2 => "B" ++ l
  | _ => "C" ++ l

/-- The name of a ball. -/
def Ball.name (b : Ball) : String := rowName b.row ++ toString b.col

/-- The signals at the balls; `neg` is the second ball of a pair, `ret` a return (R392-R394). -/
inductive Pin
  | drive (t : Fin 16) (d : Fin 3) (neg : Bool)
  | probe (t : Fin 16) (neg : Bool)
  | adc (t : Fin 16) (neg : Bool)
  | flux (t : Fin 16) (k : Fin 12)
  | bias (t : Fin 16) (k : Fin 24) (ret : Bool)
  | eswTx (l : Fin 32) (neg : Bool)
  | eswRx (l : Fin 32) (neg : Bool)
  | ethTx (p : Fin 2) (lane : Fin 4) (neg : Bool)
  | ethRx (p : Fin 2) (lane : Fin 4) (neg : Bool)
  | ti (n : Fin 16)
  | pt (k : Fin 4)
  | mk (m : Fin 32)
  | ptCal
  | refIn (neg : Bool)
  | syncIn (neg : Bool)
  | ethRefclk (neg : Bool)
  | rstN
  | biasClrN
  | coreSns (neg : Bool)
  | flSclk
  | flCsN
  | flIo (n : Fin 4)
  | tck
  | tms
  | tdi
  | tdo
  | trstN
  deriving DecidableEq, Repr

/-- The ball at offsets dr and dc of a tile's block (R392). -/
def tileBall (t dr dc : Nat) : Ball := ⟨if t < 8 then dr else 63 - dr, 8 * (t % 8) + 1 + dc⟩

/-- The second of two. -/
def second (b : Bool) : Nat := if b then 1 else 0

/-- The ball of a signal (R392-R394). -/
def Pin.ball (p : Pin) : Ball :=
  match p with
  | .drive t d neg => tileBall t 0 (3 * d + second neg)
  | .probe t neg => tileBall t 2 (second neg)
  | .adc t neg => tileBall t 2 (3 + second neg)
  | .flux t k => tileBall t (4 + k / 8) (k % 8)
  | .bias t k ret => tileBall t (6 + k / 4) (2 * (k % 4) + second ret)
  | .eswTx l neg => ⟨12 + 2 * (l % 16), (if l.val < 16 then 1 else 61) + second neg⟩
  | .eswRx l neg => ⟨13 + 2 * (l % 16), (if l.val < 16 then 1 else 61) + 2 + second neg⟩
  | .ethTx p lane neg => ⟨44 + 2 * lane, (if p.val = 0 then 1 else 61) + second neg⟩
  | .ethRx p lane neg => ⟨45 + 2 * lane, (if p.val = 0 then 1 else 61) + 2 + second neg⟩
  | .ti n => ⟨12 + n, 6⟩
  | .pt k => ⟨30 + 2 * k, 6⟩
  | .mk m => ⟨12 + m % 16, 58 + m / 16⟩
  | .ptCal => ⟨38, 6⟩
  | .refIn neg => ⟨40, 6 + second neg⟩
  | .syncIn neg => ⟨42, 6 + second neg⟩
  | .ethRefclk neg => ⟨44, 6 + second neg⟩
  | .rstN => ⟨46, 6⟩
  | .biasClrN => ⟨46, 7⟩
  | .coreSns neg => ⟨24, 32 + second neg⟩
  | .flSclk => ⟨40, 58⟩
  | .flCsN => ⟨40, 59⟩
  | .flIo n => ⟨41 + n / 2, 58 + n % 2⟩
  | .tck => ⟨47, 58⟩
  | .tms => ⟨47, 59⟩
  | .tdi => ⟨48, 58⟩
  | .tdo => ⟨48, 59⟩
  | .trstN => ⟨49, 58⟩

/-- What a ball carries (R389). -/
inductive Net
  | signal
  | supply (r : Rail)
  | ground
  /-- left unconnected (R390) -/
  | dnu
  deriving DecidableEq, Repr

/-- A ball of a tile band, by its offsets (R392). -/
def bandNet (dr dc : Nat) : Net :=
  match dr with
  | 0 => if dc = 2 ∨ dc = 5 then .ground else .signal
  | 1 | 3 => .ground
  | 2 => if dc = 2 ∨ 5 ≤ dc then .ground else .signal
  | 5 => if 4 ≤ dc then .ground else .signal
  | _ => .signal

/-- A ball of the core field (R391). -/
def coreNet (i c : Nat) : Net :=
  if i = 24 ∧ (c = 32 ∨ c = 33) then .signal
  else if (i + c) % 2 = 1 then .ground
  else if i ≤ 15 ∨ 48 ≤ i then .supply .an
  else if c ≤ 16 ∨ 49 ≤ c then .supply .conv
  else .supply .core

/-- A ball of the left strip (R391, R393, R394). -/
def leftNet (i c : Nat) : Net :=
  if c = 8 then .supply (if i ≤ 31 then .biasP else .io)
  else if (c = 6 ∨ c = 7) ∧ 47 ≤ i then .supply .v33
  else if c = 6 ∧ (i ≤ 27 ∨ (30 ≤ i ∧ i ≤ 46 ∧ i % 2 = 0)) then .signal
  else if c = 7 ∧ 40 ≤ i ∧ i ≤ 46 ∧ i % 2 = 0 then .signal
  else .ground

/-- A ball of the right strip (R391, R393, R394). -/
def rightNet (i c : Nat) : Net :=
  if c = 57 then .supply (if i ≤ 31 then .biasN else .io)
  else if (c = 58 ∨ c = 59) ∧ 50 ≤ i then .supply .v33
  else if (c = 58 ∨ c = 59) ∧ (i ≤ 27 ∨ (40 ≤ i ∧ i ≤ 42) ∨ i = 47 ∨ i = 48) then .signal
  else if c = 58 ∧ i = 49 then .signal
  else .ground

/-- What a ball carries: its region's rule (R389). -/
def Ball.net (b : Ball) : Net :=
  let i := b.row
  let c := b.col
  if i < 12 then bandNet i ((c - 1) % 8)
  else if 52 ≤ i then bandNet (63 - i) ((c - 1) % 8)
  else if c ≤ 4 then (if (c ≤ 2) = (i % 2 = 0) then .signal else .ground)
  else if 61 ≤ c then (if (c ≤ 62) = (i % 2 = 0) then .signal else .ground)
  else if c ≤ 8 then leftNet i c
  else if 57 ≤ c then rightNet i c
  else if i = 12 ∨ i = 51 then .dnu
  else coreNet i c

/-- Every ball of the package. -/
def allBalls : List Ball := (List.range 64).flatMap (fun i => (List.range 64).map (fun c => ⟨i, c + 1⟩))

/-- The balls of which something holds. -/
def countBalls (p : Ball → Bool) : Nat := (allBalls.filter p).length

end Sys2Proof.Machine
end

