-- ==== Sys2Proof/Safety.lean ====
section
/-! DEFINITION. What claims about runs are stated in: an outcome that goes on, a state whose memory has
its canonical form, and a run that meets no undefined case. -/

namespace Sys2Proof

open Machine

/-- The outcome is a next state. -/
def Goes (o : Host.Outcome State Fault Refusal) : Prop := ∃ t, o = .next t

/-- The invariant of every state the block can stand in: memory in its canonical form. -/
def Inv (s : State) : Prop := Mem.wf s.mem = true

/-- n steps from s all go on. -/
def RunsSafely : Nat → State → Prop
  | 0, _ => True
  | n + 1, s => ∃ t, step s = .next t ∧ RunsSafely n t

end Sys2Proof
end

