-- ==== Sys2Proof/WellFormed.lean ====
section
/-! DEFINITION. Which commands are well formed: operands inside the ranges the spec gives them.  A
meaning is defined on every command; a sender sends well-formed ones. -/

namespace Sys2Proof

open Machine

/-- A thread of the device: 16 tiles, 8 threads (03 R70). -/
def Machine.Thr.wf (q : Thr) : Bool := decide (q.tile < 16) && decide (q.idx < 8)

/-- A target of the device: 4 synthesis channels and 12 flux channels to a tile (03 R78). -/
def Machine.Tgt.wf (g : Tgt) : Bool :=
  match g with
  | .tone t c k => decide (t < 16) && decide (c < 4) && decide (k < 24)
  | .flux t k => decide (t < 16) && decide (k < 12)

/-- A requester: domains 0 to 4 (11 R310). -/
def Machine.Requester.wf (r : Requester) : Bool := decide (r.domain < 5)

/-- A write: a half's value has 32 bits (R8). -/
def Machine.WriteOp.wf (w : WriteOp) : Bool :=
  w.req.wf && (match w.half with | .whole => true | .low | .high => decide (w.value.toNat < 2 ^ 32))

/-- A descriptor of an OPCODE: eight words (11 R315, R317). -/
def Machine.Desc.wf (d : Desc) (opcode : Nat) : Bool :=
  decide (d.w.length = 8) && decide (d.ref.opcode = opcode) && decide (d.ref.ring < 64)

/-- Whether a command is well formed. -/
def Instr.wf (i : Instr) : Bool :=
  match i with
  | .nop q => q.wf
  | .add q _ _ _ => q.wf
  | .sub q _ _ _ => q.wf
  | .andR q _ _ _ => q.wf
  | .orR q _ _ _ => q.wf
  | .xorR q _ _ _ => q.wf
  | .shl q _ _ _ => q.wf
  | .shr q _ _ _ => q.wf
  | .sar q _ _ _ => q.wf
  | .mul q _ _ _ => q.wf
  | .minS q _ _ _ => q.wf
  | .maxS q _ _ _ => q.wf
  | .slt q _ _ _ => q.wf
  | .sltu q _ _ _ => q.wf
  | .addi q _ _ _ => q.wf
  | .andi q _ _ _ => q.wf
  | .ori q _ _ _ => q.wf
  | .xori q _ _ _ => q.wf
  | .shli q _ _ _ => q.wf
  | .shri q _ _ _ => q.wf
  | .sari q _ _ _ => q.wf
  | .muli q _ _ _ => q.wf
  | .ldi q _ _ => q.wf
  | .ldih q _ _ => q.wf
  | .ld q _ _ _ => q.wf
  | .st q _ _ _ => q.wf
  | .ldd q _ _ _ => q.wf
  | .ldf q _ _ _ => q.wf
  | .mfs q _ _ => q.wf
  | .mts q _ _ => q.wf
  | .opAt q _ => q.wf
  | .adv q _ => q.wf
  | .advr q _ => q.wf
  | .atw q _ => q.wf
  | .atnow q _ => q.wf
  | .jmp q _ => q.wf
  | .beq q _ _ _ => q.wf
  | .bne q _ _ _ => q.wf
  | .blt q _ _ _ => q.wf
  | .bge q _ _ _ => q.wf
  | .bltu q _ _ _ => q.wf
  | .bgeu q _ _ _ => q.wf
  | .bbs q _ _ _ => q.wf
  | .bbc q _ _ _ => q.wf
  | .bdv q _ _ _ => q.wf
  | .bdn q _ _ _ => q.wf
  | .bws q _ _ => q.wf
  | .loop q _ _ => q.wf
  | .call q _ => q.wf
  | .ret q => q.wf
  | .jr q _ => q.wf
  | .play q _ _ _ _ _ _ _ => q.wf
  | .jseg q _ _ _ _ _ _ _ => q.wf
  | .stage q _ _ _ => q.wf
  | .setf q _ _ _ => q.wf
  | .setp q _ _ _ _ _ => q.wf
  | .vz q _ _ _ _ _ => q.wf
  | .acq q _ _ _ => q.wf
  | .mark q _ _ _ _ => q.wf
  | .flux q _ _ _ _ _ => q.wf
  | .emit q _ _ => q.wf
  | .wtrig q _ _ => q.wf
  | .arm q _ => q.wf
  | .wdec q _ _ _ _ => q.wf
  | .wbar q _ _ => q.wf
  | .wptp q _ => q.wf
  | .wq q => q.wf
  | .shotBegin q _ _ _ _ _ => q.wf
  | .shotEnd q => q.wf
  | .opEnd q => q.wf
  | .illegalInstruction q => q.wf
  | .timedDispatch q => q.wf
  | .patternEnd tgt => tgt.wf
  | .markerPulseEnd tile m => decide (tile < 16) && decide (m < 32)
  | .waitTimeout q => q.wf
  | .threadWake q => q.wf
  | .triggerArrival q _ => q.wf
  | .barrierRelease b => decide (b < 64)
  | .ptpTimeDue q => q.wf
  | .launchStart q => q.wf
  | .drainComplete q => q.wf
  | .faultCompletion q => q.wf
  | .shotCommit _ => true
  | .pauseEnd q => q.wf
  | .faultDetected f => decide (1 ≤ f.cls ∧ f.cls ≤ 8) && decide (f.tile < 16)
  | .replayResume q => q.wf
  | .leaveActive => true
  | .powerTransitionComplete => true
  | .wakeEvent => true
  | .pllLock => true
  | .refLost => true
  | .refOkRestore => true
  | .syncEdge e => decide (e.age ≤ 65535)
  | .forestTimeLoad => true
  | .xtalAgeingUpdate => true
  | .xtalAccumCommit => true
  | .skewCalDone m => decide (0 < m.parentDen)
  | .ptpMessageRx _ => true
  | .ptpSyncTx => true
  | .counterLowRead req addr => req.wf && decide (addr % 8 = 0)
  | .bobbinRefillRequest _ _ => true
  | .bobbinRefillData _ _ data => !data.isEmpty
  | .bobbinLoopJump _ _ => true
  | .adcOverRange _ _ _ => true
  | .corrPeriodCopy _ est => (match est with | some ws => decide (ws.length = 16) | none => true)
  | .corrApply _ => true
  | .windowOpen _ c => decide (c.toNat < 24)
  | .windowEnd _ c _ => decide (c.toNat < 24)
  | .demodBankApply _ c => decide (c.toNat < 24)
  | .trainingDone _ => true
  | .traceTrigger _ => true
  | .traceDone _ samples => decide (samples.length = 131072)
  | .frame d => d.wf 0x28
  | .patchAssembly _ => true
  | .patchResult _ => true
  | .defectForwardRx _ => true
  | .laneLossOfSignal _ => true
  | .laneDetect _ _ => true
  | .laneTrained _ _ _ _ => true
  | .laneLocked _ _ => true
  | .laneAligned _ _ => true
  | .laneExchanged _ _ _ _ => true
  | .laneStateTimeout _ => true
  | .quietBackoffEnd _ => true
  | .eqGuardPeriod _ transitions exc _ _ => decide (transitions.toNat ≤ 65536) && decide (exc.toNat ≤ 65536)
  | .markerTx _ => true
  | .markerRx _ _ _ _ => true
  | .stitchTx _ => true
  | .decisionStitchRx _ _ => true
  | .expectationTick _ _ => true
  | .laneLoss _ => true
  | .bulkStitchRx _ _ => true
  | .bulkRetransmit _ => true
  | .bulkRetryExhausted _ => true
  | .arrive _ _ _ _ => true
  | .release _ _ _ _ => true
  | .unpickRx _ _ _ _ => true
  | .pauseRx _ _ _ _ => true
  | .down _ _ _ => true
  | .up _ _ _ => true
  | .biasUpdate _ loads => loads.all (fun x => decide (x.out < 192))
  | .biasClrN _ _ => true
  | .biasDieReady _ => true
  | .parkTableTimeout _ => true
  | .parkTableRx _ table => decide (table.length = 192)
  | .biasDriftTrack _ b => decide (b.toNat < 192)
  | .fluxBankApply _ k => decide (k.toNat < 12)
  | .flxFitDone _ => true
  | .tdcEdge n _ => decide (n.toNat < 20)
  | .tdcWindowExpiry u => decide (u.toNat < 12)
  | .tdcHeldStopExpiry u => decide (u.toNat < 12)
  | .tdcRecoveryEnd u => decide (u.toNat < 12)
  | .tdcRecalibrate u => decide (u.toNat < 12)
  | .tdcQueuePop u req => decide (u.toNat < 12) && req.wf
  | .ptCalEdge => true
  | .monTimerStart _ => true
  | .monSeamStart _ => true
  | .monConversionDone _ _ => true
  | .seamEvent _ => true
  | .tackFilterExpiry _ => true
  | .timerOrigin _ => true
  | .timerExpiry _ => true
  | .logPop req => req.wf
  | .kenperMDatagram link _ _ _ => decide (link < 8)
  | .linkChange _ _ => true
  | .qpError _ _ => true
  | .ackTimeout _ => true
  | .rocePacketRx _ _ => true
  | .ecnCeRx _ => true
  | .cnpRx _ => true
  | .rateRecovery _ => true
  | .doorbell _ _ _ => true
  | .inlineSend _ _ => true
  | .descriptorFetch _ => true
  | .descriptorBegin _ => true
  | .descNop d => d.wf 0x00
  | .badDescriptor d => decide (d.w.length = 8)
  | .regWrite d => d.wf 0x01
  | .param d => d.wf 0x02
  | .paramApply q => q.wf
  | .load d => d.wf 0x10
  | .loadData _ _ bytes => !bytes.isEmpty
  | .read d => d.wf 0x11
  | .share d => d.wf 0x12
  | .shareAck _ _ _ => true
  | .launch d => d.wf 0x20
  | .feed d => d.wf 0x30
  | .completionWrite => true
  | .holdingAreaMove _ => true
  | .resultBatch _ => true
  | .rqPop _ req => req.wf
  | .scrubRead _ tile _ _ => decide (tile < 16)
  | .modelUpdate sens => decide (sens.length = 24) && sens.all (fun x => !x.points.isEmpty)
  | .diodeRead readings => decide (readings.length = 16)
  | .heartwoodWriteStart => true
  | .heartwoodWriteDone _ => true
  | .heartwoodWriteReject => true
  | .flashOpDone _ => true
  | .supplyGood _ => true
  | .biasSupplyGood _ _ => true
  | .railFall _ _ => true
  | .rstN _ _ => true
  | .boot => true
  | .firmwareVerified _ => true
  | .bootComplete => true
  | .quadrantReady _ => true
  | .trainingStitchRx _ => true
  | .stitchSlotInvalid _ => true
  | .ptpDelayReqTx => true
  | .rnrRetryTimer _ => true
  | .ethernetFrameRx _ _ => true
  | .kenperMResponse => true
  | .adcCodeClip _ _ _ => true
  | .threadStop q w => q.wf && w.wf
  | .flushLq q w => q.wf && w.wf
  | .powerRequest w => w.wf
  | .refCfgWrite w => w.wf
  | .relock w => w.wf
  | .syncArmWrite w => w.wf
  | .skewCalStart w => w.wf
  | .ptpIncrWrite w => w.wf
  | .ptpStep w => w.wf
  | .latchGo w => w.wf
  | .directoryWord1Write _ w => w.wf
  | .directoryCommit _ w => w.wf
  | .synChCfgWrite _ _ w => w.wf
  | .bobbinCfgWrite _ _ w => w.wf
  | .bobbinReset _ _ w => w.wf
  | .bobbinLoopWrite _ _ _ w => w.wf
  | .adcCfgWrite _ w => w.wf
  | .corrCommit _ w => w.wf
  | .corrForce _ w => w.wf
  | .demodCommit _ c w => decide (c.toNat < 24) && w.wf
  | .trainingStart _ w => w.wf
  | .trainingAbort _ w => w.wf
  | .traceGo _ w => w.wf
  | .decClear w => w.wf
  | .pdcEnable w => w.wf
  | .laneCfgWrite _ w => w.wf
  | .expTimerWrite _ _ w => w.wf
  | .barWrite _ w => w.wf
  | .devWrite w => w.wf
  | .biasLinkCommand _ addr w _ => w.wf && decide (addr % 4 = 0)
  | .biasApply _ w => w.wf
  | .biasOutputWrite _ b _ w => w.wf && decide (b.toNat < 192)
  | .fluxEnableWrite _ k w => decide (k.toNat < 12) && w.wf
  | .fluxLvlWrite _ k w => decide (k.toNat < 12) && w.wf
  | .fluxCommit _ k w => decide (k.toNat < 12) && w.wf
  | .flxFitStart _ w => w.wf
  | .flxFitAbort _ w => w.wf
  | .tdcUnitCfgWrite u w => decide (u.toNat < 12) && w.wf
  | .tdcQueueFlush u w => decide (u.toNat < 12) && w.wf
  | .statGo u w => decide (u.toNat < 12) && w.wf
  | .monStart _ w => w.wf
  | .monUrgentGo _ w => w.wf
  | .seamChWrite addr w => w.wf && decide (addr % 4 = 0)
  | .srcOwnWrite _ w => w.wf
  | .timerGo _ w => w.wf
  | .timerStop _ w => w.wf
  | .claimWrite addr w => w.wf && decide (addr % 4 = 0)
  | .logFlush w => w.wf
  | .registerWrite addr w => w.wf && decide (addr % 4 = 0)
  | .counterClear addr w => w.wf && decide (addr % 4 = 0)
  | .setupLock w => w.wf
  | .portCfgWrite _ w => w.wf
  | .qpReset _ w => w.wf
  | .qpInit _ w => w.wf
  | .qpRtr _ w => w.wf
  | .qpRts _ w => w.wf
  | .ringCfgWrite _ _ w => w.wf
  | .rqReset _ w => w.wf
  | .rqDeliverWrite _ w => w.wf
  | .hostPolicyWrite _ w => w.wf
  | .save w => w.wf
  | .flashProgram w => w.wf
  | .flashErase w => w.wf
  | .reboot w => w.wf

end Sys2Proof
end

