-- ==== Sys2Proof/Certificates/Slice0/Obligations.lean ====
section
/-! DEFINITION. What is claimed of the block: one Prop a statement, each of them over every state and
operand that meets its hypotheses.  A claim is a part of a statement; the statements of several parts stand
at the end. -/

section

/-! What the statements are written in. -/

namespace Sys2Proof.Claim

open Sys2Proof Machine Fld

/-- The command is carried out, and the next state has a property. -/
def Ends (o : Host.Outcome State Fault Refusal) (P : State → Prop) : Prop := ∃ t, o = .next t ∧ P t

/-- The thread can issue in this tick, and SECDED can correct the word at its PC (R72-R74, R339). -/
def Ready (s : State) (q : Thr) : Prop :=
  s.canIssue q = true ∧ s.poisoned 0x01 q.tile (s.thread q).pc = false

/-- Beside the threads and the bookkeeping of the issue slots everything stands as before: every register,
every byte of memory, every slot, queue and counter; and of the threads only q has changed. -/
def OnlyThread (s t : State) (q : Thr) : Prop :=
  t = { s with threads := t.threads, ordSlot := t.ordSlot, priSlot := t.priSlot }
    ∧ ∀ p, p ≠ q → t.thread p = s.thread p

/-- A thread after an issue of a cost: PC + 1, ready again that many ticks on, one priority issue used. -/
def Issued (x : Thread) (tick cost : Nat) : Thread :=
  { x with pc := x.pc + 1, readyAt := tick + cost, prio := x.prio - 1 }

/-- RD holds v, every other register and everything else of the thread is as the issue leaves it. -/
def Wrote (s t : State) (q : Thr) (rd : BitVec 5) (v : Word) (cost : Nat) : Prop :=
  OnlyThread s t q ∧ (t.thread q).reg rd = v
    ∧ (∀ r, r ≠ rd → (t.thread q).reg r = (s.thread q).reg r)
    ∧ t.thread q = { Issued (s.thread q) s.tick cost with g := (t.thread q).g }

/-- The thread goes on at a word; nothing but its PC, its readiness and its priority has changed. -/
def WentTo (s t : State) (q : Thr) (pc : Nat) : Prop :=
  OnlyThread s t q ∧ t.thread q = { Issued (s.thread q) s.tick 4 with pc := pc }

/-- The cursor stands at a count of fine steps, modulo 2^68 (R62, R63). -/
def CursorAt (s t : State) (q : Thr) (n : Int) : Prop :=
  OnlyThread s t q
    ∧ ((t.thread q).tc.toNat * 16 + (t.thread q).tcf.toNat : Int) = n % (2 ^ 68 : Int)
    ∧ t.thread q = { Issued (s.thread q) s.tick 1 with tc := (t.thread q).tc, tcf := (t.thread q).tcf }

/-- The cursor of a thread in fine steps. -/
def cursor (x : Thread) : Int := (x.tc.toNat * 16 + x.tcf.toNat : Int)

/-- Only the thread q, the issue slots, and what of the shots a wait may end has changed. -/
def OnlyThreadAndShots (s t : State) (q : Thr) : Prop :=
  t = { s with threads := t.threads, ordSlot := t.ordSlot, priSlot := t.priSlot, shots := t.shots }
    ∧ ∀ p, p ≠ q → t.thread p = s.thread p

/-- A program error: the thread is Faulted with the code, its queue is empty, it waits for nothing. -/
def Errs (t : State) (q : Thr) (code : Nat) : Prop :=
  (t.thread q).st = .faulted ∧ (t.thread q).faultDue = some (code, t.tick + 2000)
    ∧ (t.thread q).queue = [] ∧ (t.thread q).wait = none

/-- A wait has ended in the tick of its issue: WS and WT, and issue again 3 ticks on (R77); of the rest of the
thread only its trigger inputs and its barrier generations may have changed. -/
def WaitEnded (s t : State) (q : Thr) (ws : BitVec 2) (wt : Word) : Prop :=
  let x := { Issued (s.thread q) s.tick 1 with
    trigs := (t.thread q).trigs, barGen := (t.thread q).barGen }
  t.thread q = { x with st := .running, wait := none, ws := ws, wt := wt, readyAt := s.tick + 3 }

/-- The thread is Waiting for a condition, undecided, with a timeout tick or none (R80). -/
def WaitsFor (t : State) (q : Thr) (c : WaitCond) (timeout : Option Word) : Prop :=
  (t.thread q).st = .waiting ∧ (t.thread q).wait = some { cond := c, timeout := timeout, wake := none }

/-- An issue of cost 1 has left the thread Waiting for a condition; of the rest of it only its trigger inputs
may have changed. -/
def WaitStarted (s t : State) (q : Thr) (c : WaitCond) (timeout : Option Word) : Prop :=
  let x := { Issued (s.thread q) s.tick 1 with trigs := (t.thread q).trigs }
  t.thread q = { x with st := .waiting, wait := some { cond := c, timeout := timeout, wake := none } }

/-- A wait has been decided: WS and WT are there, and the thread issues again 3 ticks on (R77). -/
def Decided (s t : State) (q : Thr) (ws : BitVec 2) (wt : Word) : Prop :=
  (t.thread q).st = .waiting ∧ (t.thread q).ws = ws ∧ (t.thread q).wt = wt
    ∧ ∃ w, (t.thread q).wait = some w ∧ w.wake = some (s.tick + 3)

/-- TC + TMO, or no timeout for TMO = 0 (R80). -/
def timeoutTick (x : Thread) (tmo : BitVec 32) : Option Word :=
  if tmo = 0 then none else some (x.tc + tmo.setWidth 64)

/-- A timed command has joined the thread's queue with its stamp (R63, R79): nothing but the thread, and
for an `acq` in a scope its shot, has changed. -/
def Queued (s t : State) (q : Thr) (sm : BitVec 2) (kind : TimedKind) (adv : Nat) : Prop :=
  let x := s.thread q
  let y := t.thread q
  t = { s with threads := t.threads, ordSlot := t.ordSlot, priSlot := t.priSlot, shots := t.shots }
    ∧ (∀ p, p ≠ q → t.thread p = s.thread p)
    ∧ y.queue = x.queue ++ [{ kind := kind, stamp := if sm = 1 then s.ft + 39 else x.tc,
                              fine := if sm = 1 then 0 else x.tcf, issued := s.tick, shot := x.shot }]
    ∧ y.pc = x.pc + 1 ∧ y.readyAt = s.tick + 1 ∧ y.g = x.g ∧ y.wt = x.wt ∧ y.ws = x.ws ∧ y.lc = x.lc
    ∧ (sm ≠ 2 → y.tc = x.tc ∧ y.tcf = x.tcf)
    ∧ (sm = 2 → cursor y = (cursor x + adv) % (2 ^ 68 : Int))
    ∧ ((∀ mask len, kind ≠ .acq mask len) → t.shots = s.shots)

/-- A write of a register lands: the register exists, the requester reaches it, and the bias die it lies
on, if it lies on one, is ready (R8-R10, R311; 08 R250). -/
def Lands (s : State) (r : Reg) (w : WriteOp) : Prop :=
  r.exists = true ∧ s.reaches w.req.domain r (s.merged r w) = true
    ∧ (r.onBiasDie = true → s.bitAt dieStatus_BREADY r.die = true) ∧ s.undef = none

/-- A write that lands with a starting bit set. -/
def Strikes (s : State) (f : RField) (w : WriteOp) : Prop := Lands s f.reg w ∧ strobe w.bits f = true

/-- Every register but those named stands. -/
def OnlyRegs (s t : State) (rs : List Reg) : Prop := ∀ r, r ∉ rs → t.reg r = s.reg r

end Sys2Proof.Claim

open Sys2Proof Machine Fld Claim

/-! The block. -/

/-- A step with a command at the front of the queue is that command on the queue's rest. -/
def Obligations.StepRunsTheFrontCommand : Prop :=
  ∀ (c : Instr) (s : State), step { s with pending := c :: s.pending } = exec c s

/-- An empty queue in phases 0 and 1 lets the needles issue, then the triggers and timeouts arrive; no
time passes and nothing else changes (log entry 1: the order of a tick is the model's choice). -/
def Obligations.EmptyQueueIssuesThenTakesArrivals : Prop :=
  ∀ s : State, s.pending = [] →
    (s.phase = 0 → step s = .next { s with pending := s.issueCommands, phase := 1 })
    ∧ (s.phase = 1 → step s = .next { s with pending := s.arrivals, phase := 2 })

/-- A tick edge: the device tick counts; forest time counts exactly while the RF PLL is locked. -/
def Obligations.ForestTimeCountsWhileThePllIsLocked : Prop :=
  ∀ s : State, s.clocks.tick = s.tick + 1
    ∧ (s.on timeStatus_PLL_LOCK = true → s.clocks.ft = s.ft + 1)
    ∧ (s.on timeStatus_PLL_LOCK = false → s.clocks.ft = s.ft ∧ s.clocks.ptpNs = s.ptpNs)
    ∧ s.clocks.regs = s.regs ∧ s.clocks.mem = s.mem ∧ s.clocks.threads = s.threads

/-- What reset leaves where the spec's tables give a value, and an idle, empty block. -/
def Obligations.ResetLeavesTheTablesValues : Prop :=
  State.reset.pending = [] ∧ State.reset.rd globalBoot_STAGE = 0
    ∧ (∀ q : Thr, (State.reset.thread q).st = .idle ∧ (State.reset.thread q).startLead = 1000
        ∧ (State.reset.thread q).jointTmo = 100)
    ∧ (∀ q : Nat, State.reset.rd (qpCtrl_STATE q) = 0)
    ∧ (∀ l : Nat, State.reset.rd (laneStatus_STATE l) = 0)
    ∧ (∀ n : Nat, State.reset.slot n = Slot.empty)
    ∧ State.reset.ledger = 0 ∧ State.reset.undef = none

/-- The memory of the reset state has its canonical form. -/
def Obligations.ResetMemoryIsCanonical : Prop := Inv State.reset

/-- Every step keeps the memory's canonical form: addresses strictly rising, no entry that reads as an
unlisted byte. -/
def Obligations.EveryStepKeepsMemoryCanonical : Prop :=
  ∀ s t : State, Inv s → step s = .next t → Inv t

/-! Decoding of needle words. -/

/-- Words written out from the formats of R76: the spec's own example of R79, one word of each format, and an
undefined opcode. -/
def Obligations.NeedleWordsDecodeAsTheFormatsSay : Prop :=
  ∀ q : Thr,
    decodeNeedle q 0x4092528004000000 = .play q 2 false true 4 0xA5 0x400 0
    ∧ decodeNeedle q 0 = .nop q
    ∧ decodeNeedle q 0x0118440000000000 = .add q 3 1 2
    ∧ decodeNeedle q 0x11FF8000FFFFFFFE = .addi q 31 30 0xFFFFFFFE
    ∧ decodeNeedle q 0x2029800000001FFF = .ld q 5 6 0x1FFF
    ∧ decodeNeedle q 0x21018E0000000001 = .st q 6 7 1
    ∧ decodeNeedle q 0x2443800000000000 = .mfs q 8 14
    ∧ decodeNeedle q 0x314A80000001FFFF = .beq q 9 10 0x1FFFF
    ∧ decodeNeedle q 0x4591908000000006 = .setp q 2 true 3 0x21 6
    ∧ decodeNeedle q 0x4840800001010000 = .acq q 1 0x800001 0x10000
    ∧ decodeNeedle q 0x4C00011F0000000A = .mark q 0 1 31 10
    ∧ decodeNeedle q 0x5080000300000000 = .emit q 2 3
    ∧ decodeNeedle q 0x626D5E4000000064 = .wdec q 13 0xABC true 100
    ∧ decodeNeedle q 0x70D500000000004D = .shotBegin q true true false 42 77
    ∧ decodeNeedle q 0xFF00000000000000 = .illegalInstruction q

/-- Decoding what the encoder writes gives the instruction back: no operand bit is dropped. -/
def Obligations.DecodingAnEncodedNeedleWordGivesItBack : Prop :=
  ∀ (i : Instr) (q : Thr) (w : Word), encodeNeedle i = some (q, w) → decodeNeedle q w = i

/-! The needles (03_threads). -/

/-- `nop` and the arithmetic on two registers: RD takes the result of R76, at cost 1 (`mul`: 3); nothing
else changes but PC, readiness and priority. -/
def Obligations.RegisterArithmeticWritesOnlyRd : Prop :=
  ∀ (q : Thr) (rd ra rb : BitVec 5) (s : State), Ready s q →
    let a := (s.thread q).reg ra
    let b := (s.thread q).reg rb
    Ends (exec (.nop q) s) (fun t => OnlyThread s t q ∧ t.thread q = Issued (s.thread q) s.tick 1)
    ∧ Ends (exec (.add q rd ra rb) s) (fun t => Wrote s t q rd (a + b) 1)
    ∧ Ends (exec (.sub q rd ra rb) s) (fun t => Wrote s t q rd (a - b) 1)
    ∧ Ends (exec (.andR q rd ra rb) s) (fun t => Wrote s t q rd (a &&& b) 1)
    ∧ Ends (exec (.orR q rd ra rb) s) (fun t => Wrote s t q rd (a ||| b) 1)
    ∧ Ends (exec (.xorR q rd ra rb) s) (fun t => Wrote s t q rd (a ^^^ b) 1)
    ∧ Ends (exec (.shl q rd ra rb) s) (fun t => Wrote s t q rd (a <<< (b.toNat % 64)) 1)
    ∧ Ends (exec (.shr q rd ra rb) s) (fun t => Wrote s t q rd (a >>> (b.toNat % 64)) 1)
    ∧ Ends (exec (.sar q rd ra rb) s) (fun t => Wrote s t q rd (a.sshiftRight (b.toNat % 64)) 1)
    ∧ Ends (exec (.mul q rd ra rb) s) (fun t => Wrote s t q rd (a * b) 3)
    ∧ Ends (exec (.minS q rd ra rb) s) (fun t =>
        Wrote s t q rd (BitVec.ofInt 64 (min a.toInt b.toInt)) 1)
    ∧ Ends (exec (.maxS q rd ra rb) s) (fun t =>
        Wrote s t q rd (BitVec.ofInt 64 (max a.toInt b.toInt)) 1)
    ∧ Ends (exec (.slt q rd ra rb) s) (fun t => Wrote s t q rd (if a.toInt < b.toInt then 1 else 0) 1)
    ∧ Ends (exec (.sltu q rd ra rb) s) (fun t => Wrote s t q rd (if a.toNat < b.toNat then 1 else 0) 1)

/-- Arithmetic with an immediate, sign-extended to 64 bits, and the two loads of an immediate (R76). -/
def Obligations.ImmediateArithmeticWritesOnlyRd : Prop :=
  ∀ (q : Thr) (rd ra : BitVec 5) (imm : BitVec 32) (s : State), Ready s q →
    let a := (s.thread q).reg ra
    let k : Word := BitVec.ofInt 64 imm.toInt
    Ends (exec (.addi q rd ra imm) s) (fun t => Wrote s t q rd (a + k) 1)
    ∧ Ends (exec (.andi q rd ra imm) s) (fun t => Wrote s t q rd (a &&& k) 1)
    ∧ Ends (exec (.ori q rd ra imm) s) (fun t => Wrote s t q rd (a ||| k) 1)
    ∧ Ends (exec (.xori q rd ra imm) s) (fun t => Wrote s t q rd (a ^^^ k) 1)
    ∧ Ends (exec (.shli q rd ra imm) s) (fun t => Wrote s t q rd (a <<< (imm.toNat % 64)) 1)
    ∧ Ends (exec (.shri q rd ra imm) s) (fun t => Wrote s t q rd (a >>> (imm.toNat % 64)) 1)
    ∧ Ends (exec (.sari q rd ra imm) s) (fun t => Wrote s t q rd (a.sshiftRight (imm.toNat % 64)) 1)
    ∧ Ends (exec (.muli q rd ra imm) s) (fun t => Wrote s t q rd (a * k) 3)
    ∧ Ends (exec (.ldi q rd imm) s) (fun t => Wrote s t q rd k 1)
    ∧ Ends (exec (.ldih q rd imm) s) (fun t =>
        Wrote s t q rd (BitVec.ofNat 64 (imm.toNat * 2 ^ 32 + ((s.thread q).reg rd).toNat % 2 ^ 32)) 1)

/-- Loads (R76): `ld` the data word at (RA + OFF) mod 8,192, `ldd` the slot word as it stood before this tick
(R174), `ldf` the ledger bits (X, Z) of a qubit slot or 0 from slot 384 on (R183). -/
def Sys2Proof.Claim.LoadsWriteOnlyRd : Prop :=
  ∀ (q : Thr) (rd ra : BitVec 5) (off : BitVec 13) (s : State), Ready s q →
    let a := ((s.thread q).reg ra + off.setWidth 64).toNat
    (s.poisoned 0x02 q.tile (a % 8192) = false →
      Ends (exec (.ld q rd ra off) s) (fun t => Wrote s t q rd (s.memWord .data q.tile (a % 8192)) 2))
    ∧ ((s.slot (a % 4096)).bad = false →
      Ends (exec (.ldd q rd ra off) s) (fun t => Wrote s t q rd (s.slotSeen (a % 4096)) 2))
    ∧ ((a < 384 → s.poisoned 0x06 0 (a / 32) = false) →
      Ends (exec (.ldf q rd ra off) s) (fun t => Wrote s t q rd
        (if a < 384 then BitVec.ofNat 64 ((if s.ledgerSeen.getLsbD (2 * a) then 1 else 0)
          + (if s.ledgerSeen.getLsbD (2 * a + 1) then 2 else 0)) else 0) 2))

/-- A store writes the data word at (RA + OFF) mod 8,192: it reads back as RB, every byte outside its
eight reads as before, its poison is gone, and every register of the needle and of the map stands. -/
def Sys2Proof.Claim.StoreWritesOneDataWord : Prop :=
  ∀ (q : Thr) (ra rb : BitVec 5) (off : BitVec 13) (s : State), Ready s q → Inv s →
    let i := ((s.thread q).reg ra + off.setWidth 64).toNat % 8192
    let a := Space.data.base q.tile + 8 * i
    Ends (exec (.st q ra rb off) s) (fun t =>
      t.memWord .data q.tile i = (s.thread q).reg rb
      ∧ (∀ x, (x < a ∨ a + 8 ≤ x) → Mem.read t.mem x = Mem.read s.mem x)
      ∧ t.poisoned 0x02 q.tile i = false
      ∧ (∀ l u n, (l, u, n) ≠ (0x02, q.tile, i) → t.poisoned l u n = s.poisoned l u n)
      ∧ t.thread q = Issued (s.thread q) s.tick 2 ∧ (∀ p, p ≠ q → t.thread p = s.thread p)
      ∧ t.regs = s.regs ∧ t.slots = s.slots ∧ t.pending = s.pending)

/-- A load of a word that SECDED cannot correct, outside a shot and its commit: `ld` of a poisoned data word
ends the launch with fault code 0x09 and keeps RD; `ldd` of an uncorrectable slot reads it as lost, VALUE and
flags zero, and the thread runs on; each is a device fault, source 501 (R339-R343). -/
def Sys2Proof.Claim.PoisonedLoadIsAFault : Prop :=
  ∀ (q : Thr) (rd ra : BitVec 5) (off : BitVec 13) (s : State), Ready s q → s.shotOf q = none →
    let a := ((s.thread q).reg ra + off.setWidth 64).toNat
    (s.poisoned 0x02 q.tile (a % 8192) = true →
      Ends (exec (.ld q rd ra off) s) (fun t => (t.thread q).st = .faulted
        ∧ (t.thread q).faultDue = some (0x09, s.tick + 2000) ∧ (t.thread q).g = (s.thread q).g
        ∧ 501 ∈ t.seamRaised ∧ t.mem = s.mem))
    ∧ ((s.slot (a % 4096)).bad = true →
      Ends (exec (.ldd q rd ra off) s) (fun t => (t.thread q).reg rd = blanked (s.slotSeen (a % 4096)) 2
        ∧ (∀ r, r ≠ rd → (t.thread q).reg r = (s.thread q).reg r)
        ∧ (t.thread q).st = .running ∧ 501 ∈ t.seamRaised ∧ t.mem = s.mem))

/-- `mfs` copies a special register, `mts` writes one: TC, TCF, WT, WS, the loop counters (R71). -/
def Sys2Proof.Claim.SpecialRegistersAreReadAndWritten : Prop :=
  ∀ (q : Thr) (g : BitVec 5) (s : State), Ready s q →
    let x := s.thread q
    let v := x.reg g
    (∀ sr : BitVec 5, sr.toNat < 15 →
      Ends (exec (.mfs q g sr) s) (fun t => ∃ w, Wrote s t q g w 1
        ∧ (sr = 0 → w.toNat = x.pc % 2 ^ 17) ∧ (sr = 1 → w = x.tc) ∧ (sr = 2 → w.toNat = x.tcf.toNat)
        ∧ (sr = 3 → w = x.wt) ∧ (sr = 4 → w.toNat = x.ws.toNat)
        ∧ (∀ n : Fin 4, sr.toNat = 5 + n → w.toNat = (x.lc[n]).toNat)
        ∧ (sr = 9 → w = BitVec.ofNat 64 x.stack.length) ∧ (sr = 10 → w = BitVec.ofNat 64 (s.shotSpecial q))
        ∧ (sr = 11 → w = BitVec.ofNat 64 (q.idx % 8 + (q.tile % 16) * 8 + s.rd eswId_DEV * 2 ^ 8))
        ∧ (sr = 12 → w.toNat = x.launchTag.toNat)
        ∧ (sr = 13 → w = BitVec.ofNat 64 (64 - x.queue.length)) ∧ (sr = 14 → w = s.ft)))
    ∧ (∀ sr : BitVec 5, 1 ≤ sr.toNat → sr.toNat ≤ 8 →
      Ends (exec (.mts q g sr) s) (fun t => OnlyThread s t q ∧
        ∃ y, t.thread q = y ∧ y = { Issued x s.tick 1 with tc := y.tc, tcf := y.tcf, wt := y.wt, ws := y.ws, lc := y.lc }
          ∧ y.tc = (if sr = 1 then v else x.tc) ∧ y.tcf = (if sr = 2 then v.setWidth 4 else x.tcf)
          ∧ y.wt = (if sr = 3 then v else x.wt) ∧ y.ws = (if sr = 4 then v.setWidth 2 else x.ws)
          ∧ (∀ n : Fin 4, y.lc[n] = if sr.toNat = 5 + n then v.setWidth 32 else x.lc[n])))

/-- The cursor instructions (R62, R63, R76). -/
def Sys2Proof.Claim.CursorInstructionsMoveTheCursor : Prop :=
  ∀ (q : Thr) (ra : BitVec 5) (imm : BitVec 32) (s : State), Ready s q →
    let x := s.thread q
    Ends (exec (.opAt q ra) s) (fun t => CursorAt s t q ((x.reg ra).toNat * 16))
    ∧ Ends (exec (.adv q imm) s) (fun t => CursorAt s t q (cursor x + imm.toInt))
    ∧ Ends (exec (.advr q ra) s) (fun t => CursorAt s t q (cursor x + (x.reg ra).toInt))
    ∧ Ends (exec (.atw q imm) s) (fun t => CursorAt s t q (x.wt.toNat * 16 + imm.toInt))
    ∧ Ends (exec (.atnow q imm) s) (fun t => CursorAt s t q (s.ft.toNat * 16 + imm.toInt))

/-- Branches go to TARGET exactly when their condition holds, at cost 4 (R73, R76, R87). -/
def Sys2Proof.Claim.BranchesGoWhereTheirConditionSays : Prop :=
  ∀ (q : Thr) (ra rb : BitVec 5) (aux : BitVec 6) (target : BitVec 17) (s : State), Ready s q →
    let x := s.thread q
    let a := x.reg ra
    let b := x.reg rb
    let goes (i : Instr) (c : Prop) : Prop := Ends (exec i s) (fun t =>
      (c → WentTo s t q target.toNat) ∧ (¬ c → WentTo s t q (x.pc + 1)))
    Ends (exec (.jmp q target) s) (fun t => WentTo s t q target.toNat)
    ∧ goes (.beq q ra rb target) (a = b) ∧ goes (.bne q ra rb target) (a ≠ b)
    ∧ goes (.blt q ra rb target) (a.toInt < b.toInt) ∧ goes (.bge q ra rb target) (b.toInt ≤ a.toInt)
    ∧ goes (.bltu q ra rb target) (a.toNat < b.toNat) ∧ goes (.bgeu q ra rb target) (b.toNat ≤ a.toNat)
    ∧ goes (.bbs q ra aux target) (a.getLsbD aux.toNat = true)
    ∧ goes (.bbc q ra aux target) (a.getLsbD aux.toNat = false)
    ∧ (aux.toNat < 32 → goes (.bdv q ra aux target) (x.ws = 0 ∧ a.getLsbD aux.toNat = true)
        ∧ goes (.bdn q ra aux target) (x.ws = 0 ∧ a.getLsbD aux.toNat = false))
    ∧ (32 ≤ aux.toNat → goes (.bdv q ra aux target) False ∧ goes (.bdn q ra aux target) (x.ws = 0))
    ∧ goes (.bws q aux target) (aux.getLsbD x.ws.toNat = true)
    ∧ Ends (exec (.jr q ra) s) (fun t => WentTo s t q (a.toNat % 2 ^ 17))

/-- `loop` counts its loop counter down and branches until it is 0; at 0 it wraps and branches (R87). -/
def Sys2Proof.Claim.LoopCountsDownAndBranches : Prop :=
  ∀ (q : Thr) (aux : BitVec 6) (target : BitVec 17) (s : State), Ready s q →
    let x := s.thread q
    Ends (exec (.loop q aux target) s) (fun t => OnlyThread s t q ∧
      ∃ y, t.thread q = y ∧ y = { Issued x s.tick 4 with pc := y.pc, lc := y.lc }
        ∧ (∀ n : Fin 4, y.lc[n] = if n.val = aux.toNat % 4 then x.lc[n] - 1 else x.lc[n])
        ∧ (∀ n : Fin 4, n.val = aux.toNat % 4 → y.pc = if x.lc[n] = 1 then x.pc + 1 else target.toNat))

/-- `call` pushes the next word's address and `ret` takes it back; a seventeenth call and a return with
an empty stack are program errors 0x03 and 0x04 (R87). -/
def Sys2Proof.Claim.CallsAndReturnsKeepTheStack : Prop :=
  ∀ (q : Thr) (target : BitVec 17) (s : State), Ready s q →
    let x := s.thread q
    (x.stack.length < 16 → Ends (exec (.call q target) s) (fun t => OnlyThread s t q
      ∧ t.thread q = { Issued x s.tick 4 with pc := target.toNat, stack := BitVec.ofNat 17 (x.pc + 1) :: x.stack }))
    ∧ (16 ≤ x.stack.length → Ends (exec (.call q target) s) (fun t => Errs t q 0x03))
    ∧ (∀ a rest, x.stack = a :: rest → Ends (exec (.ret q) s) (fun t => OnlyThread s t q
      ∧ t.thread q = { Issued x s.tick 4 with pc := a.toNat, stack := rest }))
    ∧ (x.stack = [] → Ends (exec (.ret q) s) (fun t => Errs t q 0x04))

/-- The program errors of issue end the launch with their code: an opcode outside the table, a
reserved or read-only special register, a reserved stamp mode or marker action (0x02), and a bad target (0x06)
(R71, R76, R78, R79). That stamp mode 0b11 goes before a bad target, and a full queue before both, is the
model's choice, log entry 112. -/
def Sys2Proof.Claim.IllegalIssueIsAProgramError : Prop :=
  ∀ (q : Thr) (s : State), Ready s q →
    let errs (code : Nat) (i : Instr) : Prop := Ends (exec i s) (fun t => Errs t q code)
    errs 0x02 (.illegalInstruction q)
    ∧ (∀ g sr : BitVec 5, 15 ≤ sr.toNat → errs 0x02 (.mfs q g sr))
    ∧ (∀ g sr : BitVec 5, sr = 0 ∨ 9 ≤ sr.toNat → errs 0x02 (.mts q g sr))
    ∧ (∀ sm m width, errs 0x02 (.mark q sm 3 m width))
    ∧ ((s.thread q).queue.length < 64 →
      ∀ (d rs : Bool) (src : BitVec 5) (tgt : BitVec 8) (pat : BitVec 15) (scale : BitVec 16) (val : BitVec 32),
        errs 0x02 (.play q 3 d rs src tgt pat scale) ∧ errs 0x02 (.jseg q 3 d rs src tgt pat scale)
        ∧ errs 0x02 (.stage q 3 tgt pat) ∧ errs 0x02 (.setf q 3 src tgt)
        ∧ errs 0x02 (.setp q 3 rs src tgt val) ∧ errs 0x02 (.vz q 3 rs src tgt val)
        ∧ errs 0x02 (.flux q 3 rs src tgt val)
        ∧ (∀ mask len, errs 0x02 (.acq q 3 mask len)) ∧ (∀ act m width, errs 0x02 (.mark q 3 act m width))
        ∧ (∀ ev, errs 0x02 (.emit q 3 ev))
        ∧ ∀ sm : BitVec 2, sm ≠ 3 →
          (playTarget tgt = false → errs 0x06 (.play q sm d rs src tgt pat scale)
            ∧ errs 0x06 (.jseg q sm d rs src tgt pat scale) ∧ errs 0x06 (.stage q sm tgt pat))
          ∧ (toneTarget tgt = false → errs 0x06 (.setf q sm src tgt) ∧ errs 0x06 (.setp q sm rs src tgt val)
            ∧ errs 0x06 (.vz q sm rs src tgt val))
          ∧ (fluxTarget tgt = false → errs 0x06 (.flux q sm rs src tgt val)))

/-- `arm`: an armed-mode input is armed and its pending trigger discarded, a latched one loses its latch
(R81); no other input changes. -/
def Sys2Proof.Claim.ArmPreparesTheTriggerInput : Prop :=
  ∀ (q : Thr) (n : BitVec 3) (s : State), Ready s q → (s.thread q).trigs.length = 8 →
    let x := s.thread q
    Ends (exec (.arm q n) s) (fun t => OnlyThread s t q
      ∧ t.thread q = { Issued x s.tick 1 with trigs := (t.thread q).trigs }
      ∧ (t.thread q).trig n.toNat = (if x.trigMode.getLsbD n.toNat then { x.trig n.toNat with latch := none }
          else { x.trig n.toNat with armed := some s.tick, pending := none })
      ∧ ∀ m, m ≠ n.toNat → (t.thread q).trig m = x.trig m)

/-- `wtrig`: a pending trigger, or a set latch, ends it at once with WT := its arrival and is taken; a timeout
tick that has passed ends it with WS = 3 and WT := that tick (log entry 109); else the thread waits, an input in
armed mode armed (R80, R81). -/
def Sys2Proof.Claim.TriggerWaitTakesWhatHasArrived : Prop :=
  ∀ (q : Thr) (n : BitVec 3) (tmo : BitVec 32) (s : State), Ready s q → (s.thread q).trigs.length = 8 →
    let x := s.thread q
    let y := x.trig n.toNat
    let arrived := if x.trigMode.getLsbD n.toNat then y.latch else y.pending
    let last := timeoutTick x tmo
    let others (t : State) : Prop := OnlyThread s t q ∧ ∀ m, m ≠ n.toNat → (t.thread q).trig m = x.trig m
    (∀ w, arrived = some w → Ends (exec (.wtrig q n tmo) s) (fun t => others t ∧ WaitEnded s t q 0 w
        ∧ (if x.trigMode.getLsbD n.toNat then ((t.thread q).trig n.toNat).latch = none
           else ((t.thread q).trig n.toNat).pending = none)))
    ∧ (arrived = none → s.passed last = true →
        Ends (exec (.wtrig q n tmo) s) (fun t => others t ∧ WaitEnded s t q 3 (last.getD 0)))
    ∧ (arrived = none → s.passed last = false →
        Ends (exec (.wtrig q n tmo) s) (fun t => others t ∧ WaitStarted s t q (.trig n.toNat) last
          ∧ (x.trigMode.getLsbD n.toNat = false → ((t.thread q).trig n.toNat).armed.isSome = true)))

/-- `wdec`: a slot written at or after TC ends it at once with RD, WS := the word's status and WT := that
tick, unless the word is uncorrectable or a lost one that replays the thread's shot; a passed timeout ends it
with WS = 3; else the thread waits for the slot from TC on (R80, R83). -/
def Sys2Proof.Claim.DecisionWaitTakesTheSlot : Prop :=
  ∀ (q : Thr) (rd : BitVec 5) (idx : BitVec 12) (f : Bool) (tmo : BitVec 32) (s : State), Ready s q →
    let x := s.thread q
    let y := s.slot idx.toNat
    let last := timeoutTick x tmo
    (∀ w, y.wrote = some w → 0 ≤ dist64 w x.tc → y.bad = false → s.lostReplays q y = false →
      Ends (exec (.wdec q rd idx f tmo) s) (fun t => OnlyThreadAndShots s t q
        ∧ (y.lane = none ∨ x.shot = none → t.shots = s.shots)
        ∧ (t.thread q).reg rd = y.loaded f ∧ (∀ r, r ≠ rd → (t.thread q).reg r = x.reg r)
        ∧ (t.thread q).ws.toNat = statusOf y.word % 4 ∧ (t.thread q).wt = w
        ∧ t.thread q = { Issued x s.tick 1 with g := (t.thread q).g, ws := (t.thread q).ws, wt := w,
                                                readyAt := s.tick + 3 }))
    ∧ ((∀ w, y.wrote = some w → dist64 w x.tc < 0) → s.passed last = true →
      Ends (exec (.wdec q rd idx f tmo) s) (fun t => OnlyThread s t q ∧ WaitEnded s t q 3 (last.getD 0)))
    ∧ ((∀ w, y.wrote = some w → dist64 w x.tc < 0) → s.passed last = false →
      Ends (exec (.wdec q rd idx f tmo) s) (fun t => OnlyThread s t q
        ∧ WaitStarted s t q (.dec rd idx.toNat f x.tc) last))

/-- `wbar`: the thread waits at the barrier for its generation, and a participant's arrival counts; on a
barrier with remote participants a TMO of 1 to 512 acts as 513; a timeout tick that has passed ends it at once
with WS = 3, and a participant's next arrival counts for the next generation (R85, R86). -/
def Sys2Proof.Claim.BarrierWaitArrives : Prop :=
  ∀ (q : Thr) (b : BitVec 6) (tmo : BitVec 32) (s : State), Ready s q →
    let remote := s.on (eswBar_EN b.toNat)
    let tmo' : BitVec 32 := if remote = true ∧ 1 ≤ tmo.toNat ∧ tmo.toNat ≤ 512 then 513 else tmo
    let last := timeoutTick (s.thread q) tmo'
    let g := s.arrivalGen q b.toNat
    let frame (t : State) : Prop :=
      t = { s with threads := t.threads, ordSlot := t.ordSlot, priSlot := t.priSlot, bars := t.bars }
        ∧ (∀ p, p ≠ q → t.thread p = s.thread p)
        ∧ (s.takesPart q b.toNat = true → q ∈ ((t.bar b.toNat).at_ g).came)
        ∧ (s.takesPart q b.toNat = false → t.bars = s.bars)
    (s.passed last = false →
      Ends (exec (.wbar q b tmo) s) (fun t => frame t
        ∧ (s.takesPart q b.toNat = true → WaitStarted s t q (.bar b.toNat g true .wbar) last)
        ∧ (s.takesPart q b.toNat = false →
            WaitStarted s t q (.bar b.toNat (s.bar b.toNat).gen false .wbar) last)))
    ∧ (s.passed last = true →
      Ends (exec (.wbar q b tmo) s) (fun t => frame t ∧ WaitEnded s t q 3 (last.getD 0)
        ∧ (s.takesPart q b.toNat = true → Tab.get (t.thread q).barGen b.toNat 0 = g + 1)))

/-- `wptp` ends at once when PTP time has reached RA, else waits for it (R51); `wq` ends at once when the timed
queue is empty, else waits for it; both take WT := now when they end. -/
def Sys2Proof.Claim.PtpAndQueueWaits : Prop :=
  ∀ (q : Thr) (ra : BitVec 5) (s : State), Ready s q →
    let x := s.thread q
    (timeDue (x.reg ra) s.ptpNs = true →
      Ends (exec (.wptp q ra) s) (fun t => OnlyThreadAndShots s t q ∧ WaitEnded s t q 0 s.ft))
    ∧ (timeDue (x.reg ra) s.ptpNs = false →
      Ends (exec (.wptp q ra) s) (fun t => OnlyThreadAndShots s t q ∧ WaitStarted s t q (.ptp (x.reg ra)) none))
    ∧ (x.queue = [] → Ends (exec (.wq q) s) (fun t => OnlyThread s t q ∧ WaitEnded s t q 0 s.ft))
    ∧ (x.queue ≠ [] → Ends (exec (.wq q) s) (fun t => OnlyThread s t q ∧ WaitStarted s t q .queue none))

/-- The instructions that queue a timed command queue exactly that command with its stamp, and advance
the cursor under TC+ for `play` and `jseg` only (R76, R78, R79). -/
def Sys2Proof.Claim.TimedInstructionsQueueTheirCommandAtItsStamp : Prop :=
  ∀ (q : Thr) (sm : BitVec 2) (d rs : Bool) (src : BitVec 5) (tgt : BitVec 8) (pat : BitVec 15)
    (scale : BitVec 16) (val : BitVec 32) (mask : BitVec 24) (len : BitVec 17) (act ev : BitVec 2)
    (m : BitVec 5) (width : BitVec 16) (s : State),
    Ready s q → (s.thread q).queue.length < 64 → sm ≠ 3 →
    let r := (s.thread q).reg src
    let sc : Option (BitVec 16) := if d then none else if rs then some (r.setWidth 16) else some scale
    let adv := s.rd (dirWord1_LENGTH pat.toNat) * (if s.rd (dirWord0_TYPE pat.toNat) = 2 then 8 else 16)
    (playTarget tgt = true →
      Ends (exec (.play q sm d rs src tgt pat scale) s) (fun t => Queued s t q sm (.play tgt pat.toNat sc) adv)
      ∧ Ends (exec (.jseg q sm d rs src tgt pat scale) s) (fun t => Queued s t q sm (.jseg tgt pat.toNat sc) adv)
      ∧ Ends (exec (.stage q sm tgt pat) s) (fun t => Queued s t q sm (.stage tgt pat.toNat) 0))
    ∧ (toneTarget tgt = true →
      Ends (exec (.setf q sm src tgt) s) (fun t => Queued s t q sm (.setf tgt (r.setWidth 48)) 0)
      ∧ Ends (exec (.setp q sm rs src tgt val) s) (fun t =>
          Queued s t q sm (.setp tgt (if rs then r.setWidth 32 else val)) 0)
      ∧ Ends (exec (.vz q sm rs src tgt val) s) (fun t =>
          Queued s t q sm (.vz tgt (if rs then r.setWidth 48 else val.setWidth 48 <<< 16)) 0))
    ∧ (fluxTarget tgt = true → Ends (exec (.flux q sm rs src tgt val) s) (fun t =>
        Queued s t q sm (.flux (tgt.toNat % 32) (if rs then r.setWidth 16 else val.setWidth 16)) 0))
    ∧ Ends (exec (.acq q sm mask len) s) (fun t => Queued s t q sm (.acq mask len.toNat) 0)
    ∧ (act ≠ 3 → Ends (exec (.mark q sm act m width) s) (fun t =>
        Queued s t q sm (.mark act m.toNat width.toNat) 0))
    ∧ Ends (exec (.emit q sm ev) s) (fun t => Queued s t q sm (.emit ev.toNat) 0)

/-- With 64 commands queued no timed instruction issues: the thread is Full, its PC and its queue stand
(R67, R70); only the reserved marker action is still an error. -/
def Sys2Proof.Claim.AFullTimedQueueStallsTheThread : Prop :=
  ∀ (q : Thr) (sm act ev : BitVec 2) (d rs : Bool) (src m : BitVec 5) (tgt : BitVec 8) (pat : BitVec 15)
    (scale width : BitVec 16) (val : BitVec 32) (mask : BitVec 24) (len : BitVec 17) (s : State),
    s.canIssue q = true → 64 ≤ (s.thread q).queue.length →
    let stalls (i : Instr) : Prop := exec i s = .next (s.setThread q { s.thread q with st := .full })
    stalls (.play q sm d rs src tgt pat scale) ∧ stalls (.jseg q sm d rs src tgt pat scale)
    ∧ stalls (.stage q sm tgt pat) ∧ stalls (.setf q sm src tgt) ∧ stalls (.setp q sm rs src tgt val)
    ∧ stalls (.vz q sm rs src tgt val) ∧ stalls (.flux q sm rs src tgt val) ∧ stalls (.acq q sm mask len)
    ∧ (act ≠ 3 → stalls (.mark q sm act m width)) ∧ stalls (.emit q sm ev)

/-- A command at the head of its queue whose dispatch tick, 38 ticks before its stamp, is now leaves the
queue (R64, R65): `emit`, `mark`, `setf`, `setp` and `vz` act at their stamp, `flux` and a `play`, or a `jseg`
while nothing plays on its target, at the target's first sample instant from it, `stage` empties its target's
buffer, `acq` makes its request. -/
def Sys2Proof.Claim.CommandsDispatch38TicksAheadOfTheirStamp : Prop :=
  ∀ (q : Thr) (c : TimedCmd) (rest : List TimedCmd) (s : State),
    (s.thread q).queue = c :: rest → c.issued < s.tick → c.stamp = s.ft + 38 →
    ((s.thread q).dispTick = s.tick → (s.thread q).dispCount < 4) →
    let at_ := 16 * (s.tick + 38) + c.fine.toNat
    let whole (pat : Nat) : Prop := s.poisoned 0x04 0 (2 * pat) = false ∧ s.poisoned 0x04 0 (2 * pat + 1) = false
    let leaves (P : State → Prop) : Prop := Ends (exec (.timedDispatch q) s) (fun t =>
      (t.thread q).queue = rest ∧ (t.thread q).lastDispatch = s.ft ∧ (t.thread q).g = (s.thread q).g
        ∧ t.mem = s.mem ∧ P t)
    let acts (a : Nat) (k : ActKind) : Prop := leaves (fun t =>
      t.acts = s.acts ++ [{ thr := q, shot := c.shot, stamp := c.stamp, at_ := a, kind := k }])
    let still (a : Nat) (k : ActKind) : Prop := leaves (fun t => t.regs = s.regs
      ∧ t.acts = s.acts ++ [{ thr := q, shot := c.shot, stamp := c.stamp, at_ := a, kind := k }])
    (∀ ev, c.kind = .emit ev → still at_ (.emit ev))
    ∧ (∀ a m w, c.kind = .mark a m w → still at_ (.mark a m w))
    ∧ (∀ tgt v u ch k, c.kind = .setf tgt v → s.resolve q tgt = .tone u ch k → still at_ (.setf u ch k v))
    ∧ (∀ tgt v u ch k, c.kind = .setp tgt v → s.resolve q tgt = .tone u ch k → still at_ (.setp u ch k v))
    ∧ (∀ tgt v u ch k, c.kind = .vz tgt v → s.resolve q tgt = .tone u ch k → still at_ (.vz u ch k v))
    ∧ (∀ k v, c.kind = .flux k v → still ((at_ + 7) / 8 * 8) (.flux q.tile k v))
    ∧ (∀ tgt pat sc, c.kind = .play tgt pat sc → whole pat →
        let g := s.resolve q tgt
        acts (g.instant at_) (.play g (s.bodyOf g pat sc)))
    ∧ (∀ tgt pat sc, c.kind = .jseg tgt pat sc → whole pat → s.playingOn (s.resolve q tgt) = none →
        let g := s.resolve q tgt
        acts (g.instant at_) (.play g (s.bodyOf g pat sc)))
    ∧ (∀ tgt pat, c.kind = .stage tgt pat → whole pat →
        leaves (fun t => ∀ x ∈ t.staged, x.tgt ≠ s.resolve q tgt))
    ∧ (∀ mask len, c.kind = .acq mask len →
        leaves (fun t => ∃ a, t.acqReqs = s.acqReqs ++ [a] ∧ a.thr = q ∧ a.tile = q.tile ∧ a.shot = c.shot
          ∧ a.stamp = c.stamp ∧ a.mask = mask))

/-- A command that reaches the head after its dispatch tick is late: outside a shot its launch ends with
fault code 0x01 and nothing of its queue is dispatched (R66, R95). -/
def Sys2Proof.Claim.ALateCommandIsAFault : Prop :=
  ∀ (q : Thr) (c : TimedCmd) (rest : List TimedCmd) (s : State),
    (s.thread q).queue = c :: rest → c.issued < s.tick → timeDue (c.stamp - 38) s.ft = true →
    c.stamp - 38 ≠ s.ft → ((s.thread q).dispTick = s.tick → (s.thread q).dispCount < 4) →
    s.shotOf q = none → (s.thread q).st ≠ .idle → (s.thread q).st ≠ .faulted →
    Ends (exec (.timedDispatch q) s) (fun t => (t.thread q).st = .faulted
      ∧ (t.thread q).faultDue = some (0x01, s.tick + 2000) ∧ (t.thread q).queue = [] ∧ t.acts = s.acts
      ∧ 501 ∈ t.seamRaised)

/-! Shot scopes, launches and the events of a thread (03_threads, 12_integrity). -/

/-- `shot.begin` outside any scope, with the previous shot committed and nothing that holds it back, takes
the checkpoint and opens the shot (R89-R92): the thread's registers as they stand after the issue. -/
def Sys2Proof.Claim.ShotBeginOpensAScopeWithItsCheckpoint : Prop :=
  ∀ (q : Thr) (rep blk : Bool) (bar : BitVec 6) (reset : BitVec 32) (s : State), Ready s q →
    let x := s.thread q
    x.shot = none → x.prevShot = none → s.leavePending = false → s.undef = none → x.params = [] →
    s.rd canopyStatus_CANOPY_LEVEL = 0 → s.rd canopyStatus_CRYO_LEVEL = 0 → s.on modeThrottle_HOST = false →
    Ends (exec (.shotBegin q rep false blk bar reset) s) (fun t =>
      (t.thread q).shot = some s.nextShot ∧ (t.thread q).st = .running ∧ (t.thread q).prevShot = none
      ∧ (t.thread q).pc = x.pc + 1 ∧ (t.thread q).g = x.g ∧ (t.thread q).tc = x.tc ∧ (t.thread q).readyAt = s.tick + 6
      ∧ ∃ y p, t.shots = s.shots ++ [y] ∧ y.id = s.nextShot ∧ y.joint = false ∧ y.k = s.tick ∧ y.parts = [p]
        ∧ (y.replayable = true → rep = true) ∧ p.thr = q ∧ p.ended = none ∧ p.args.blk = blk ∧ p.args.reset = reset
        ∧ p.ck.g = x.g ∧ p.ck.pc = x.pc + 1 ∧ p.ck.tc = x.tc ∧ p.ck.tcf = x.tcf ∧ p.ck.wt = x.wt ∧ p.ck.ws = x.ws
        ∧ p.ck.lc = x.lc ∧ p.ck.stack = x.stack ∧ p.ck.trigs = x.trigs)

/-- What holds a `shot.begin` back: a scope already open is program error 0x05; a previous shot not yet
committed, or a request to leave Active, holds issue; a joint one waits at its barrier (R24, R90, R91, R96). -/
def Sys2Proof.Claim.ShotBeginIsHeldWaitsOrErrs : Prop :=
  ∀ (q : Thr) (rep joint blk : Bool) (bar : BitVec 6) (reset : BitVec 32) (s : State), Ready s q →
    s.undef = none → (s.thread q).st = .running →
    let x := s.thread q
    (x.shot.isSome = true → Ends (exec (.shotBegin q rep joint blk bar reset) s) (fun t =>
      (t.thread q).st = .faulted ∧ (t.thread q).faultDue = some (0x05, s.tick + 2000)))
    ∧ (x.shot = none → x.prevShot.isSome = true → Ends (exec (.shotBegin q rep joint blk bar reset) s) (fun t =>
      (t.thread q).hold = some .commit ∧ (t.thread q).shot = none ∧ t.shots = s.shots))
    ∧ (x.shot = none → x.prevShot = none → s.leavePending = true → x.inBlock = false →
      Ends (exec (.shotBegin q rep joint blk bar reset) s) (fun t =>
        (t.thread q).st = .held ∧ (t.thread q).hold = some .leave ∧ t.shots = s.shots))
    ∧ (x.shot = none → x.prevShot = none → s.leavePending = false →
      let last : Word := x.tc + BitVec.ofNat 64 (max 1 x.jointTmo * 1000)
      s.passed (some last) = false → s.takesPart q bar.toNat = true →
      Ends (exec (.shotBegin q rep true blk bar reset) s) (fun t =>
        WaitsFor t q (.bar bar.toNat (s.arrivalGen q bar.toNat) true .shotBegin) (some last)
        ∧ t.shots = s.shots ∧ q ∈ ((t.bar bar.toNat).at_ (s.arrivalGen q bar.toNat)).came))

/-- `shot.end` closes the scope at its tick and the thread goes on, of a joint shot it waits at its barrier;
outside a scope it, and inside one `end`, are program error 0x05; `end` outside a scope drains (R70, R90, R93). -/
def Sys2Proof.Claim.ShotEndAndEndCloseWhatTheyClose : Prop :=
  ∀ (q : Thr) (s : State), Ready s q →
    let x := s.thread q
    (∀ id, x.shot = some id → (∀ y, s.shotById id = some y → y.joint = false) →
      Ends (exec (.shotEnd q) s) (fun t => (t.thread q).shot = none ∧ (t.thread q).prevShot = some id
        ∧ (t.thread q).st = .running ∧ (t.thread q).readyAt = s.tick + 2 ∧ (t.thread q).g = x.g
        ∧ (∀ z ∈ t.shots, z.id = id → ∀ p ∈ z.parts, p.thr = q → p.ended = some s.tick)
        ∧ (∀ p, p ≠ q → t.thread p = s.thread p) ∧ t.regs = s.regs ∧ t.mem = s.mem))
    ∧ (∀ id y, x.shot = some id → s.shotById id = some y → y.joint = true →
      let last : Word := x.tc + BitVec.ofNat 64 (max 1 x.jointTmo * 1000)
      s.passed (some last) = false → s.takesPart q y.bar = true →
      Ends (exec (.shotEnd q) s) (fun t =>
        WaitsFor t q (.bar y.bar (s.arrivalGen q y.bar) true .shotEnd) (some last)
        ∧ q ∈ ((t.bar y.bar).at_ (s.arrivalGen q y.bar)).came ∧ t.regs = s.regs ∧ t.mem = s.mem))
    ∧ (x.shot = none → Ends (exec (.shotEnd q) s) (fun t =>
        (t.thread q).st = .faulted ∧ (t.thread q).faultDue = some (0x05, s.tick + 2000)))
    ∧ (x.shot.isSome = true → Ends (exec (.opEnd q) s) (fun t =>
        (t.thread q).st = .faulted ∧ (t.thread q).faultDue = some (0x05, s.tick + 2000)))
    ∧ (x.shot = none → Ends (exec (.opEnd q) s) (fun t => OnlyThread s t q
        ∧ t.thread q = { Issued x s.tick 1 with st := .draining }))

/-- A shot at its commit tick is gone from the open shots, and is no thread's previous shot any more; a
shot whose tick has not come stays as it is (R91, R93). -/
def Sys2Proof.Claim.AShotCommitsAtItsCommitTick : Prop :=
  ∀ (id : Nat) (x : Shot) (s : State), s.shotById id = some x → s.undef = none →
    (s.commits x = true → (∀ p ∈ x.parts, (s.thread p.thr).opening = none) →
      Ends (exec (.shotCommit id) s) (fun t => t.shots = s.shots.filter (fun y => y.id != id)
        ∧ (∀ p ∈ x.parts, (t.thread p.thr).prevShot ≠ some id) ∧ t.mem = s.mem ∧ t.ledger = s.ledger))
    ∧ (s.commits x = false → exec (.shotCommit id) s = .next s)

/-- A throttling pause ends: TC and WT move later by its length, and the scope opens there (R362); a request to
leave Active that has come meanwhile holds the thread (R24). -/
def Sys2Proof.Claim.APauseMovesTheCursorByItsLength : Prop :=
  ∀ (q : Thr) (a : ShotArgs) (last len : Nat) (s : State),
    let x := s.thread q
    x.opening = some a → x.pause = some (last, len) → x.hold = some .pause → last ≤ s.tick →
    (s.leavePending = false → s.undef = none → x.params = [] → x.wait = none →
      Ends (exec (.pauseEnd q) s) (fun t =>
        (t.thread q).tc = x.tc + BitVec.ofNat 64 len ∧ (t.thread q).wt = x.wt + BitVec.ofNat 64 len
        ∧ (t.thread q).st = .running ∧ (t.thread q).hold = none ∧ (t.thread q).pause = none
        ∧ (t.thread q).opening = none ∧ (t.thread q).shot.isSome = true
        ∧ (a.joint = false → (t.thread q).shot = some s.nextShot) ∧ (t.thread q).g = x.g ∧ t.mem = s.mem))
    ∧ (s.leavePending = true → x.inBlock = false → Ends (exec (.pauseEnd q) s) (fun t =>
        t.thread q = { x with hold := some .leave, pause := none } ∧ t = { s with threads := t.threads }))

/-- A launch that reaches the front of an Idle thread takes G0 to G3 from its descriptor, the entry's address
in PC, and zero in the other registers; in mode NOW, at a PTP time that has come, and at a set latch it runs
with TC and WT a start lead ahead, in mode AT with TC and WT at its tick; else it is Starting, an armed-mode
input armed (R97, R99). TCF := 0 in every mode is the model's choice, log entry 110. -/
def Sys2Proof.Claim.ALaunchStartsAtItsEntry : Prop :=
  ∀ (q : Thr) (l : Launch) (rest : List Launch) (pc : Nat) (s : State),
    let x := s.thread q
    x.lq = l :: rest → x.st = .idle → s.launchRefused q l = none → s.entryAddr q.tile l.entry = some pc →
    s.undef = none → x.params = [] → x.trigs.length = 8 →
    let lead : Nat := max 64 (bitsOf (s.reg ⟨.thrCfg, q.tile, q.idx, 0⟩) 16 16)
    let latched (n : Nat) : Bool := (s.reg ⟨.thrCfg, q.tile, q.idx, 0⟩).getLsbD n
    let takes (P : State → Prop) : Prop := Ends (exec (.launchStart q) s) (fun t =>
      (t.thread q).pc = pc ∧ (t.thread q).lq = rest ∧ (t.thread q).launch = some l
      ∧ (∀ n : Fin 4, (t.thread q).g[n.val] = l.args.getD n 0)
      ∧ (∀ n : Fin 32, 4 ≤ n.val → (t.thread q).g[n] = 0)
      ∧ (t.thread q).stack = [] ∧ (t.thread q).queue = [] ∧ (∀ n : Fin 4, (t.thread q).lc[n] = 0)
      ∧ (t.thread q).launchTag = l.desc.tag
      ∧ (∀ p, p ≠ q → t.thread p = s.thread p) ∧ t.mem = s.mem ∧ t.regs = s.regs ∧ P t)
    let runs (tc : Word) : Prop := takes (fun t => (t.thread q).st = .running ∧ (t.thread q).tc = tc
      ∧ (t.thread q).wt = tc ∧ (t.thread q).tcf = 0 ∧ (t.thread q).ws = 0 ∧ (t.thread q).readyAt = s.tick + 1)
    (l.mode = .now → runs (s.ft + BitVec.ofNat 64 lead))
    ∧ (∀ w, l.mode = .at w → runs w)
    ∧ (∀ ns, l.mode = .ptp ns → timeDue ns s.ptpNs = true → runs (s.ft + BitVec.ofNat 64 lead))
    ∧ (∀ ns, l.mode = .ptp ns → timeDue ns s.ptpNs = false → takes (fun t => (t.thread q).st = .starting))
    ∧ (∀ n, n < 8 → l.mode = .trig n → latched n = true → (x.trig n).latch.isSome = true →
        runs (s.ft + BitVec.ofNat 64 lead))
    ∧ (∀ n, n < 8 → l.mode = .trig n → latched n = true → (x.trig n).latch = none →
        takes (fun t => (t.thread q).st = .starting))
    ∧ (∀ n, n < 8 → l.mode = .trig n → latched n = false → takes (fun t => (t.thread q).st = .starting
        ∧ ((t.thread q).trig n).armed = some s.tick ∧ ((t.thread q).trig n).pending = none))

/-- A launch that R98 refuses completes without issuing, with its status and no fault code: the thread stays
Idle with its registers, and the completion waits for its ring, unless that discards (R98, R322, R328, R330). -/
def Sys2Proof.Claim.ARefusedLaunchNeverIssues : Prop :=
  ∀ (q : Thr) (l : Launch) (rest : List Launch) (status : Nat) (s : State), q.idx < 8 →
    (s.thread q).lq = l :: rest → (s.thread q).st = .idle → s.launchRefused q l = some status →
    Ends (exec (.launchStart q) s) (fun t => t.thread q = { s.thread q with lq := rest }
      ∧ t.rd (thrState_FAULT_CODE q.tile q.idx) = 0 ∧ t.bitAt (ndlStatus_FAULTED q.tile) q.idx = true
      ∧ (s.cplDiscards (s.rd (cmdCfg_CRING l.desc.ring)) = false →
          ∃ c : Cpl, t.cplWait = s.cplWait ++ [(s.rd (cmdCfg_CRING l.desc.ring), c)]
            ∧ c.opcode = l.desc.opcode ∧ c.status = status ∧ c.code = 0 ∧ c.tag = l.desc.tag)
      ∧ t.mem = s.mem)

/-- The ends of a launch: a drained one, and one that faulted, leave the thread Idle without a launch, and
complete with OK, or with FAULTED and the code; a fault shows its code and the tile's FAULTED bit; the general
registers keep their values (R70, R101, R328). -/
def Sys2Proof.Claim.ALaunchEndsInIdle : Prop :=
  ∀ (q : Thr) (s : State), q.idx < 8 →
    let x := s.thread q
    let completes (t : State) (status code : Nat) : Prop := ∀ l, x.launch = some l → l.desc.cpl = true →
      s.cplDiscards (s.rd (cmdCfg_CRING l.desc.ring)) = false →
      ∃ c : Cpl, t.cplWait = s.cplWait ++ [(s.rd (cmdCfg_CRING l.desc.ring), c)]
        ∧ c.opcode = l.desc.opcode ∧ c.status = status ∧ c.code = code ∧ c.tag = l.desc.tag
    (x.st = .draining → x.queue = [] → x.awaited = 0 → Ends (exec (.drainComplete q) s) (fun t =>
      (t.thread q).st = .idle ∧ (t.thread q).launch = none ∧ (t.thread q).g = x.g ∧ completes t 0 0
      ∧ (t.thread q).prevShot = x.prevShot ∧ t.mem = s.mem))
    ∧ (∀ code last, x.st = .faulted → x.faultDue = some (code, last) → code < 256 →
      Ends (exec (.faultCompletion q) s) (fun t =>
        (t.thread q).st = .idle ∧ (t.thread q).launch = none ∧ (t.thread q).faultDue = none
        ∧ (t.thread q).g = x.g ∧ t.rd (thrState_FAULT_CODE q.tile q.idx) = code ∧ completes t 0x10 code
        ∧ t.bitAt (ndlStatus_FAULTED q.tile) q.idx = true ∧ t.mem = s.mem))

/-- A rewound thread resumes at its resume tick after its `shot.begin`, or in its reset block as if called
from the `shot.begin`, which past depth 16 of the stack is program error 0x03 (R87, R94). -/
def Sys2Proof.Claim.AReplayResumesAtItsTick : Prop :=
  ∀ (q : Thr) (r : Rewind) (s : State),
    let x := s.thread q
    x.rewind = some r → x.st = .rewinding →
    (s.tick < r.resume → exec (.replayResume q) s = .next s)
    ∧ (r.resume ≤ s.tick → r.block = none → Ends (exec (.replayResume q) s) (fun t =>
      t = { s with threads := t.threads } ∧ (∀ p, p ≠ q → t.thread p = s.thread p)
      ∧ t.thread q = { x with st := .running, rewind := none, readyAt := s.tick }))
    ∧ (∀ addr, r.resume ≤ s.tick → r.block = some addr → x.stack.length < 16 →
      Ends (exec (.replayResume q) s) (fun t => (t.thread q).st = .running ∧ (t.thread q).pc = addr.toNat
        ∧ (t.thread q).stack = BitVec.ofNat 17 r.beginPc :: x.stack ∧ (t.thread q).shot = none
        ∧ (t.thread q).g = x.g ∧ t.mem = s.mem))
    ∧ (∀ addr, r.resume ≤ s.tick → r.block = some addr → 16 ≤ x.stack.length →
      Ends (exec (.replayResume q) s) (fun t => Errs t q 0x03))

/-- At the release tick of a barrier's generation every thread whose wait it ends, be it in `wbar` or at a
`shot.end`, is decided with WS = 0 and WT := that tick: those that wait for the generation, and those that wait
without taking part; no other thread changes, and the barrier goes on to its next generation (R85). -/
def Obligations.AReleaseEndsEveryBarrierWait : Prop :=
  ∀ (b last : Nat) (w : Word) (s : State), s.undef = none →
    let gen := (s.bar b).gen
    ((s.bar b).at_ gen).rel = some (last, w) → last ≤ s.tick →
    (∀ e ∈ s.waitersAt b, e.2.1 = gen ∨ e.2.2.1 = false → e.2.2.2 ≠ .shotBegin) →
    Ends (exec (.barrierRelease b) s) (fun t => (t.bar b).gen = gen + 1
      ∧ (∀ q : Thr, q.tile < 16 → q.idx < 8 → ∀ g part why,
          (s.thread q).waitingOn = some (.bar b g part why) → (g = gen ∨ part = false) → Decided s t q 0 w)
      ∧ (∀ q : Thr, (∀ g part why, (s.thread q).waitingOn = some (.bar b g part why) → g ≠ gen ∧ part = true) →
          t.thread q = s.thread q)
      ∧ t.regs = s.regs ∧ t.mem = s.mem)

/-- The ends of waits that time brings: PTP time, which also starts a launch of mode PTP, the timeout tick, and
the wake three ticks after the decision, which gives a thread that waited in `wdec` three priority issues and
leaves any other the priority it holds (R51, R74, R77, R80, R86, R97). -/
def Obligations.TimeEndsWaits : Prop :=
  ∀ (q : Thr) (s : State),
    let x := s.thread q
    let only (t : State) : Prop := t = { s with threads := t.threads } ∧ ∀ p, p ≠ q → t.thread p = s.thread p
    (∀ ns, x.waitingOn = some (.ptp ns) → timeDue ns s.ptpNs = true →
      Ends (exec (.ptpTimeDue q) s) (fun t => Decided s t q 0 s.ft ∧ only t))
    ∧ (∀ ns l, x.st = .starting → x.launch = some l → l.mode = .ptp ns → timeDue ns s.ptpNs = true →
      Ends (exec (.ptpTimeDue q) s) (fun t => (t.thread q).st = .running
        ∧ (t.thread q).tc = s.ft + BitVec.ofNat 64 x.startLead ∧ (t.thread q).wt = (t.thread q).tc
        ∧ (t.thread q).readyAt = s.tick + 1 ∧ only t))
    ∧ (∀ n w k, x.waitingOn = some (.trig n) → x.wait = some w → w.timeout = some k → timeDue k s.ft = true →
      Ends (exec (.waitTimeout q) s) (fun t => Decided s t q 3 k ∧ only t))
    ∧ (∀ rd n f ref w k, x.waitingOn = some (.dec rd n f ref) → (s.slot n).since ref = none → x.wait = some w →
      w.timeout = some k → timeDue k s.ft = true →
      Ends (exec (.waitTimeout q) s) (fun t => Decided s t q 3 k ∧ (t.thread q).g = x.g ∧ only t))
    ∧ (∀ b g part w k, x.waitingOn = some (.bar b g part .wbar) → x.wait = some w → w.timeout = some k →
      timeDue k s.ft = true →
      Ends (exec (.waitTimeout q) s) (fun t => Decided s t q 3 k ∧ only t
        ∧ (part = true → Tab.get (t.thread q).barGen b 0 = g + 1)))
    ∧ (∀ b g part why w k, x.waitingOn = some (.bar b g part why) → why ≠ .wbar → x.wait = some w →
      w.timeout = some k → timeDue k s.ft = true →
      Ends (exec (.waitTimeout q) s) (fun t => Errs t q 0x07))
    ∧ (∀ w k, x.st = .waiting → x.wait = some w → w.wake = some k → k ≤ s.tick →
      Ends (exec (.threadWake q) s) (fun t => only t
        ∧ (t.thread q).st = .running ∧ (t.thread q).wait = none
        ∧ (t.thread q).readyAt = s.tick ∧ (t.thread q).ws = x.ws ∧ (t.thread q).wt = x.wt ∧ (t.thread q).g = x.g
        ∧ ((∃ rd n f ref, w.cond = .dec rd n f ref) → (t.thread q).prio = 3)
        ∧ ((∀ rd n f ref, w.cond ≠ .dec rd n f ref) → (t.thread q).prio = x.prio)))

/-- A trigger that reaches an input, by the input's mode (R81, R82): a disabled input takes none; else it
decides the wait for it, is held pending or latched, or is counted as ignored or as an overflow. -/
def Sys2Proof.Claim.ATriggerIsTakenByItsInputsMode : Prop :=
  ∀ (q : Thr) (n : BitVec 3) (s : State),
    let x := s.thread q
    let y := x.trig n.toNat
    let only (t : State) : Prop := t = { s with threads := t.threads } ∧ (t.thread q).g = x.g
      ∧ ∀ p, p ≠ q → t.thread p = s.thread p
    (x.trigEn.getLsbD n.toNat = false → exec (.triggerArrival q n) s = .next s)
    ∧ (x.trigs.length = 8 → x.trigEn.getLsbD n.toNat = true → x.st ≠ .starting →
    (x.waitingOn = some (.trig n.toNat) → (x.trigMode.getLsbD n.toNat = true ∨ y.armed.isSome = true) →
      Ends (exec (.triggerArrival q n) s) (fun t => Decided s t q 0 s.ft ∧ only t))
    ∧ (x.waitingOn ≠ some (.trig n.toNat) → x.trigMode.getLsbD n.toNat = true → y.latch = none →
      Ends (exec (.triggerArrival q n) s) (fun t => ((t.thread q).trig n.toNat).latch = some s.ft ∧ only t))
    ∧ (x.waitingOn ≠ some (.trig n.toNat) → x.trigMode.getLsbD n.toNat = false → y.armed.isSome = true →
      Ends (exec (.triggerArrival q n) s) (fun t => (t.thread q).trig n.toNat = { y with armed := none, pending := some s.ft }
        ∧ only t))
    ∧ (x.waitingOn ≠ some (.trig n.toNat) → x.trigMode.getLsbD n.toNat = true → y.latch.isSome = true →
      exec (.triggerArrival q n) s = .next (s.bump (thrCounts_TRIG_OVF q.tile q.idx)))
    ∧ (x.trigMode.getLsbD n.toNat = false → y.armed = none →
      exec (.triggerArrival q n) s = .next (s.bump (thrCounts_TRIG_IGN q.tile q.idx))))

/-- A launch of start mode TRIG n starts at a trigger on its armed or latched input: TC and WT a start lead
ahead, issue from the next tick (R97). -/
def Sys2Proof.Claim.ATriggerStartsItsLaunch : Prop :=
  ∀ (q : Thr) (n : BitVec 3) (l : Launch) (s : State),
    let x := s.thread q
    x.trigEn.getLsbD n.toNat = true → x.st = .starting → x.launch = some l → l.mode = .trig n.toNat →
    (x.trigMode.getLsbD n.toNat = true ∨ (x.trig n.toNat).armed.isSome = true) →
    Ends (exec (.triggerArrival q n) s) (fun t => (t.thread q).st = .running
      ∧ (t.thread q).tc = s.ft + BitVec.ofNat 64 x.startLead ∧ (t.thread q).wt = (t.thread q).tc
      ∧ (t.thread q).ws = 0 ∧ (t.thread q).readyAt = s.tick + 1 ∧ t.regs = s.regs ∧ t.mem = s.mem)

/-- PARAMs held for a thread are applied when it is Idle with an empty launch queue, and are held no more; one
without a write completes with OK (R319). -/
def Sys2Proof.Claim.HeldParamsAreAppliedInIdle : Prop :=
  ∀ (q : Thr) (s : State), (s.thread q).st = .idle → (s.thread q).lq = [] →
    ((s.applyParams q).undef = none → exec (.paramApply q) s = .next (s.applyParams q))
    ∧ (s.undef = none → (s.thread q).params = [] → exec (.paramApply q) s = .next s)
    ∧ (∀ p, s.undef = none → (s.thread q).params = [p] → p.writes = [] →
        Ends (exec (.paramApply q) s) (fun t => t.thread q = { s.thread q with params := [] }
          ∧ p.desc ∉ t.flying ∧ t.mem = s.mem
          ∧ (p.desc.cpl = true → s.cplDiscards (s.rd (cmdCfg_CRING p.desc.ring)) = false →
              ∃ c : Cpl, t.cplWait = s.cplWait ++ [(s.rd (cmdCfg_CRING p.desc.ring), c)]
                ∧ c.status = 0 ∧ c.tag = p.desc.tag)))

/-! Synthesis, readout, decisions, results, integrity (04, 05, 06, 11, 12). -/

/-- A pattern past its last sample leaves its target; of its registers only a bobbin's status may change, but a
flux pattern with FLUX_HOLD that ran to its end leaves its last sample times its scale as the channel's level
(R119, R137, R252; the rounding and the product 1.0 are the model's, log entries 8 and 36). -/
def Sys2Proof.Claim.APatternEndsAfterItsLastSample : Prop :=
  ∀ (g : Tgt) (p : Playing) (s : State),
    s.plays.find? (fun p => p.tgt == g && decide (p.last < 16 * s.tick)) = some p →
    let bobbin : List Reg := match p.body.bob with
      | some b => [⟨.bobStatus, g.tile, b, 0⟩]
      | none => []
    let ends (P : State → Prop) : Prop := Ends (exec (.patternEnd g) s) (fun t =>
      t.plays = s.plays.erase p ∧ t.mem = s.mem ∧ t.threads = s.threads ∧ P t)
    (p.body.fluxHold = false ∨ p.ramp.isSome = true ∨ g.isFlux = false → ends (fun t =>
        OnlyRegs s t bobbin
        ∧ (p.body.bob = none → t = { s with plays := t.plays, skirts := t.skirts })))
    ∧ (∀ u k, g = .flux u k → p.body.fluxHold = true → p.ramp = none →
      let x := signedOf 16 (s.envSample p.tgt p.start p.body (p.body.len - 1)).toNat
      let r := roundDiv (x * signedOf 16 p.body.scale.toNat) (2 ^ 15)
      ends (fun t => (r ≠ 32768 → t.rd (fluxLvl_LVL u k) = (r % 2 ^ 16).toNat)
        ∧ OnlyRegs s t (⟨.fluxLvl, u, k, 0⟩ :: bobbin)))

/-- A marker pulse whose time is over is gone, and nothing else changes; from its end on, the pin of the tile
that claims the marker is at POL unless LEVEL or another pulse holds it (R128, R129). -/
def Sys2Proof.Claim.AMarkerPulseEndsAtItsEnd : Prop :=
  ∀ (u m : Nat) (p : MarkPulse) (s : State),
    s.pulses.find? (fun p => p.tile == u && p.marker == m && decide (p.until_ ≤ 16 * s.tick)) = some p →
    Ends (exec (.markerPulseEnd u m) s) (fun t => t = { s with pulses := s.pulses.erase p }
      ∧ ∀ i, p.until_ ≤ i →
        t.markerPin m i = s.markerPin m i
        ∧ (u < 16 → s.rd (claimMk_HOLDER m) = u + 1 → s.levelAt m i = false →
            (∀ x ∈ t.pulses, x.tile = u → x.marker = m → i < x.from_ ∨ x.until_ ≤ i) →
            t.markerPin m i = s.on (synMark_POL u m)))

/-- Bobbins: a refill asks for the positions after the last asked for, within its extent and the ring, sets
FEED_DRY with no extent, and waits while no READ can be issued; its data goes into the ring at WP, which
advances; at LOOP_END with loops left RP goes back to LOOP_MARK (R132-R134). -/
def Sys2Proof.Claim.BobbinsRefillAndLoop : Prop :=
  ∀ (u : BitVec 4) (b : BitVec 2) (s : State),
    let tile := u.toNat
    let bob := b.toNat
    let asked := (s.bob tile bob).requested
    let wp := s.rd (bobWp_VALUE tile bob)
    let rp := s.rd (bobRp_VALUE tile bob)
    (s.bobWants tile bob = true →
      (s.extentAt tile bob asked = none →
        exec (.bobbinRefillRequest u b) s = .next (s.put (bobStatus_FEED_DRY tile bob) true))
      ∧ (∀ e, s.extentAt tile bob asked = some e →
          (s.canRead (s.rd (cmdCfg_QP e.ref.ring)) = true → asked < s.bobFloor tile bob + s.bobN tile bob →
            Ends (exec (.bobbinRefillRequest u b) s) (fun t =>
              asked < (t.bob tile bob).requested
              ∧ (t.bob tile bob).requested ≤ e.start + e.count
              ∧ (t.bob tile bob).requested ≤ s.bobFloor tile bob + s.bobN tile bob
              ∧ t.regs = s.regs ∧ t.mem = s.mem ∧ t.outReqs.length = s.outReqs.length + 1))
          ∧ (s.canRead (s.rd (cmdCfg_QP e.ref.ring)) = false → exec (.bobbinRefillRequest u b) s = .next s)))
    ∧ (∀ data, Inv s → s.refillDead tile bob = false → rp ≤ wp → asked = wp + 1 → asked < 2 ^ 64 →
        let a := Space.env.base tile + s.bobAddr tile bob wp
        Ends (exec (.bobbinRefillData u b [data]) s) (fun t =>
          Mem.load t.mem a 4 = data.toNat ∧ t.rd (bobWp_VALUE tile bob) = wp + 1
          ∧ ∀ x, (x < a ∨ a + 4 ≤ x) → Mem.read t.mem x = Mem.read s.mem x))
    ∧ (∀ data, s.refillDead tile bob = true → exec (.bobbinRefillData u b data) s = .next s)
    ∧ (rp = (s.bob tile bob).end_ → 0 < s.rd (bobLoop_LOOPS_LEFT tile bob) →
        (s.loopLost tile bob = false ∨ (s.bob tile bob).reader = none) →
        Ends (exec (.bobbinLoopJump u b) s) (fun t =>
          t.reg ⟨.bobRp, tile, bob, 0⟩ = BitVec.ofNat 64 (s.bob tile bob).mark
          ∧ t.rd (bobLoop_LOOPS_LEFT tile bob) = s.rd (bobLoop_LOOPS_LEFT tile bob) - 1
          ∧ OnlyRegs s t [⟨.bobRp, tile, bob, 0⟩, ⟨.bobLoop, tile, bob, 0⟩, ⟨.bobStatus, tile, bob, 0⟩]
          ∧ t.mem = s.mem))
    ∧ (rp ≠ (s.bob tile bob).end_ ∨ s.rd (bobLoop_LOOPS_LEFT tile bob) = 0 →
        exec (.bobbinLoopJump u b) s = .next s)

/-- An input above OVR_LEVEL at a slice of an enabled ADC whose sample it is in this tick sets the slice's bit,
is counted, raises source 288 + t and marks the windows whose span of influence contains it; a code of
magnitude 2,047 and more is counted; any other sample, and every one with the ADC off, changes nothing
(R141, R142, R150). -/
def Sys2Proof.Claim.OverRangeAndClippedSamplesAreNoted : Prop :=
  ∀ (u n : BitVec 4) (input code : Int) (s : State),
    let now := 16 * s.tick + 2 * (n.toNat % 8)
    let takes := s.on (adcCfg_EN u.toNat) && s.sliceNow n.toNat
    (takes = true → s.overRange u.toNat input = true →
      Ends (exec (.adcOverRange u n input) s) (fun t => t.bitAt (adcStatus_OVR_SEEN u.toNat) n.toNat = true
        ∧ t.rd (ovrCount_COUNT u.toNat n.toNat) = min (s.rd (ovrCount_COUNT u.toNat n.toNat) + 1) (2 ^ 32 - 1)
        ∧ 288 + u.toNat ∈ t.seamRaised
        ∧ t.windows = s.windows.map (fun w =>
            if w.tile = u.toNat ∧ w.latched = false ∧ w.w ≤ now + 512 ∧ now < w.e + 512 then { w with ovr := true }
            else w)
        ∧ OnlyRegs s t [⟨.adcStatus, u.toNat, 0, 0⟩, ⟨.ovrCount, u.toNat, n.toNat, 0⟩]))
    ∧ (takes = false ∨ s.overRange u.toNat input = false → exec (.adcOverRange u n input) s = .next s)
    ∧ (takes = true → 2047 ≤ code.natAbs →
      exec (.adcCodeClip u n code) s = .next (s.bump (adcStatus_CODE_CLIPS u.toNat)))
    ∧ (takes = false ∨ code.natAbs < 2047 → exec (.adcCodeClip u n code) s = .next s)

/-- Correction coefficients: at a multiple of PERIOD in hardware mode the estimate, with what the estimator has
found, becomes the pending set; at the tile's ADC boundary the pending set becomes ACTIVE and is pending no
more (R144-R146). -/
def Sys2Proof.Claim.CorrectionSetsBecomeActiveAtABoundary : Prop :=
  ∀ (u : BitVec 4) (s : State),
    (s.corrHost u.toNat = false → s.tick % s.corrPeriod u.toNat = 0 →
      Ends (exec (.corrPeriodCopy u none) s) (fun t =>
        t.corrPend.find? (fun p => p.1 == u.toNat) = some (u.toNat, s.coefSet .corrEst u.toNat, s.tick)
        ∧ t = { s with corrPend := t.corrPend }))
    ∧ (∀ ws : List Word, ws.length = 16 → s.corrHost u.toNat = false → s.tick % s.corrPeriod u.toNat = 0 →
      Ends (exec (.corrPeriodCopy u (some ws)) s) (fun t =>
        t.corrPend.find? (fun p => p.1 == u.toNat) = some (u.toNat, ws, s.tick)
        ∧ (∀ i, i < 16 → t.reg ⟨.corrEst, u.toNat, i, 0⟩ = ws.getD i 0)))
    ∧ (∀ ws at_, s.adcBoundary u.toNat = true →
      s.corrPend.find? (fun p => p.1 == u.toNat) = some (u.toNat, ws, at_) →
      Ends (exec (.corrApply u) s) (fun t =>
        (∀ i, i < 16 → t.reg ⟨.corrActive, u.toNat, i, 0⟩ = ws.getD i 0)
        ∧ (∀ p ∈ t.corrPend, p.1 ≠ u.toNat) ∧ u.toNat ∈ t.corrOnce ∧ t.mem = s.mem))
    ∧ (s.adcBoundary u.toNat = false → exec (.corrApply u) s = .next s)
    ∧ (s.corrHost u.toNat = true → exec (.corrPeriodCopy u none) s = .next s)

/-- The first window a channel holds opens at its W and ends at its E, with the mixed samples of its ADC codes;
beside it only a window that starts at that end changes, which opens (R151, R154, R155). -/
def Obligations.WindowsOpenAndEndInOrder : Prop :=
  ∀ (u : BitVec 4) (c : BitVec 5) (w : Window) (rest : List Window) (codes : List Int) (s : State),
    s.held u.toNat c.toNat = w :: rest →
    let done : Window := { w with opened := true, ended := true, x := s.mixedOf w codes }
    (w.opened = false → w.w / 16 ≤ s.tick → Ends (exec (.windowOpen u c) s) (fun t =>
      t = { s with windows := t.windows } ∧ { w with opened := true } ∈ t.windows
      ∧ ∀ y ∈ t.windows, y ∈ s.windows ∧ y ≠ w ∨ y = { w with opened := true }))
    ∧ (w.e / 16 ≤ s.tick → Ends (exec (.windowEnd u c codes) s) (fun t =>
      t = { s with windows := t.windows } ∧ done ∈ t.windows
      ∧ ∀ y ∈ t.windows, y ∈ s.windows ∧ y ≠ w ∨ y = done
          ∨ ∃ z ∈ s.windows, z.tile = w.tile ∧ z.c = w.c ∧ z.w = w.e ∧ z.ended = false
              ∧ y = { z with opened := true }))
    ∧ (s.tick < w.w / 16 ∨ w.opened = true → exec (.windowOpen u c) s = .next s)
    ∧ (s.tick < w.e / 16 → exec (.windowEnd u c codes) s = .next s)

/-- A committed bank comes into force at its channel's boundary, whole, and is counted (R159, R160). -/
def Sys2Proof.Claim.ADemodBankAppliesAtItsBoundary : Prop :=
  ∀ (u : BitVec 4) (c : BitVec 5) (b : DemodBank) (s : State),
    Tab.find s.demodPend (u.toNat, c.toNat) = some b →
    (s.demodBoundary u.toNat c.toNat = true → Ends (exec (.demodBankApply u c) s) (fun t =>
      t.bankOf u.toNat c.toNat = b ∧ Tab.find t.demodPend (u.toNat, c.toNat) = none
      ∧ t.rd (acqStatus_BANK_SEQ u.toNat c.toNat) = (s.rd (acqStatus_BANK_SEQ u.toNat c.toNat) + 1) % 2 ^ 16
      ∧ (∀ v d, (v, d) ≠ (u.toNat, c.toNat) → t.bankOf v d = s.bankOf v d)))
    ∧ (s.demodBoundary u.toNat c.toNat = false → exec (.demodBankApply u c) s = .next s)

/-- A training run that has all its windows ends: DONE, no longer BUSY, its bank committed, its event
sent (R161). -/
def Sys2Proof.Claim.ATrainingRunEndsWithItsBankCommitted : Prop :=
  ∀ (u : BitVec 4) (r : TrainRun) (s : State), Tab.find s.trains u.toNat = some r → r.full = true →
    Ends (exec (.trainingDone u) s) (fun t =>
      t.on (trainCtrl_DONE u.toNat) = true ∧ t.on (trainCtrl_BUSY u.toNat) = false
      ∧ Tab.find t.trains u.toNat = none ∧ 368 + u.toNat ∈ t.seamRaised
      ∧ Tab.find t.demodPend (u.toNat, r.ch) = some (t.stagingBank u.toNat r.ch) ∧ t.mem = s.mem)

/-- A trace capture: its first sample instant is the even fine step at or before the trigger, and when the
last sample has been taken the buffer holds each sample, raw or corrected as the capture was armed, with its
over-range flag, in order from its start (R144, R163). -/
def Obligations.ATraceCaptureFillsItsBuffer : Prop :=
  ∀ (u : BitVec 4) (s : State),
    (∀ r a, Tab.find s.traces u.toNat = some r → r.start = some a → r.first = none → a / 16 ≤ s.tick →
      Ends (exec (.traceTrigger u) s) (fun t =>
        Tab.find t.traces u.toNat
          = some { r with first := some (a / 2 * 2), pre := s.rd (traceCtrl_PRE u.toNat) * 2048 } ∧ t.mem = s.mem
        ∧ OnlyRegs s t [⟨.traceT0, u.toNat, 0, 0⟩, ⟨.traceCtrl, u.toNat, 0, 0⟩]))
    ∧ (∀ r first (xs : List (Int × Bool)), Tab.find s.traces u.toNat = some r → r.first = some first → Inv s →
      first + 2 * 131072 ≤ 16 * s.tick + r.pre → xs.length = 131072 →
      let codes := xs.map (fun x => adcCode x.1)
      let values := if r.corr then (s.correctAll u.toNat (first + s.fineOffset - r.pre) [] codes).map roundAway else codes
      Ends (exec (.traceDone u xs) s) (fun t =>
        t.on (traceCtrl_DONE u.toNat) = true ∧ t.on (traceCtrl_BUSY u.toNat) = false
        ∧ Tab.find t.traces u.toNat = none
        ∧ (∀ i, i < 131072 → Mem.load t.mem (Space.trace.base u.toNat + 2 * i) 2
            = traceWord (values.getD i 0, (xs.getD i (0, false)).2))
        ∧ (∀ x, (x < Space.trace.base u.toNat ∨ Space.trace.base u.toNat + 262144 ≤ x) →
            Mem.read t.mem x = Mem.read s.mem x)))

/-- Writes of the readout's registers: a write of ADC.CFG is taken, but one that changes BAND under an enabled
ADC is refused whole; COMMIT makes the staged set pending only in host mode, FORCE applies the pending set; a
demodulation COMMIT takes the whole staging bank; a training run starts, or sets ERR while one runs, and ends at
ABORT; GO arms a capture unless one is under way (R143, R145, R147, R159-R163). -/
def Sys2Proof.Claim.ReadoutRegisterWrites : Prop :=
  ∀ (u : BitVec 4) (c : BitVec 5) (w : WriteOp) (s : State),
    let u' := u.toNat
    let new (r : Reg) := s.merged r w
    (Lands s ⟨.adcCfg, u', 0, 0⟩ w →
      (s.on (adcCfg_EN u') = false → Ends (exec (.adcCfgWrite u w) s) (fun t =>
        t.reg ⟨.adcCfg, u', 0, 0⟩ = new ⟨.adcCfg, u', 0, 0⟩ ∧ OnlyRegs s t [⟨.adcCfg, u', 0, 0⟩]))
      ∧ (s.on (adcCfg_EN u') = true → bitsOf (new ⟨.adcCfg, u', 0, 0⟩) 1 1 = s.rd (adcCfg_BAND u') →
        Ends (exec (.adcCfgWrite u w) s) (fun t =>
          t.reg ⟨.adcCfg, u', 0, 0⟩ = new ⟨.adcCfg, u', 0, 0⟩ ∧ OnlyRegs s t [⟨.adcCfg, u', 0, 0⟩]))
      ∧ (s.on (adcCfg_EN u') = true → bitsOf (new ⟨.adcCfg, u', 0, 0⟩) 1 1 ≠ s.rd (adcCfg_BAND u') →
        exec (.adcCfgWrite u w) s = .next (s.put (adcCfg_CFG_REFUSED u') true)))
    ∧ (Strikes s (adcCorr_COMMIT u') w → strobe w.bits (adcCorr_FORCE u') = false →
      (s.corrHost u' = true → Ends (exec (.corrCommit u w) s) (fun t =>
        t.corrPend.find? (fun p => p.1 == u') = some (u', s.coefSet .corrStage u', s.tick)))
      ∧ (s.corrHost u' = false → Ends (exec (.corrCommit u w) s) (fun t =>
        t.on (adcCfg_CFG_REFUSED u') = true ∧ t.corrPend = s.corrPend)))
    ∧ (∀ ws at_, Strikes s (adcCorr_FORCE u') w → strobe w.bits (adcCorr_COMMIT u') = false →
      s.corrPend.find? (fun p => p.1 == u') = some (u', ws, at_) →
      Ends (exec (.corrForce u w) s) (fun t =>
        (∀ i, i < 16 → t.reg ⟨.corrActive, u', i, 0⟩ = ws.getD i 0) ∧ (∀ p ∈ t.corrPend, p.1 ≠ u')))
    ∧ (Strikes s (acqCtrl_COMMIT u' c.toNat) w → Ends (exec (.demodCommit u c w) s) (fun t =>
        Tab.find t.demodPend (u', c.toNat) = some (s.stagingBank u' c.toNat) ∧ t = { s with demodPend := t.demodPend }))
    ∧ (Strikes s (traceCtrl_GO u') w → Ends (exec (.traceGo u w) s) (fun t =>
        (Tab.find t.traces u').isSome = true
        ∧ (Tab.find s.traces u' = none → t.on (traceCtrl_BUSY u') = true)
        ∧ (∀ r, Tab.find s.traces u' = some r → t.traces = s.traces)))
    ∧ (Strikes s (trainCtrl_ABORT u') w → strobe w.bits (trainCtrl_START u') = false →
      Ends (exec (.trainingAbort u w) s) (fun t =>
        Tab.find t.trains u' = none ∧ t.on (trainCtrl_BUSY u') = false))
    ∧ (Strikes s (trainCtrl_START u') w → strobe w.bits (trainCtrl_ABORT u') = false →
      Ends (exec (.trainingStart u w) s) (fun t =>
        let y := s.setReg ⟨.trainCtrl, u', 0, 0⟩ (new ⟨.trainCtrl, u', 0, 0⟩)
        (y.on (trainCtrl_BUSY u') = true → t.on (trainCtrl_ERR u') = true ∧ t.trains = s.trains)
        ∧ (y.on (trainCtrl_BUSY u') = false → y.kernHost u' (y.rd (trainCtrl_CH u')) = false →
            1 ≤ y.rd (trainCtrl_TLEN u') → y.rd (trainCtrl_TLEN u') ≤ 512 →
            t.on (trainCtrl_BUSY u') = true ∧ ∃ r, Tab.find t.trains u' = some r ∧ r.at_ = s.tick
              ∧ r.ch = y.rd (trainCtrl_CH u') ∧ r.tlen = y.rd (trainCtrl_TLEN u'))))

/-- The pattern directory and the synthesis registers: word 1 goes to the staging copy, word 0 commits both,
storing a rejected entry empty and counting it; a change of ZONE under ENABLE is refused, and ZONE stands
(R110, R126). -/
def Sys2Proof.Claim.SynthesisRegisterWrites : Prop :=
  ∀ (p : BitVec 15) (u : BitVec 4) (c : BitVec 2) (w : WriteOp) (s : State),
    let p' := p.toNat
    let new (r : Reg) := s.merged r w
    (Lands s ⟨.dirWord1, p', 0, 0⟩ w → Ends (exec (.directoryWord1Write p w) s) (fun t =>
        Tab.get t.dirStage p' 0 = new ⟨.dirWord1, p', 0, 0⟩ ∧ t.regs = s.regs ∧ t.mem = s.mem))
    ∧ (Lands s ⟨.dirWord0, p', 0, 0⟩ w → Ends (exec (.directoryCommit p w) s) (fun t =>
        t.reg ⟨.dirWord1, p', 0, 0⟩ = Tab.get s.dirStage p' 0
        ∧ (entryRejected (new ⟨.dirWord0, p', 0, 0⟩) (Tab.get s.dirStage p' 0) = false →
            t.reg ⟨.dirWord0, p', 0, 0⟩ = new ⟨.dirWord0, p', 0, 0⟩
            ∧ OnlyRegs s t [⟨.dirWord0, p', 0, 0⟩, ⟨.dirWord1, p', 0, 0⟩])
        ∧ (entryRejected (new ⟨.dirWord0, p', 0, 0⟩) (Tab.get s.dirStage p' 0) = true →
            t.rd (dirWord0_TYPE p') = 0 ∧ t.rd dirStatus_LAST_REJ = p'
            ∧ t.rd dirStatus_REJ = min (s.rd dirStatus_REJ + 1) (2 ^ dirStatus_REJ.width - 1)
            ∧ OnlyRegs s t [⟨.dirWord0, p', 0, 0⟩, ⟨.dirWord1, p', 0, 0⟩, ⟨.dirStatus, 0, 0, 0⟩])))
    ∧ (Lands s ⟨.synCfg, u.toNat, c.toNat, 0⟩ w → Ends (exec (.synChCfgWrite u c w) s) (fun t =>
        (s.on (synCfg_ENABLE u.toNat c.toNat) = false →
          t.reg ⟨.synCfg, u.toNat, c.toNat, 0⟩ = new ⟨.synCfg, u.toNat, c.toNat, 0⟩)
        ∧ (s.on (synCfg_ENABLE u.toNat c.toNat) = true →
          t.rd (synCfg_ZONE u.toNat c.toNat) = s.rd (synCfg_ZONE u.toNat c.toNat)
          ∧ (bitsOf (new ⟨.synCfg, u.toNat, c.toNat, 0⟩) 1 1 ≠ s.rd (synCfg_ZONE u.toNat c.toNat) →
              t.on (synCfg_CFG_REFUSED u.toNat c.toNat) = true))
        ∧ OnlyRegs s t [⟨.synCfg, u.toNat, c.toNat, 0⟩]))

/-- Bobbin registers: with ENABLE = 0 a sound CFG is taken whole and one that cannot hold is refused; RESET
empties the stream, and an enabled bobbin is Filling; a loop write waits for the next play (R131, R134, R137). -/
def Sys2Proof.Claim.BobbinRegisterWrites : Prop :=
  ∀ (u : BitVec 4) (b which : BitVec 2) (w : WriteOp) (s : State),
    let r : Reg := ⟨.bobCfg, u.toNat, b.toNat, 0⟩
    let new := withBits (s.merged r w) 1 1 0
    (Lands s r w → s.on (bobCfg_ENABLE u.toNat b.toNat) = false →
      strobe w.bits (bobCfg_RESET u.toNat b.toNat) = false →
      Ends (exec (.bobbinCfgWrite u b w) s) (fun t =>
        (new.getLsbD 0 = false → t.reg r = new ∧ OnlyRegs s t [r, ⟨.bobStatus, u.toNat, b.toNat, 0⟩])
        ∧ (new.getLsbD 0 = true → s.bobbinRefuses u.toNat b.toNat new = true →
            t.reg r = s.reg r ∧ t.on (bobStatus_CFG_REFUSED u.toNat b.toNat) = true)
        ∧ (new.getLsbD 0 = true → s.bobbinRefuses u.toNat b.toNat new = false →
            t.reg r = new ∧ t.rd (bobStatus_STATE u.toNat b.toNat) = 1)))
    ∧ (Strikes s (bobCfg_RESET u.toNat b.toNat) w →
      Ends (exec (.bobbinReset u b w) s) (fun t =>
        t.rd (bobRp_VALUE u.toNat b.toNat) = 0 ∧ t.rd (bobWp_VALUE u.toNat b.toNat) = 0
        ∧ t.rd (bobLoop_LOOPS_LEFT u.toNat b.toNat) = 0 ∧ (t.bob u.toNat b.toNat).requested = 0
        ∧ (s.on (bobCfg_ENABLE u.toNat b.toNat) = true → new.getLsbD 0 = true →
            t.rd (bobStatus_STATE u.toNat b.toNat) = 1)
        ∧ (∀ e ∈ t.extents, e.1 ≠ (u.toNat, b.toNat)) ∧ t.mem = s.mem))
    ∧ (let n : RegName := if which = 0 then .bobLoopMark else if which = 1 then .bobLoopEnd else .bobLoop
       Lands s ⟨n, u.toNat, b.toNat, 0⟩ w → Ends (exec (.bobbinLoopWrite u b which w) s) (fun t =>
        t.reg ⟨n, u.toNat, b.toNat, 0⟩ = s.merged ⟨n, u.toNat, b.toNat, 0⟩ w
        ∧ (t.bob u.toNat b.toNat).loopPending = true ∧ OnlyRegs s t [⟨n, u.toNat, b.toNat, 0⟩]))

/-- A patch whose inputs have closed assembles its next round; twelve ticks on the assembly is gone and the
ledger takes its mask, but for the bits a FRAME has set in the tick, and unless its shot has been unpicked in it
(R186, R188-R191, R417). -/
def Sys2Proof.Claim.PatchesAssembleAndCorrectTheLedger : Prop :=
  ∀ (p : BitVec 6) (s : State),
    (∀ n, s.patchReady p.toNat = some n → (∀ v, s.poisoned 0x05 0 v = false) →
      Ends (exec (.patchAssembly p) s) (fun t => ∃ a : Assembly, t.assemblies = s.assemblies ++ [a]
        ∧ a.patch = p.toNat ∧ a.n = n ∧ a.tick = s.tick ∧ a.ft = s.ft ∧ (a.esc = true ↔ a.reason ≠ 0)
        ∧ (1 < a.reason → a.mask = 0)
        ∧ t.rd (patchRound_ROUND p.toNat) = n % 2 ^ 32
        ∧ t.patchReady p.toNat = none
        ∧ OnlyRegs s t [⟨.patchRound, p.toNat, 0, 0⟩, ⟨.pdcCounts, 0, 0, 0⟩]))
    ∧ (∀ a, s.assemblies.find? (fun a => a.patch == p.toNat && decide (a.tick + 12 ≤ s.tick)) = some a →
      (∀ i, s.poisoned 0x06 0 i = false) → Ends (exec (.patchResult p) s) (fun t =>
        t.assemblies = s.assemblies.erase a
        ∧ (a.undone = false → t.ledger = s.ledger ^^^ (s.maskBits a.patch a.mask &&& ~~~s.decTick.set))
        ∧ (a.undone = true → t.ledger = s.ledger)
        ∧ (a.esc = false → s.on (patchCfg_RES_EN a.patch) = false → t.slots = s.slots) ∧ t.mem = s.mem))

/-- A defect forward for a mapped patch writes the slot of the first entry that matches; the word's VALUE
is mask, escalation, reason and syndrome (R195). -/
def Sys2Proof.Claim.AMappedDefectForwardWritesItsSlot : Prop :=
  ∀ (f : DefectForward) (i : Nat) (s : State),
    (List.range 16).find? (fun i => s.on (rxMap_EN i) && s.rd (rxMap_DEV i) == f.dev.toNat
      && s.rd (rxMap_PATCH i) == f.patch.toNat) = some i →
    let n := s.rd (rxMap_SLOT i)
    ((s.slot n).wrote = none ∨ (s.slot n).tick ≠ s.tick) → (∀ i, s.poisoned 0x06 0 i = false) →
    Ends (exec (.defectForwardRx f) s) (fun t =>
      (t.slot n).wrote = some s.ft ∧ (t.slot n).tick = s.tick ∧ statusOf (t.slot n).word = 0
      ∧ bitsOf (t.slot n).word 0 8 = bitsOf f.word3 0 8
      ∧ bitsOf (t.slot n).word 8 1 = (if bitsOf f.word2 24 3 = 0 then 0 else 1)
      ∧ bitsOf (t.slot n).word 9 3 = bitsOf f.word2 24 3 ∧ bitsOf (t.slot n).word 12 15 = bitsOf f.word2 0 15
      ∧ ((s.slot n).tick ≠ s.tick → (t.slot n).old = (s.slot n).word)
      ∧ (∀ m, m ≠ n → t.slot m = s.slot m) ∧ t.mem = s.mem)

/-- DEC.CLEAR empties the slots of its range and no other, and is not a write; enabling a sound pre-decoder
zeroes every round (R169, R198). -/
def Sys2Proof.Claim.DecisionRegisterWrites : Prop :=
  ∀ (w : WriteOp) (s : State),
    (Lands s ⟨.decClear, 0, 0, 0⟩ w → Ends (exec (.decClear w) s) (fun t =>
      (∀ n, bitsOf w.bits 0 12 ≤ n → n ≤ bitsOf w.bits 16 12 →
        (t.slot n).word = emptyWord ∧ (t.slot n).wrote = none)
      ∧ (∀ n, (n < bitsOf w.bits 0 12 ∨ bitsOf w.bits 16 12 < n) → t.slot n = s.slot n)
      ∧ t = { s with slots := t.slots }))
    ∧ (Strikes s pdcCfg_EN w → s.on pdcCfg_EN = false → s.pdcRefuses = false →
      Ends (exec (.pdcEnable w) s) (fun t => t.on pdcCfg_EN = true
        ∧ (∀ p, p < 64 → t.rd (patchRound_ROUND p) = 0) ∧ t.ancs = [] ∧ t.slots = s.slots))
    ∧ (Strikes s pdcCfg_EN w → s.on pdcCfg_EN = false → s.pdcRefuses = true →
      Ends (exec (.pdcEnable w) s) (fun t => t.on pdcCfg_EN = false ∧ t.on pdcStatus_ERR = true))

/-- Result queues: the oldest committed record of a tile's holding area goes behind the words that still enter its
queue, when there is room; a pop by software takes the oldest word, reads DATA again from an empty queue with
UNDERRUN set, and takes nothing where the tile is not the requester's or the writer owns the queue; a batch takes
whole records and raises the ring's count, with PRIO its notice waits for the completion ring; RESET empties the
queue but for a first word entered in this tick, and cuts a record of which a later word enters in this tick;
CFG is written (R332-R336). -/
def Obligations.ResultQueuesKeepOrder : Prop :=
  ∀ (u : BitVec 4) (s : State),
    let u' := u.toNat
    let data : Reg := ⟨.rqData, u', 0, 0⟩
    (∀ r, s.holding.find? (fun r => r.tile == u' && r.committed) = some r →
      (s.rq u').room = true → Ends (exec (.holdingAreaMove u) s) (fun t =>
        t.holding = s.holding.erase r ∧ (t.rq u').entering = (s.rq u').entering ++ recordWords r.words r.bad
        ∧ (t.rq u').words = (s.rq u').words ∧ t.regs = s.regs ∧ t.mem = s.mem))
    ∧ (∀ req, s.reaches req.domain data (s.reg data) = true → s.on (rqCfg_DELIVER u') = false →
      (∀ x rest, (s.rq u').words = x :: rest → Ends (exec (.rqPop u req) s) (fun t =>
        (t.rq u').words = rest ∧ (t.rq u').rp = (s.rq u').rp + 1 ∧ (t.rq u').lastPop = x.w
        ∧ (x.parityOk = true → t.regs = s.regs)
        ∧ (x.parityOk = false → t.on (rqStatus_POISON u') = true) ∧ t.mem = s.mem))
      ∧ ((s.rq u').words = [] → Ends (exec (.rqPop u req) s) (fun t =>
        t.on (rqStatus_UNDERRUN u') = true ∧ t.rqs = s.rqs)))
    ∧ (∀ req, (s.reaches req.domain data (s.reg data) = false ∨ s.on (rqCfg_DELIVER u') = true) →
      Ends (exec (.rqPop u req) s) (fun t => t.rqs = s.rqs ∧ t.regs = s.regs))
    ∧ (let r := s.rd (rqCfg_RING u')
       let q := s.rd (resCfg_QP r)
       let n := min ((s.rq u').words.length / 4) (min 128 (min (s.resFree r) (s.resRun r)))
       s.on (rqCfg_DELIVER u') = true → s.on (resCfg_EN r) = true → s.kenperRuns = true → s.canWrite q = true →
       0 < n → s.batchDue u' r = true →
       (s.on (resCfg_PRIO r) = true → s.noticeReady (s.rd (resCfg_CRING r)) = true) →
       Ends (exec (.resultBatch u) s) (fun t =>
        (t.rq u').words = (s.rq u').words.drop (4 * n)
        ∧ t.rd (resIdx_PI r) = (s.rd (resIdx_PI r) + n) % 2 ^ 32 ∧ t.mem = s.mem
        ∧ (s.on (resCfg_PRIO r) = false → t.cplWait = s.cplWait)))
    ∧ (∀ w, Strikes s (rqCtrl_RESET u') w →
      ((s.rq u').posAt ≠ s.tick → Ends (exec (.rqReset u w) s) (fun t =>
        (t.rq u').words = [] ∧ (t.rq u').wp = 0 ∧ (t.rq u').rp = 0 ∧ t.regs = s.regs))
      ∧ ((s.rq u').posAt = s.tick → (s.rq u').pos = 1 → Ends (exec (.rqReset u w) s) (fun t =>
        (t.rq u').words = (s.rq u').words.drop ((s.rq u').words.length - 1) ∧ (t.rq u').rp = 0 ∧ t.regs = s.regs))
      ∧ ((s.rq u').posAt = s.tick → 2 ≤ (s.rq u').pos → Ends (exec (.rqReset u w) s) (fun t =>
        (t.rq u').words = [] ∧ (t.rq u').entering = (s.rq u').entering.dropWhile (fun x => !x.head)
        ∧ OnlyRegs s t [⟨.rqCounts, u', 0, 0⟩])))
    ∧ (∀ w, Lands s ⟨.rqCfg, u', 0, 0⟩ w → Ends (exec (.rqDeliverWrite u w) s) (fun t =>
        t.reg ⟨.rqCfg, u', 0, 0⟩ = s.merged ⟨.rqCfg, u', 0, 0⟩ w ∧ t.mem = s.mem))

/-- An uncorrectable word found at a read is poisoned and counted as class 0x02, and source 501 is raised; a
corrected one is counted. The scrubber, at the next word of an array and no more often than SCRUB_DIV lets it,
counts a word it corrects, counts the read of a poisoned word, and poisons one it cannot correct; at another word
or before its time it does nothing (R341, R342, R351). What a write-back of a word whose place in its array the
spec does not give does to its poison is the model's choice, log entry 113; that a command before its occasion
does nothing, log entry 2. -/
def Obligations.UncorrectableWordsArePoisonedAndCounted : Prop :=
  ∀ (locus u a : Nat) (s : State), s.undef = none →
    let v := locusTile locus u
    let uncorr := min (s.rd intCounts_UNCORR + 1) 65535
    ((1 ≤ locus ∧ locus ≤ 6 ∨ locus = 8 ∨ locus = 9) →
      Ends (exec (.faultDetected ⟨2, locus, u, a, .nowhere⟩) s) (fun t =>
        t.poisoned locus v a = true ∧ t.rd intCounts_UNCORR = uncorr
        ∧ 501 ∈ t.seamRaised ∧ t.threads = s.threads ∧ t.mem = s.mem))
    ∧ (1 ≤ locus → locus ≤ 0xB → ∀ site, exec (.faultDetected ⟨0, locus, u, a, site⟩) s
        = .next (s.bump intCounts_CORRECTED))
    ∧ (s.scrubs locus u a = true → s.poisonHeld locus v a = false →
      Ends (exec (.scrubRead locus u a .corrected) s) (fun t =>
        t.rd intCounts_CORRECTED = min (s.rd intCounts_CORRECTED + 1) (2 ^ 32 - 1)
        ∧ Tab.get t.scrubPos (locus, u) (0, 0) = (a + 1, s.tick + 8 * s.rd intCfg_SCRUB_DIV)
        ∧ t.poison = s.poison ∧ t.threads = s.threads)
      ∧ Ends (exec (.scrubRead locus u a .clean) s) (fun t => t = { s with scrubPos := t.scrubPos }
        ∧ Tab.get t.scrubPos (locus, u) (0, 0) = (a + 1, s.tick + 8 * s.rd intCfg_SCRUB_DIV))
      ∧ Ends (exec (.scrubRead locus u a .uncorrectable) s) (fun t =>
        t.rd intCounts_UNCORR = uncorr ∧ 501 ∈ t.seamRaised
        ∧ (locus ≠ 7 → locus ≠ 0xA → t.poisoned locus v a = true)
        ∧ (locus = 7 → (t.slot a).bad = true)))
    ∧ (s.scrubs locus u a = true → s.poisonHeld locus v a = true → unmapped locus a = false → ∀ f,
      Ends (exec (.scrubRead locus u a f) s) (fun t =>
        t.rd intCounts2_POISON_RD = min (s.rd intCounts2_POISON_RD + 1) 255 ∧ t.poison = s.poison))
    ∧ (s.scrubs locus u a = false → ∀ f, exec (.scrubRead locus u a f) s = .next s)

/-! Flux channels, bias outputs, converters, monitors (08, 09). -/

/-- A flux channel's pending bank is applied whole at its boundary, and counted; before it, and without one,
nothing happens (R257; log entry 2). -/
def Sys2Proof.Claim.AFluxBankAppliesAtItsBoundary : Prop :=
  ∀ (u k : BitVec 4) (s : State),
    (∀ b, (s.fluxRun u.toNat k.toNat).pend = some b →
      (s.fluxBoundary u.toNat k.toNat = true → Ends (exec (.fluxBankApply u k) s) (fun t =>
        (t.fluxRun u.toNat k.toNat).bank = b ∧ (t.fluxRun u.toNat k.toNat).pend = none
        ∧ t.on (fluxCtrl_PEND u.toNat k.toNat) = false
        ∧ t.rd (fluxCtrl_BANK_SEQ u.toNat k.toNat) = (s.rd (fluxCtrl_BANK_SEQ u.toNat k.toNat) + 1) % 65536
        ∧ OnlyRegs s t [⟨.fluxCtrl, u.toNat, k.toNat, 0⟩] ∧ t.mem = s.mem))
      ∧ (s.fluxBoundary u.toNat k.toNat = false → exec (.fluxBankApply u k) s = .next s))
    ∧ ((s.fluxRun u.toNat k.toNat).pend = none → exec (.fluxBankApply u k) s = .next s)

/-- A fitting run that has all its rotations ends: a reference nearer than 1,024 to the baseline sets ERR and
writes nothing; else DONE, what the fit has written is committed, and its event is sent. Without a run, or before
its rotations, nothing happens (R259, R260; log entry 2). -/
def Sys2Proof.Claim.AFittingRunEndsWithAFitOrAnError : Prop :=
  ∀ (u : BitVec 4) (s : State),
    (Tab.find s.fits u.toNat = none → exec (.flxFitDone u) s = .next s)
    ∧ ∀ run, Tab.find s.fits u.toNat = some run →
    let f := run.whole
    let b := f.sums.getD 0 ⟨0, 0⟩
    let r := f.sums.getD 1 ⟨0, 0⟩
    let near := (r.i - b.i) ^ 2 + (r.q - b.q) ^ 2 < ((1024 * f.target : Nat) : Int) ^ 2
    (f.rounds < f.target → exec (.flxFitDone u) s = .next s)
    ∧ (f.target ≤ f.rounds →
    Ends (exec (.flxFitDone u) s) (fun t => Tab.find t.fits u.toNat = none ∧ t.on (fitCtrl_BUSY u.toNat) = false
      ∧ (near → t.on (fitCtrl_ERR u.toNat) = true ∧ t.fluxRuns = s.fluxRuns ∧ OnlyRegs s t [⟨.fitCtrl, u.toNat, 0, 0⟩])
      ∧ (¬ near → t.on (fitCtrl_DONE u.toNat) = true ∧ 384 + u.toNat ∈ t.seamRaised
          ∧ (t.fluxRun u.toNat f.ch).pend = some (t.fluxStaging u.toNat f.ch)
          ∧ t.on (fluxCtrl_PEND u.toNat f.ch) = true)))

/-- Writes of the flux registers: LVL is the level from now on, and no launch's any more; ENABLE is as written, and
disabling clears the chain; COMMIT makes the staging bank pending; a fit starts, or sets ERR, and ends at ABORT
(R252, R256, R257, R259). -/
def Sys2Proof.Claim.FluxRegisterWrites : Prop :=
  ∀ (u k : BitVec 4) (w : WriteOp) (s : State),
    let u' := u.toNat
    let k' := k.toNat
    (Lands s ⟨.fluxLvl, u', k', 0⟩ w → Ends (exec (.fluxLvlWrite u k w) s) (fun t =>
        t.reg ⟨.fluxLvl, u', k', 0⟩ = s.merged ⟨.fluxLvl, u', k', 0⟩ w
        ∧ t.fluxRun u' k' = { s.fluxRun u' k' with owner := none }
        ∧ OnlyRegs s t [⟨.fluxLvl, u', k', 0⟩]
        ∧ t = { s with regs := t.regs, shots := t.shots, fluxRuns := t.fluxRuns }))
    ∧ (Lands s ⟨.fluxCtrl, u', k', 0⟩ w → Ends (exec (.fluxEnableWrite u k w) s) (fun t =>
        t.on (fluxCtrl_ENABLE u' k') = ((s.merged ⟨.fluxCtrl, u', k', 0⟩ w).getLsbD (fluxCtrl_ENABLE u' k').lo)
        ∧ (t.on (fluxCtrl_ENABLE u' k') = false →
            (t.fluxRun u' k').secs = [0, 0, 0, 0] ∧ (t.fluxRun u' k').hist = [])
        ∧ (strobe w.bits (fluxCtrl_COMMIT u' k') = true → (t.fluxRun u' k').pend = some (s.fluxStaging u' k'))
        ∧ (strobe w.bits (fluxCtrl_COMMIT u' k') = false → (t.fluxRun u' k').pend = (s.fluxRun u' k').pend)
        ∧ (t.fluxRun u' k').bank = (s.fluxRun u' k').bank ∧ OnlyRegs s t [⟨.fluxCtrl, u', k', 0⟩]))
    ∧ (Strikes s (fluxCtrl_COMMIT u' k') w → Ends (exec (.fluxCommit u k w) s) (fun t =>
        (t.fluxRun u' k').pend = some (s.fluxStaging u' k') ∧ t.on (fluxCtrl_PEND u' k') = true
        ∧ (t.fluxRun u' k').bank = (s.fluxRun u' k').bank ∧ OnlyRegs s t [⟨.fluxCtrl, u', k', 0⟩]))
    ∧ (Strikes s (fitCtrl_ABORT u') w → Ends (exec (.flxFitAbort u w) s) (fun t =>
        Tab.find t.fits u' = none ∧ t.on (fitCtrl_BUSY u') = false ∧ t.fluxRuns = s.fluxRuns))
    ∧ (Strikes s (fitCtrl_START u') w → strobe w.bits (fitCtrl_ABORT u') = false →
      let y := ((s.setReg ⟨.fitCtrl, u', 0, 0⟩ (s.merged ⟨.fitCtrl, u', 0, 0⟩ w)).put (fitCtrl_START u') false).put
        (fitCtrl_ABORT u') false
      Ends (exec (.flxFitStart u w) s) (fun t =>
        (y.fitRefused u' = true → t.on (fitCtrl_ERR u') = true ∧ t.fits = s.fits)
        ∧ (y.fitRefused u' = false → t.on (fitCtrl_BUSY u') = true ∧ (Tab.find t.fits u').isSome = true)))

/-- An update of a ready die: an output held in Dormant stands, and its target is its present code; one that does not
change range moves toward its target by at most its slew step, its DAC code is that position, rounded and
limited, and the target it takes begins a range change if its range is another; one that changes range moves to
zero, then takes the range, and waits (R240-R243, R245). That halves round away from zero is the model's choice,
log entry 36. A die that is not ready does nothing (log entry 2). -/
def Obligations.BiasUpdatesSlewTowardTheTarget : Prop :=
  ∀ (d : BitVec 1) (loads : List BiasLoad) (s : State),
    let d' := d.toNat
    (s.on (bdieStatus_READY d') = false → exec (.biasUpdate d loads) s = .next s)
    ∧ (s.on (bdieStatus_READY d') = true →
    Ends (exec (.biasUpdate d loads) s) (fun t => t.mem = s.mem ∧ t.threads = s.threads
      ∧ ∀ b, b < 192 →
        let x := s.biasOut d' b
        let cur := s.rd (biasStatus_CUR_RANGE d' b)
        let code := unsignedOf 20 (sat20 (roundAway (t.biasOut d' b).acc))
        t.rd (biasStatus_DAC d' b) = code
        ∧ (s.biasHeld d' = true → (t.biasOut d' b).acc = x.acc ∧ t.rd (biasStatus_CUR_RANGE d' b) = cur
            ∧ (t.biasOut d' b).tgt.1 = sat20 (roundAway x.acc) ∧ t.on (biasStatus_SLEWING d' b) = false)
        ∧ (s.biasHeld d' = false → x.still = false →
          (t.biasOut d' b).tgt = s.biasTarget d' b
          ∧ (x.ranging = .none →
            (t.biasOut d' b).acc = slewToward x.acc x.tgt.1 (slewStep cur x.tgt.2.2)
            ∧ t.rd (biasStatus_CUR_RANGE d' b) = cur
            ∧ (t.biasOut d' b).ranging = if (s.biasTarget d' b).2.1 = cur then .none else .toZero)
          ∧ (x.ranging = .toZero →
            let acc := slewToward x.acc 0 (slewStep cur x.tgt.2.2)
            (t.biasOut d' b).acc = acc
            ∧ (acc ≠ 0 → (t.biasOut d' b).ranging = .toZero ∧ t.rd (biasStatus_CUR_RANGE d' b) = cur)
            ∧ (acc = 0 → (s.biasTarget d' b).2.1 = x.tgt.2.1 → (t.biasOut d' b).ranging = .hold 5
                ∧ t.rd (biasStatus_CUR_RANGE d' b) = x.tgt.2.1 % 4)))))

/-- The pins and tables of the bias dies: BIAS_CLR_N low, once 50 samples long, takes every output of both dies back to
park until its next write; a die with power and a park table becomes ready, and connects its outputs at code 0 in
their park range, to slew to park; a table, or after 18 ms without one the default of code 0 and 100 ppm of range
per second, is the park table, and stands in CODE, RANGE and SLEW of an output not written (R245-R247). -/
def Sys2Proof.Claim.BiasDiesParkTheirOutputs : Prop :=
  ∀ (d : BitVec 1) (s : State),
    let d' := d.toNat
    (∀ low n, n < 50 → exec (.biasClrN low n) s = .next s)
    ∧ (∀ low n, 50 ≤ n → Ends (exec (.biasClrN low n) s) (fun t => ∀ e : Nat, e < 2 →
        t.on (bdieStatus_CLR_ACTIVE e) = low
        ∧ (low = true → ∀ b, (t.biasOut e b).written = false ∧ t.parks e b = true)
        ∧ (low = false → ∀ b, t.biasOut e b = s.biasOut e b)))
    ∧ (s.on (bdieStatus_READY d') = false → d' ∈ s.boot.biasGood → s.hasTable d' = true →
      Ends (exec (.biasDieReady d) s) (fun t =>
        t.on (bdieStatus_READY d') = true ∧ t.bitAt dieStatus_BREADY d' = true
        ∧ ∀ b, b < 192 → t.on (biasStatus_CONNECTED d' b) = true ∧ t.rd (biasStatus_DAC d' b) = 0
          ∧ t.rd (biasStatus_CUR_RANGE d' b) = s.rd (biasPark_PARK_RANGE d' b)
          ∧ t.biasOut d' b = { tgt := s.parkTarget d' b }))
    ∧ ((s.on (bdieStatus_READY d') = true ∨ d' ∉ s.boot.biasGood ∨ s.hasTable d' = false) →
      exec (.biasDieReady d) s = .next s)
    ∧ (s.on (bdieStatus_READY d') = false → d' ∈ s.boot.biasGood → d' ∉ s.boot.tables →
      Ends (exec (.parkTableTimeout d) s) (fun t => t.on (bdieStatus_PARK_DEFAULT d') = true
        ∧ ∀ b, b < 192 → t.rd (biasPark_PARK_CODE d' b) = 0 ∧ t.rd (biasPark_PARK_RANGE d' b) = 0
          ∧ t.rd (biasPark_PARK_SLEW d' b) = 100
          ∧ ((s.biasOut d' b).written = false → t.rd (biasCode_CODE d' b) = 0 ∧ t.rd (biasCfg_RANGE d' b) = 0
              ∧ t.rd (biasCfg_SLEW d' b) = 100)))
    ∧ (d' ∈ s.boot.tables → exec (.parkTableTimeout d) s = .next s)
    ∧ (∀ table : List Word, table.length = 192 → d' ∈ s.boot.biasGood →
      Ends (exec (.parkTableRx d table) s) (fun t => t.on (bdieStatus_PARK_DEFAULT d') = false
        ∧ t.hasTable d' = true
        ∧ ∀ b, b < 192 → let w := table.getD b 0
          t.reg ⟨.biasPark, d', b, 0⟩ = withBits w 22 10 0
          ∧ ((s.biasOut d' b).written = false → t.rd (biasCode_CODE d' b) = bitsOf w 0 20
              ∧ t.rd (biasCfg_RANGE d' b) = bitsOf w 20 2 ∧ t.rd (biasCfg_SLEW d' b) = bitsOf w 32 32)))

/-- Drift tracking: the readback of an output, once taken, moves TRIM by at most one LSB against its error, and at the
end of TRIM's range sets TRIM_LIM instead; of an output that is not tracked it moves nothing, and without one
nothing happens (R249). The expected readback is a free value (log entry 124). -/
def Sys2Proof.Claim.DriftTrackingMovesTrimByOne : Prop :=
  ∀ (d : BitVec 1) (b : BitVec 8) (s : State),
    let d' := d.toNat
    let b' := b.toNat
    ((∀ code, (s.mon d').readback ≠ some (b', code)) → exec (.biasDriftTrack d b) s = .next s)
    ∧ ∀ code, (s.mon d').readback = some (b', code) →
      let e := code - Config.readback d' b' (sat20 (s.rdS (biasCode_CODE d' b') + s.rdS (biasCode_TRIM d' b')))
      let trim := s.rdS (biasCode_TRIM d' b')
      let next := if 0 < e then trim - 1 else if e < 0 then trim + 1 else trim
      ((s.tracked d' b' = false ∨ s.on (bdieStatus_CLR_ACTIVE d') = true) →
        Ends (exec (.biasDriftTrack d b) s) (fun t => (t.mon d').readback = none ∧ t.regs = s.regs))
      ∧ (s.tracked d' b' = true → s.on (bdieStatus_CLR_ACTIVE d') = false →
        Ends (exec (.biasDriftTrack d b) s) (fun t => (t.mon d').readback = none
          ∧ (-4096 ≤ next → next ≤ 4095 → t.rdS (biasCode_TRIM d' b') = next
            ∧ OnlyRegs s t [⟨.biasCode, d', b', 0⟩])
          ∧ ((next < -4096 ∨ 4095 < next) → t.on (biasStatus_TRIM_LIM d' b') = true
            ∧ OnlyRegs s t [⟨.biasStatus, d', b', 0⟩])))

/-- Writes to bias outputs: with SYNC = 0 CODE and RANGE take effect and the output follows them, with SYNC = 1 they
are staged until APPLY, and under BIAS_CLR_N they are refused and counted; TRIM and SLEW are as written; APPLY makes
the staged values take effect, and under BIAS_CLR_N discards them; a command the link repeats more than eight
times, or a die not ready does not answer, is dropped, any other is a write of its register (R18, R240, R247, R248,
R250). That a staged write counts as written at APPLY is the model's choice, log entry 37. -/
def Obligations.BiasRegisterWrites : Prop :=
  ∀ (d : BitVec 1) (b : BitVec 8) (w : WriteOp) (s : State),
    let d' := d.toNat
    let b' := b.toNat
    let clr := s.on (bdieStatus_CLR_ACTIVE d')
    (Lands s ⟨.biasCode, d', b', 0⟩ w →
      let new := s.merged ⟨.biasCode, d', b', 0⟩ w
      (clr = false → Ends (exec (.biasOutputWrite d b true w) s) (fun t =>
          t.rd (biasCode_TRIM d' b') = bitsOf new 32 13
          ∧ (w.half.covers 0 = false → OnlyRegs s t [⟨.biasCode, d', b', 0⟩] ∧ t.biasOuts = s.biasOuts)
          ∧ (w.half.covers 0 = true → s.on (biasCfg_SYNC d' b') = false →
              t.rd (biasCode_CODE d' b') = bitsOf new 0 20 ∧ (t.biasOut d' b').written = true
              ∧ OnlyRegs s t [⟨.biasCode, d', b', 0⟩])
          ∧ (w.half.covers 0 = true → s.on (biasCfg_SYNC d' b') = true →
              t.rd (biasCode_CODE d' b') = s.rd (biasCode_CODE d' b') ∧ t.on (biasStatus_STAGED d' b') = true
              ∧ (t.biasOut d' b').stCode = some (BitVec.ofNat 20 (bitsOf new 0 20)))))
      ∧ (clr = true → exec (.biasOutputWrite d b true w) s = .next (s.bump (bdieStatus_REFUSED d'))))
    ∧ (Lands s ⟨.biasCfg, d', b', 0⟩ w →
      let new := s.merged ⟨.biasCfg, d', b', 0⟩ w
      Ends (exec (.biasOutputWrite d b false w) s) (fun t =>
        t.rd (biasCfg_SLEW d' b') = bitsOf new 32 32
        ∧ t.on (biasCfg_SYNC d' b') = new.getLsbD 3 ∧ t.on (biasCfg_DGL_EN d' b') = new.getLsbD 2
        ∧ (w.half.covers 0 = true → clr = false → new.getLsbD 3 = false →
            t.rd (biasCfg_RANGE d' b') = bitsOf new 0 2 ∧ (t.biasOut d' b').written = true)
        ∧ (w.half.covers 0 = true → clr = false → new.getLsbD 3 = true →
            t.rd (biasCfg_RANGE d' b') = s.rd (biasCfg_RANGE d' b') ∧ t.on (biasStatus_STAGED d' b') = true
            ∧ (t.biasOut d' b').stRange = some (BitVec.ofNat 2 (bitsOf new 0 2)))
        ∧ (w.half.covers 0 = true → clr = true →
            t.rd (biasCfg_RANGE d' b') = s.rd (biasCfg_RANGE d' b') ∧ t.biasOuts = s.biasOuts
            ∧ t.rd (bdieStatus_REFUSED d') = min (s.rd (bdieStatus_REFUSED d') + 1) 65535)))
    ∧ (Strikes s (bdieApply_APPLY d') w → Ends (exec (.biasApply d w) s) (fun t => ∀ n, n < 192 →
        (t.biasOut d' n).stCode = none ∧ (t.biasOut d' n).stRange = none
        ∧ (clr = false → (∀ v, (s.biasOut d' n).stCode = some v →
            t.rd (biasCode_CODE d' n) = v.toNat ∧ t.on (biasStatus_STAGED d' n) = false
            ∧ (t.biasOut d' n).written = true)
          ∧ (∀ v, (s.biasOut d' n).stRange = some v →
            t.rd (biasCfg_RANGE d' n) = v.toNat ∧ t.on (biasStatus_STAGED d' n) = false
            ∧ (t.biasOut d' n).written = true))
        ∧ (clr = true → t.rd (biasCode_CODE d' n) = s.rd (biasCode_CODE d' n)
            ∧ t.rd (biasCfg_RANGE d' n) = s.rd (biasCfg_RANGE d' n))))
    ∧ (∀ addr r errors, Reg.ofAddr addr = some r → r.onBiasDie = true → r.die = d' → s.undef = none →
      s.reaches w.req.domain r (s.merged r w) = true →
      (8 < errors.toNat ∨ s.bitAt dieStatus_BREADY d' = false →
        Ends (exec (.biasLinkCommand d addr w errors) s) (fun t =>
          502 ∈ t.seamRaised ∧ t.bitAt dieStatus_BLINK_ERR d' = true
          ∧ OnlyRegs s t [⟨.dieStatus, 0, 0, 0⟩] ∧ t.biasOuts = s.biasOuts))
      ∧ (errors.toNat ≤ 8 → s.bitAt dieStatus_BREADY d' = true →
        exec (.biasLinkCommand d addr w errors) s = finish (s.land r w)
        ∧ (r.name = .bdieCtrl →
            exec (.biasLinkCommand d addr w errors) s = .next (s.setReg r (s.merged r w)))))

/-- Edges and units of the converters: an edge of an enabled input, far enough from its last in a tick that runs, is
stamped with its offset, a nearer one is no edge; a window without a stop, a held stop too old, the end of the dead
time and a recalibration (R262, R265, R266, R268, R275). A command whose occasion has not come leaves the
state as it stands: the model's choice, log entry 2. So is that recalibrations are counted from the
enable, log entry 34, and that gaps, windows and dead times count device ticks, log entry 122. -/
def Obligations.ConverterUnitsFollowTheirEdges : Prop :=
  ∀ (n : BitVec 5) (frac : BitVec 10) (u : BitVec 4) (s : State),
    let n' := n.toNat
    let u' := u.toNat
    let at_ : Int := 1024 * s.tick + frac.toNat
    let ftAt : Int := 1024 * s.ft.toNat + frac.toNat - s.rdS (tdcIn_OFFSET n')
    let gap : Int := if n' < 16 then 2048 else 8192
    let seen := n' < 20 ∧ s.on (tdcIn_EN n') = true ∧ ¬ (s.dormant = true ∧ 16 ≤ n')
    (seen → s.on timeStatus_PLL_LOCK = true → (∀ l, Tab.find s.tdcLast n' = some l → gap ≤ at_ - l) →
      Ends (exec (.tdcEdge n frac) s) (fun t => Tab.find t.tdcLast n' = some at_
        ∧ (∃ e, t.tdcEdges = s.tdcEdges ++ [e] ∧ e.src = n' ∧ e.due = s.tick + 4 ∧ e.real = at_
          ∧ (16 ≤ n' → e.time = ftAt)
          ∧ (n' < 16 → e.time ≤ ftAt ∧ ftAt < e.time + 32 ∧ e.time % 32 = 0))
        ∧ (∀ r : Reg, r.name ≠ .seamCh → t.reg r = s.reg r)))
    ∧ (seen → (s.on timeStatus_PLL_LOCK = false ∨ ∃ l, Tab.find s.tdcLast n' = some l ∧ at_ - l < gap) →
      Ends (exec (.tdcEdge n frac) s) (fun t => t.tdcEdges = s.tdcEdges ∧ t.tdcLast = s.tdcLast
        ∧ (∀ r : Reg, r.name ≠ .seamCh → t.reg r = s.reg r)))
    ∧ (¬ seen → exec (.tdcEdge n frac) s = .next s)
    ∧ (∀ a, (s.tdcUnit u').phase = .opened a → a + s.tdcWindow u' < s.tdcStops u' s.tdcNow →
      Ends (exec (.tdcWindowExpiry u) s) (fun t => (∃ e, (t.tdcUnit u').phase = .recovering e
          ∧ a + s.tdcWindow u' + s.tdcOffset (s.rd (tdcCfg_STOP_SRC u')) + tdcDead u' ≤ e)
        ∧ t.rd (tdcCounts_NOSTOP u') = min (s.rd (tdcCounts_NOSTOP u') + 1) 65535
        ∧ OnlyRegs s t [⟨.tdcCounts, u', 0, 0⟩]))
    ∧ (s.tdcExpired u' = false → exec (.tdcWindowExpiry u) s = .next s)
    ∧ (s.tdcStale u' = true → Ends (exec (.tdcHeldStopExpiry u) s) (fun t =>
        (t.tdcUnit u').held = none ∧ (t.tdcUnit u').phase = (s.tdcUnit u').phase
        ∧ t.rd (tdcCounts_IGN_STOP u') = min (s.rd (tdcCounts_IGN_STOP u') + 1) 65535
        ∧ OnlyRegs s t [⟨.tdcCounts, u', 0, 0⟩]))
    ∧ (s.tdcStale u' = false → exec (.tdcHeldStopExpiry u) s = .next s)
    ∧ (s.tdcRecovered u' = true → Ends (exec (.tdcRecoveryEnd u) s) (fun t =>
        t.tdcUnit u' = { s.tdcUnit u' with phase := .armed } ∧ t.regs = s.regs))
    ∧ (s.tdcRecovered u' = false → exec (.tdcRecoveryEnd u) s = .next s)
    ∧ (s.tdcRecals u' = true → Ends (exec (.tdcRecalibrate u) s) (fun t =>
        (t.tdcUnit u').phase = .recovering (s.tdcNow + 102400) ∧ (t.tdcUnit u').calAt = s.tick
        ∧ t.regs = s.regs))
    ∧ (s.tdcRecals u' = false → exec (.tdcRecalibrate u) s = .next s)

/-- The queues, statistics and calibration output of the converters: a pop by the claim's holder takes the
oldest word, and marks one of bad parity, from an empty queue it sets UNDERRUN, by another it is denied and
counted; writes of CFG, FLUSH and GO; PT_CAL rises at its phase 0, FINE within the tick, as a CAL edge and falls
WIDTH on (R263, R271, R273, R274, R297). -/
def Obligations.ConverterQueuesAndRegisters : Prop :=
  ∀ (u : BitVec 4) (req : Requester) (w : WriteOp) (s : State),
    let u' := u.toNat
    (s.holdsTdc u' req.domain = true →
      (∀ x rest, (s.tdcUnit u').queue.words = x :: rest →
        Ends (exec (.tdcQueuePop u req) s) (fun t => (t.tdcUnit u').queue.words = rest
          ∧ (t.tdcUnit u').queue.lastPop = x.w
          ∧ (x.parityOk = false → t.on (tdcQStatus_POISON u') = true)
          ∧ (x.parityOk = true → t.regs = s.regs)))
      ∧ ((s.tdcUnit u').queue.words = [] → Ends (exec (.tdcQueuePop u req) s) (fun t =>
          t.on (tdcQStatus_UNDERRUN u') = true ∧ (t.tdcUnit u').queue = (s.tdcUnit u').queue)))
    ∧ (s.holdsTdc u' req.domain = false →
      exec (.tdcQueuePop u req) s = .next (s.bump seamStatus_DENIED))
    ∧ (Lands s ⟨.tdcCfg, u', 0, 0⟩ w →
      let new := s.merged ⟨.tdcCfg, u', 0, 0⟩ w
      let refused := s.on (tdcCfg_EN u') = true ∨ tdcRefuses u' new = true
      Ends (exec (.tdcUnitCfgWrite u w) s) (fun t =>
        (bitsOf new 0 1 = 1 → refused →
          t.on (tdcCfg_CFG_REFUSED u') = true ∧ t.on (tdcCfg_EN u') = s.on (tdcCfg_EN u') ∧ t.tdcUnits = s.tdcUnits)
        ∧ (bitsOf new 0 1 = 1 → ¬ refused → t.reg ⟨.tdcCfg, u', 0, 0⟩ = new
          ∧ (t.tdcUnit u').held = none ∧ (t.tdcUnit u').phase = (if bitsOf new 1 2 = 0 then .off else .armed))
        ∧ (bitsOf new 0 1 = 0 → t.reg ⟨.tdcCfg, u', 0, 0⟩ = new ∧ (t.tdcUnit u').phase = .off)))
    ∧ (Strikes s (tdcQStatus_FLUSH u') w → Ends (exec (.tdcQueueFlush u w) s) (fun t =>
        (s.on (tdcCfg_EN u') = false → (t.tdcUnit u').queue.words = []
          ∧ (t.tdcUnit u').queue.dropped = (s.tdcUnit u').queue.dropped)
        ∧ (s.on (tdcCfg_EN u') = true → t.tdcUnits = s.tdcUnits)))
    ∧ (8 ≤ u' → Strikes s (statCtrl_GO (u' - 8)) w → Ends (exec (.statGo u w) s) (fun t =>
        ((s.on (tdcCfg_EN u') = false ∨ s.rd (tdcCfg_MODE u') = 0) →
          t.on (statCtrl_REFUSED (u' - 8)) = true ∧ t.tdcUnits = s.tdcUnits)
        ∧ (s.on (tdcCfg_EN u') = true → s.rd (tdcCfg_MODE u') ≠ 0 → t.on (statCtrl_BUSY (u' - 8)) = true
          ∧ ∃ r, (t.tdcUnit u').stat = some r ∧ r.n = 0)))
    ∧ (s.calPhase = some 0 → Ends (exec .ptCalEdge s) (fun t =>
        t.out = .ptCal true s.tick (s.rd tdcCal_FINE) :: s.out ∧ t.calHigh = true
        ∧ ∃ e, t.tdcEdges = s.tdcEdges ++ [e] ∧ e.src = 20
          ∧ e.time = 1024 * (s.ft.toNat : Int) + 64 * s.rd tdcCal_FINE))
    ∧ (s.calPhase = some s.calWidth → s.calHigh = true →
        exec .ptCalEdge s = .next ({ s with calHigh := false }.send (.ptCal false s.tick (s.rd tdcCal_FINE))))
    ∧ (s.calPhase ≠ some 0 → (s.calPhase ≠ some s.calWidth ∨ s.calHigh = false) → exec .ptCalEdge s = .next s)

/-- The monitors: an enabled idle one starts its sequence at step 0, one already running counts the start as
missed; a conversion's code, its signal in LSB to the nearest and limited to ±32,767, joins the step's sum, and the
last of a step leaves the step's result and goes on, or ends the sequence; a tracking conversion leaves its
readback; an urgent request is taken once and ends with its own result (R278-R283). That halves round away from zero
is the model's choice, log entry 15. -/
def Obligations.MonitorsRunTheirSequence : Prop :=
  ∀ (d : BitVec 1) (signal : Int) (w : WriteOp) (s : State),
    let d' := d.toNat
    let x := s.mon d'
    let starts (o : Host.Outcome State Fault Refusal) : Prop :=
      (s.on (monCtrl_EN d') = false → o = .next s)
      ∧ (s.on (monCtrl_EN d') = true → s.on (monCtrl_BUSY d') = false →
        Ends o (fun t => (t.mon d').step = some 0 ∧ (t.mon d').sum = 0 ∧ t.on (monCtrl_BUSY d') = true))
      ∧ (s.on (monCtrl_EN d') = true → s.on (monCtrl_BUSY d') = true → o = .next (s.bump (monStatus_MISSED d')))
    let code (input : Nat) := monCode ((signal : Rat) / s.monLsb d' input)
    (s.monTimerDue d' = true → starts (exec (.monTimerStart d) s))
    ∧ (s.monTimerDue d' = false → exec (.monTimerStart d) s = .next s)
    ∧ (s.rd (monCtrl_TRIG d') = 2 → starts (exec (.monSeamStart d) s))
    ∧ (s.rd (monCtrl_TRIG d') ≠ 2 → exec (.monSeamStart d) s = .next s)
    ∧ (Strikes s (monCtrl_START d') w →
      let en := (s.merged ⟨.monCtrl, d', 0, 0⟩ w).getLsbD (monCtrl_EN d').lo
      Ends (exec (.monStart d w) s) (fun t =>
        (en = true → s.on (monCtrl_BUSY d') = false → (t.mon d').step = some 0 ∧ t.on (monCtrl_BUSY d') = true)
        ∧ (en = true → s.on (monCtrl_BUSY d') = true → (t.mon d').step = x.step
            ∧ t.rd (monStatus_MISSED d') = (s.bump (monStatus_MISSED d')).rd (monStatus_MISSED d'))
        ∧ (en = false → x.conv ≠ some .step → (t.mon d').step = none ∧ t.on (monCtrl_BUSY d') = false)))
    ∧ (∀ k, x.conv = some .step → x.step = some k → x.stopping = false →
      let input := s.rd (monStep0_INPUT d' k)
      let sum := x.sum + (code input).1
      let beyond := x.beyond || (code input).2
      let mean := monMean sum (s.rd (monStep0_AVG d' k))
      let limit := s.on (monStep0_LIM_EN d' k) && (beyond || decide (mean < s.rdS (monStep1_LO d' k))
        || decide (s.rdS (monStep1_HI d' k) < mean))
      Ends (exec (.monConversionDone d signal) s) (fun t =>
        (x.made + 1 < 2 ^ s.rd (monStep0_AVG d' k) →
          (t.mon d').sum = sum ∧ (t.mon d').made = x.made + 1 ∧ (t.mon d').step = some k ∧ t.regs = s.regs)
        ∧ (2 ^ s.rd (monStep0_AVG d' k) ≤ x.made + 1 →
          t.reg ⟨.monResult, d', k, 0⟩ = s.monWord d' input mean beyond limit (s.rd (monStatus_RUNS d'))
          ∧ (limit = true → 507 + d' ∈ t.seamRaised)
          ∧ (k < s.rd (monCtrl_LAST d') → (t.mon d').step = some (k + 1) ∧ (t.mon d').sum = 0)
          ∧ (s.rd (monCtrl_LAST d') ≤ k → (t.mon d').step = none ∧ t.on (monCtrl_BUSY d') = false
            ∧ t.on (monCtrl_DONE d') = true ∧ 505 + d' ∈ t.seamRaised))))
    ∧ (x.conv = some .urgent → Ends (exec (.monConversionDone d signal) s) (fun t =>
        (x.uMade + 1 < 2 ^ x.uAvg → (t.mon d').uSum = x.uSum + (code x.uInput).1 ∧ (t.mon d').urgent = x.urgent)
        ∧ (2 ^ x.uAvg ≤ x.uMade + 1 → (t.mon d').urgent = false ∧ t.on (monUrgent_URG_DONE d') = true
          ∧ t.reg ⟨.monUrgResult, d', 0, 0⟩ = s.monWord d' x.uInput (monMean (x.uSum + (code x.uInput).1) x.uAvg)
              (x.uOver || (code x.uInput).2) false 0)))
    ∧ (∀ b, x.conv = some (.track b) → Ends (exec (.monConversionDone d signal) s) (fun t =>
        (t.mon d').readback = some (b, (code b).1) ∧ t.regs = s.regs))
    ∧ (x.conv = none → exec (.monConversionDone d signal) s = .next s)
    ∧ (Strikes s (monUrgent_GO d') w → Ends (exec (.monUrgentGo d w) s) (fun t => (t.mon d').urgent = true
        ∧ (x.urgent = true → t.on (monUrgent_URG_REFUSED d') = true ∧ t.mons = s.mons)
        ∧ (x.urgent = false → (t.mon d').uSum = 0 ∧ (t.mon d').uMade = 0)))

/-! Power states, the reference, SYNC_IN, the PTP clock (01, 02). -/

/-- A write of REQ outside a transition starts the transition it asks for, by way of Standby; during one, and
before boot is complete, it is held; in the tick of a wake event it stands alone; 0b11 has no effect, nor has Active
under the critical hold, nor a write of the other half of the register (R22, R26). -/
def Sys2Proof.Claim.PowerRequestsAreHeldOrActedOn : Prop :=
  ∀ (w : WriteOp) (s : State), Lands s ⟨.pwr, 0, 0, 0⟩ w →
    let v := bitsOf (s.merged ⟨.pwr, 0, 0, 0⟩ w) 0 2
    let idle := s.on pwr_BUSY = false ∧ s.rd globalBoot_STAGE = 4
    let woken := s.pwrRun.cause = 2 ∧ s.pwrRun.since = s.tick
    (w.half = .high → exec (.powerRequest w) s = .next s)
    ∧ (w.half ≠ .high →
      (v = 3 → exec (.powerRequest w) s = .next s)
      ∧ (v ≠ 3 → (s.on pwr_BUSY = true ∧ ¬ woken ∨ s.on pwr_BUSY = false ∧ s.rd globalBoot_STAGE ≠ 4) →
        Ends (exec (.powerRequest w) s) (fun t => t.rd pwr_REQ = v ∧ t.pwrRun.held = some v
          ∧ t.rd pwr_CUR = s.rd pwr_CUR ∧ t.on pwr_BUSY = s.on pwr_BUSY ∧ OnlyRegs s t [⟨.pwr, 0, 0, 0⟩]))
      ∧ (v ≠ 3 → s.on pwr_BUSY = true → woken → s.rd globalBoot_STAGE = 4 → s.rd pwr_CUR = 2 →
        Ends (exec (.powerRequest w) s) (fun t => t.rd pwr_REQ = v ∧ t.rd pwr_CUR = 2 ∧ t.wakeDue = false
          ∧ (v = 2 → t.on pwr_BUSY = false)
          ∧ (v ≠ 2 → t.on pwr_BUSY = true ∧ t.pwrRun.target = some 1 ∧ t.pwrRun.goal = some v)))
      ∧ (v ≠ 3 → idle → v = s.rd pwr_CUR →
        Ends (exec (.powerRequest w) s) (fun t => t.rd pwr_REQ = v ∧ t.on pwr_BUSY = false ∧ t.rd pwr_CUR = v
          ∧ t.wakeDue = false))
      ∧ (v ≠ 3 → idle → v ≠ s.rd pwr_CUR → ¬ (s.rd pwr_CUR = 1 ∧ v = 0 ∧ s.on pwr_CRIT_HOLD = true) →
        Ends (exec (.powerRequest w) s) (fun t => t.rd pwr_REQ = v ∧ t.on pwr_BUSY = true
          ∧ t.rd pwr_CUR = s.rd pwr_CUR ∧ t.pwrRun.target = some (if s.rd pwr_CUR = 1 then v else 1)))
      ∧ (idle → s.rd pwr_CUR = 1 → v = 0 → s.on pwr_CRIT_HOLD = true →
        Ends (exec (.powerRequest w) s) (fun t => t.on pwr_BUSY = false ∧ t.rd pwr_CUR = 1)))

/-- Active is left when no thread is in a scope: every thread Idle, the ready bias dies under the park order;
Active is entered with the park order taken back; Dormant takes the PLL and the lanes down and holds the bias
outputs; Standby is entered from Dormant once the PLL has locked; a wake event asks for Standby, unless the host has
written REQ in its tick (R22-R27; 08 R247; 10 R299). An order that the bias link cannot carry is dropped (R18), with
BLINK_ERR. A command whose occasion has not come does nothing (log entry 2). -/
def Sys2Proof.Claim.PowerTransitionsComplete : Prop :=
  ∀ s : State,
    let busyFor (g : Nat) : Prop := s.active = false ∧ s.on pwr_BUSY = true ∧ s.pwrRun.target = some g
    let ordered (t : State) (f : Nat → RField) (on : Bool) : Prop := ∀ d, d < 2 → s.bitAt dieStatus_BREADY d = true →
      t.on (f d) = on ∨ t.bitAt dieStatus_BLINK_ERR d = true
    (s.leavePending = true → s.anyInScope = false → Ends (exec .leaveActive s) (fun t =>
      t.rd pwr_CUR = 1 ∧ t.rd pwr_LAST_CAUSE = 0
      ∧ (∀ q : Thr, q.tile < 16 → q.idx < 8 → (t.thread q).st = .idle)
      ∧ ordered t bdieStatus_PARK_ORDER true))
    ∧ ((s.leavePending = false ∨ s.anyInScope = true) → exec .leaveActive s = .next s)
    ∧ (busyFor 0 → Ends (exec .powerTransitionComplete s) (fun t => t.rd pwr_CUR = 0
      ∧ ordered t bdieStatus_PARK_ORDER false))
    ∧ (busyFor 2 → Ends (exec .powerTransitionComplete s) (fun t => t.rd pwr_CUR = 2
      ∧ t.on timeStatus_PLL_LOCK = false ∧ t.on timeStatus_FT_VALID = false ∧ t.on timeStatus_PTP_LOCK = false
      ∧ (∀ l, l < 32 → t.rd (laneStatus_STATE l) = laneDisabled)
      ∧ ordered t bdieStatus_DORMANT_HOLD true))
    ∧ (busyFor 1 → s.on timeStatus_PLL_LOCK = true → Ends (exec .powerTransitionComplete s) (fun t =>
      t.rd pwr_CUR = 1 ∧ t.timers = [] ∧ ordered t bdieStatus_DORMANT_HOLD false))
    ∧ (busyFor 1 → s.on timeStatus_PLL_LOCK = false → exec .powerTransitionComplete s = .next s)
    ∧ ((s.active = true ∨ s.on pwr_BUSY = false) → exec .powerTransitionComplete s = .next s)
    ∧ (s.wakeDue = true → s.pwrRun.wrote ≠ some s.tick → s.dormant = true → s.on pwr_BUSY = false →
      Ends (exec .wakeEvent s) (fun t =>
        t.on pwr_BUSY = true ∧ t.pwrRun.target = some 1 ∧ t.wakeDue = false ∧ t.rd pwr_CUR = 2))
    ∧ ((s.wakeDue = false ∨ s.pwrRun.wrote = some s.tick ∨ s.dormant = false ∨ s.on pwr_BUSY = true) →
      exec .wakeEvent s = .next { s with wakeDue := false })

/-- The RF PLL locks while it has an input; losing REF_IN while locked to it is holdover, which its return
does not end; SRC, FREQ and RELOCK act in Standby only, and take the PLL out of lock; the crystal's
accumulator ages by AGE_RATE / 86,400 (R32-R38). That it rounds halves up is the model's choice, log entry 18; that
HOLDOVER from before Dormant is cleared at the next lock, log entry 103. -/
def Sys2Proof.Claim.ThePllFollowsItsReference : Prop :=
  ∀ (w : WriteOp) (s : State),
    let new := s.merged ⟨.refCfg, 0, 0, 0⟩ w
    let changes := bitsOf new 0 1 ≠ s.rd refCfg_SRC ∨ bitsOf new 1 1 ≠ s.rd refCfg_FREQ ∨ strobe w.bits refCfg_RELOCK = true
    let v : Int := s.rdS xtalAccum_ACCUM * 86400 + s.xtal.frac + s.rdS xtalTrim_AGE_RATE
    let held := s.on refCfg_SRC = false ∧ s.on timeStatus_PLL_LOCK = true
    let relocked (o : Host.Outcome State Fault Refusal) : Prop := Ends o (fun t =>
      t.rd refCfg_SRC = bitsOf new 0 1 ∧ t.rd refCfg_FREQ = bitsOf new 1 1 ∧ t.rd timeStatus_LINEAGE = bitsOf new 0 1
      ∧ t.on timeStatus_PLL_LOCK = false ∧ t.on timeStatus_FT_VALID = false ∧ t.on timeStatus_HOLDOVER = false)
    let refused (o : Host.Outcome State Fault Refusal) : Prop := Ends o (fun t =>
      t.on timeStatus_CFG_REFUSED = true ∧ OnlyRegs s t [⟨.timeStatus, 0, 0, 0⟩])
    (s.on timeStatus_PLL_LOCK = false → s.pllInput = true → Ends (exec .pllLock s) (fun t =>
      t.on timeStatus_PLL_LOCK = true ∧ t.on timeStatus_HOLDOVER = false
      ∧ t.on timeStatus_FT_VALID = s.on timeStatus_FT_VALID ∧ OnlyRegs s t [⟨.timeStatus, 0, 0, 0⟩]))
    ∧ ((s.on timeStatus_PLL_LOCK = true ∨ s.pllInput = false) → exec .pllLock s = .next s)
    ∧ (s.on timeStatus_REF_OK = true → Ends (exec .refLost s) (fun t => t.on timeStatus_REF_OK = false
      ∧ t.on timeStatus_PLL_LOCK = s.on timeStatus_PLL_LOCK
      ∧ (held → t.on timeStatus_HOLDOVER = true ∧ 496 ∈ t.seamRaised)
      ∧ (¬ held → t.on timeStatus_HOLDOVER = s.on timeStatus_HOLDOVER)))
    ∧ (s.on timeStatus_REF_OK = false → exec .refLost s = .next s)
    ∧ Ends (exec .refOkRestore s) (fun t => t.on timeStatus_REF_OK = true
      ∧ t.on timeStatus_HOLDOVER = s.on timeStatus_HOLDOVER ∧ OnlyRegs s t [⟨.timeStatus, 0, 0, 0⟩])
    ∧ (Lands s ⟨.refCfg, 0, 0, 0⟩ w →
      (¬ changes → exec (.refCfgWrite w) s = .next s)
      ∧ (changes → s.rd pwr_CUR ≠ 1 → refused (exec (.refCfgWrite w) s))
      ∧ (changes → s.rd pwr_CUR = 1 → relocked (exec (.refCfgWrite w) s)))
    ∧ (Strikes s refCfg_RELOCK w →
      (s.rd pwr_CUR = 1 → relocked (exec (.relock w) s)) ∧ (s.rd pwr_CUR ≠ 1 → refused (exec (.relock w) s)))
    ∧ Ends (exec .xtalAgeingUpdate s) (fun t => t.rd xtalAccum_ACCUM = unsignedOf 32 ((v + 43200) / 86400)
      ∧ t.xtal.frac = v - (v + 43200) / 86400 * 86400 ∧ OnlyRegs s t [⟨.xtalAccum, 0, 0, 0⟩])

/-- An edge of SYNC_IN that meets R40's conditions is stamped, or loads forest time LOAD_DELAY ticks on while
armed, unless an earlier one does; others are counted by their reason; arming is refused while anything runs; at the
load tick forest time becomes LOAD plus the correction, and the stamp is that less LOAD_DELAY (R40-R44). That a
glitch is counted before ARM is looked at, and that a refused write of ARM = 1 stores its other fields, are the
model's choices, log entries 102 and 100. -/
def Sys2Proof.Claim.SyncEdgesStampOrLoadForestTime : Prop :=
  ∀ (e : SyncEdge) (w : WriteOp) (s : State),
    let edge := s.on timeStatus_PLL_LOCK = true ∧ e.before2 = false ∧ e.before1 = false ∧ e.atE = true
    let inside := s.on refCfg_SRC = true ∨ s.marginGood e.margin = true
    let check := s.on syncCtrl_MODE = true
    let ctrl : Reg := ⟨.syncCtrl, 0, 0, 0⟩
    let new := s.merged ctrl w
    let busy := s.anyRunning = true ∨ ∃ p ∈ s.threads, (s.thread p.1).queue ≠ []
    let counted (f : RField) (t : State) : Prop := t.rd f = min (s.rd f + 1) 255 ∧ t.syncLoad = s.syncLoad
      ∧ t.ft = s.ft
    (¬ edge → exec (.syncEdge e) s = .next s)
    ∧ (edge → e.after = false → exec (.syncEdge e) s = .next (s.bump syncStat_GLITCH_REJ))
    ∧ (edge → e.after = true → ¬ check → s.on syncCtrl_ARM = false → Ends (exec (.syncEdge e) s) (counted syncStat_IGNORED))
    ∧ (edge → e.after = true → (check ∨ s.on syncCtrl_ARM = true) → ¬ inside →
      Ends (exec (.syncEdge e) s) (counted syncStat_MARGIN_REJ))
    ∧ (edge → e.after = true → inside → check → Ends (exec (.syncEdge e) s) (fun t =>
      t.reg ⟨.syncStamp, 0, 0, 0⟩ = s.ftAt (s.tick - e.age) ∧ t.on syncStat_STAMP_NEW = true
      ∧ t.syncLoad = s.syncLoad ∧ t.ft = s.ft))
    ∧ (edge → e.after = true → inside → ¬ check → s.on syncCtrl_ARM = true → Ends (exec (.syncEdge e) s) (fun t =>
      (s.syncLoad = none → t.syncLoad = some ⟨s.tick + s.loadDelay - e.age, s.loadDelay⟩)
      ∧ (s.syncLoad ≠ none → t.syncLoad = s.syncLoad) ∧ t.ft = s.ft))
    ∧ (Strikes s syncCtrl_ARM w → new.getLsbD 0 = true →
      (s.on syncCtrl_ARM = false → busy → Ends (exec (.syncArmWrite w) s) (fun t =>
        t.reg ctrl = withBits new 0 1 0 ∧ t.on syncCtrl_ARM = false
        ∧ t.rd syncStat_ARM_REFUSED = min (s.rd syncStat_ARM_REFUSED + 1) 255))
      ∧ ((s.on syncCtrl_ARM = true ∨ ¬ busy) → exec (.syncArmWrite w) s = .next (s.setReg ctrl new)))
    ∧ (∀ x, s.syncLoad = some x →
      let v := s.reg ⟨.syncLoad, 0, 0, 0⟩ + BitVec.ofInt 64 (s.rdS skew_CORR / 256)
      (s.tick < x.at_ → exec .forestTimeLoad s = .next s)
      ∧ (x.at_ ≤ s.tick → s.on syncCtrl_ARM = false → exec .forestTimeLoad s = .next { s with syncLoad := none })
      ∧ (x.at_ ≤ s.tick → s.on syncCtrl_ARM = true → Ends (exec .forestTimeLoad s) (fun t =>
        t.ft = v + BitVec.ofNat 64 (s.tick - x.at_)
        ∧ t.reg ⟨.syncStamp, 0, 0, 0⟩ = v - BitVec.ofNat 64 x.delay ∧ t.on syncStat_STAMP_NEW = true
        ∧ t.on timeStatus_FT_VALID = true ∧ t.on syncCtrl_ARM = false ∧ t.syncLoad = none)))
    ∧ (s.syncLoad = none → exec .forestTimeLoad s = .next s)

/-- GO latches both clocks at the tick edge, once in a tick; a skew calibration starts when forest time is valid and
the parent lane is up, and ends once its markers have been exchanged with DELTA and HOPS, DELTA added to CORR under
AUTO_APPLY, or with ERR (R45, R57). A command whose occasion has not come leaves the state as it stands, and START
while BUSY has no effect: the model's choices, log entries 2 and 86. -/
def Obligations.LatchesAndSkewCalibration : Prop :=
  ∀ (w : WriteOp) (m : SkewResult) (s : State),
    let y := s.setReg ⟨.skewCal, 0, 0, 0⟩ (withBits (s.merged ⟨.skewCal, 0, 0, 0⟩ w) 0 1 0)
    let root := s.on skewCal_ROOT = true
    let x := s.skewRun
    let theta := skewTheta s.skewMarkers x.down x.sends m.arrivals + (m.parentNum : Rat) / (m.parentDen : Rat)
    let delta : Int := if root then 0 else roundAway (-theta)
    let failed := m.failed = true ∨ s.skewOk = false
      ∨ ¬ root ∧ x.from_ < (s.lane (s.rd skewCal_PARENT_LANE)).since
    (Strikes s latchCtrl_GO w → (∀ j, s.ftJump = some j → j.at_ ≤ s.tick) → s.latchTick ≠ some s.tick →
      Ends (exec (.latchGo w) s) (fun t =>
        t.reg ⟨.latchFt, 0, 0, 0⟩ = s.ft ∧ t.reg ⟨.latchPtpNs, 0, 0, 0⟩ = BitVec.ofNat 64 (s.ptpAt 0 / 2 ^ 32)
        ∧ t.on latchCtrl_DONE = true ∧ t.ft = s.ft))
    ∧ (Strikes s latchCtrl_GO w → s.latchTick = some s.tick → Ends (exec (.latchGo w) s) (fun t =>
        OnlyRegs s t [⟨.latchCtrl, 0, 0, 0⟩] ∧ t.ft = s.ft))
    ∧ (Strikes s skewCal_START w →
      (y.on skewCal_BUSY = true → exec (.skewCalStart w) s = .next y)
      ∧ (y.on skewCal_BUSY = false → y.skewOk = true → Ends (exec (.skewCalStart w) s) (fun t =>
          t.on skewCal_BUSY = true ∧ t.skewRun = { from_ := s.tick }))
      ∧ (y.on skewCal_BUSY = false → y.skewOk = false → Ends (exec (.skewCalStart w) s) (fun t =>
          t.on skewCal_BUSY = false ∧ t.on skewCal_DONE = true ∧ t.on skewCal_ERR = true)))
    ∧ (s.on skewCal_BUSY = false → exec (.skewCalDone m) s = .next s)
    ∧ (s.on skewCal_BUSY = true →
      (failed → Ends (exec (.skewCalDone m) s) (fun t =>
        t.on skewCal_BUSY = false ∧ t.on skewCal_DONE = true ∧ t.on skewCal_ERR = true
        ∧ t.rd skew_CORR = s.rd skew_CORR))
      ∧ (¬ failed → s.skewFull = false → exec (.skewCalDone m) s = .next s)
      ∧ (¬ failed → s.skewFull = true → Ends (exec (.skewCalDone m) s) (fun t => t.on skewCal_BUSY = false
          ∧ t.on skewCal_DONE = true ∧ t.rd skewCal_DELTA = unsignedOf 24 delta
          ∧ t.rd skewCal_HOPS = (if root then 0 else m.parentHops + 1) % 8
          ∧ (s.on skewCal_AUTO_APPLY = true → t.rd skew_CORR = unsignedOf 24 (s.rdS skew_CORR + delta))
          ∧ (s.on skewCal_AUTO_APPLY = false → t.rd skew_CORR = s.rd skew_CORR))))

/-- INCR is limited to 0.999 and 1.001 ns; a step is added at the next tick and clears PTP_LOCK; Sync and Follow_Up,
and delay requests, go out by role, with the time they leave; requests are answered with the time they came; an
exchange of delay request and response that is complete moves the lock: sixteen small offsets in a row set it; above 1 ms the
servo steps the clock; a better clock is noted; a read of a counter's low half keeps its high half (R52-R60). The
servo's values are free (log entry 8), and a message whose occasion has not come does nothing (log entry 2). -/
def Sys2Proof.Claim.ThePtpClockIsSetStepped : Prop :=
  ∀ (w : WriteOp) (m : PtpMessage) (s : State),
    let v := bitsOf (s.merged ⟨.ptpIncr, 0, 0, 0⟩ w) 0 40
    let p2p := s.on ptpCfg_DELAY_MECH
    let peer := m.peer.map BitVec.toNat
    let taken := s.ptpRuns = true ∧ s.ptpTakes m = true
    (Lands s ⟨.ptpIncr, 0, 0, 0⟩ w → Ends (exec (.ptpIncrWrite w) s) (fun t =>
      t.rd ptpIncr_INCR = max 4290672329 (min 4299262263 v) ∧ OnlyRegs s t [⟨.ptpIncr, 0, 0, 0⟩]
      ∧ (t.rd ptpIncr_INCR ≠ v → t.rd ptpIncr_CLAMP_COUNT = min (s.rd ptpIncr_CLAMP_COUNT + 1) 65535)))
    ∧ (Lands s ⟨.ptpStep, 0, 0, 0⟩ w → Ends (exec (.ptpStep w) s) (fun t =>
      t.ptpStepNext = some (s.ptpStepNext.getD 0 + w.bits) ∧ t.on timeStatus_PTP_LOCK = false
      ∧ OnlyRegs s t [⟨.timeStatus, 0, 0, 0⟩]))
    ∧ (s.syncDue = true → Ends (exec .ptpSyncTx s) (fun t =>
      (∀ p ∈ s.ptpPeers, ∀ x ∈ s.syncMessages p, Out.ptp x ∈ t.out)
      ∧ (s.ptpRun.announceAt = none → ∀ p ∈ s.ptpPeers, Out.ptp (s.announceMessage p) ∈ t.out)
      ∧ t.ptpRun.syncAt = some s.tick ∧ t.ptpRun.syncSeq = s.ptpRun.syncSeq + 1 ∧ t.regs = s.regs))
    ∧ (s.syncDue = false → exec .ptpSyncTx s = .next s)
    ∧ (s.ptpRuns = true → (p2p = true ∨ s.transmits = false) → Ends (exec .ptpDelayReqTx s) (fun t =>
      (p2p = true → ∀ p ∈ s.ptpPeers, Out.ptp (s.ptpForm 0x2 p s.ptpRun.reqSeq {}) ∈ t.out)
      ∧ (p2p = false → ∃ p, t.out = .ptp (s.ptpForm 0x1 p s.ptpRun.reqSeq {}) :: s.out)
      ∧ t.ptpRun.delay = some { seq := s.ptpRun.reqSeq, left := s.ptpLeaves }
      ∧ t.ptpRun.reqSeq = s.ptpRun.reqSeq + 1 ∧ t.regs = s.regs))
    ∧ ((s.ptpRuns = false ∨ p2p = false ∧ s.transmits = true) → exec .ptpDelayReqTx s = .next s)
    ∧ (¬ taken → exec (.ptpMessageRx m) s = .next s)
    ∧ (taken → m.body = .management → exec (.ptpMessageRx m) s = .next s)
    ∧ (taken → ∀ seq corr, m.body = .delayReq seq corr → s.transmits = true → p2p = false →
      exec (.ptpMessageRx m) s = .next (s.send (.ptp (s.ptpForm 0x9 peer seq (s.ptpComes m.phase)))))
    ∧ (taken → ∀ seq corr, m.body = .pdelayReq seq corr → p2p = true →
      exec (.ptpMessageRx m) s = .next ((s.send (.ptp
        { s.ptpForm 0x3 peer seq (s.ptpComes m.phase) with twoStep := true })).send
        (.ptp (s.ptpForm 0xA peer seq s.ptpLeaves))))
    ∧ (taken → ∀ p1 quality p2 lower, m.body = .announce p1 quality p2 lower →
      s.betterClock p1 quality p2 lower = true →
      exec (.ptpMessageRx m) s = .next { s with ptpRun := { s.ptpRun with heard := some s.tick } })
    ∧ (taken → s.transmits = false → ∀ seq two origin corr, m.body = .sync seq two origin corr →
      exec (.ptpMessageRx m) s = .next (s.setSync
        (some ⟨seq, if two then none else some origin, s.ptpComes m.phase, corr, two, m.peer⟩)))
    ∧ (taken → s.transmits = false → p2p = false → ∀ seq receipt corr x, m.body = .delayResp seq receipt corr →
      s.asked seq = true → (s.setDelay (fun d => { d with receipt := some receipt, corr := corr })).exchange = some x →
      Ends (exec (.ptpMessageRx m) s) (fun t => t.ptpRun.sync = none ∧ t.ptpRun.delay = none
        ∧ (ratAbs x.offset < 50 * 65536 → 15 ≤ s.ptpGood →
            t.on timeStatus_PTP_LOCK = true ∧ t.ptpStepNext = s.ptpStepNext)
        ∧ (1000000 * 65536 < ratAbs x.offset → s.on ptpCfg_SERVO = false →
            t.on timeStatus_PTP_LOCK = false ∧ t.ptpStepNext.isSome = true)))
    ∧ (∀ (req : Requester) (addr : Nat) (r : Reg), Reg.ofAddr addr = some r → r.name.shadowed = true →
      r.onBiasDie = false → s.reaches req.domain r (s.reg r) = true →
      Ends (exec (.counterLowRead req addr) s) (fun t => t.ft = s.ft ∧ t.mem = s.mem ∧ t.threads = s.threads
        ∧ (r.name ≠ .rqData → r.name ≠ .tdcQData → r.name ≠ .logData → OnlyRegs s t [⟨.ptpFrac, 0, 0, 0⟩])
        ∧ (r.name = .timeNow → t.shadow r = BitVec.ofNat 32 (s.ft.toNat / 2 ^ 32))
        ∧ (r.name = .ptpNs → t.rd ptpFrac_FRAC = s.ptpFrac.toNat)))
    ∧ (∀ (req : Requester) (addr : Nat) (r : Reg), Reg.ofAddr addr = some r → r.name.shadowed = false →
      exec (.counterLowRead req addr) s = .next s)

/-! Heat, supplies, boot, heartwood, the flash (13, 14). -/

/-- A host policy entry never is looser than the device's; the first cycle of the diodes starts every node at
the plate temperature; an update takes the nodes one step on from the sensors' powers and the plate, and LEVEL is
the highest of the levels; at 112 degrees the device holds, and lets go once it has been cool for 100 ms
(R354-R369). A command whose occasion has not come leaves the state as it stands, and the network's constants are
parameters: the model's choices, log entries 2 and 24. -/
def Obligations.TheCanopyModelSetsItsLevels : Prop :=
  ∀ (level : BitVec 3) (w : WriteOp) (sens : List SensorSample) (readings : List Int) (s : State),
    let n := level.toNat
    let new := s.merged ⟨.hostPolicy, n, 0, 0⟩ w
    let valid := s.on canopyStatus_MODEL_VALID
    let cool (t : State) : Prop := t.rdS canopyStatus_TJ_MAX ≤ min 6400 (s.rdS canopyCfg_CRIT_REL)
      ∧ ∃ a, s.heat.coolFrom = some a ∧ a + 100000000 ≤ s.tick
    (Lands s ⟨.hostPolicy, n, 0, 0⟩ w → Ends (exec (.hostPolicyWrite level w) s) (fun t =>
      t.rdS (hostPolicy_ENTRY n) = min (signedOf 16 (bitsOf new 0 16)) (s.rdS (devPolicy_ENTRY n))
      ∧ t.rd (hostPolicy_HYST n) = max (bitsOf new 16 8) (s.rd (devPolicy_HYST n))
      ∧ t.rd (hostPolicy_STRETCH n) = max (bitsOf new 24 8) (s.rd (devPolicy_STRETCH n))
      ∧ OnlyRegs s t [⟨.hostPolicy, n, 0, 0⟩, ⟨.canopyCounts, 0, 0, 0⟩]))
    ∧ (s.modelRuns = false → exec (.diodeRead readings) s = .next s)
    ∧ ((s.modelRuns = false ∨ valid = false) → exec (.modelUpdate sens) s = .next s)
    ∧ (s.modelRuns = true → Ends (exec (.diodeRead readings) s) (fun t =>
      t.on canopyStatus_MODEL_VALID = true
      ∧ (valid = false → ∀ k, k < 96 → t.rd (node_TEMP k) = t.rd plate_IN_USE)
      ∧ (valid = true → ∀ k, k < 96 → t.rd (node_TEMP k) = s.rd (node_TEMP k))))
    ∧ (s.modelRuns = true → valid = true → Ends (exec (.modelUpdate sens) s) (fun t =>
        (∀ k, k < 96 → t.nodeExact k = s.heat.net.after s.nodeExact (fun i => t.rd (sensor_P i)) s.plateTemp k
          ∧ t.rd (node_TEMP k) = unsignedOf 16 (max (-32768) (min 32767 (roundAway (t.nodeExact k)))))
        ∧ (s.heat.host = false →
            t.rd canopyStatus_LEVEL = max (t.rd canopyStatus_CANOPY_LEVEL) (t.rd canopyStatus_CRYO_LEVEL))
        ∧ (s.on pwr_CRIT_HOLD = false → t.rdS canopyStatus_TJ_MAX < 7168 →
            t.on pwr_CRIT_HOLD = false ∧ t.threads = s.threads ∧ t.mem = s.mem)
        ∧ (s.on pwr_CRIT_HOLD = false → 7168 ≤ t.rdS canopyStatus_TJ_MAX → t.on pwr_CRIT_HOLD = true
            ∧ t.on canopyStatus_CRIT_HOLD = true ∧ t.rd dieStatus_QREADY = 0 ∧ t.rd pwr_REQ = 1
            ∧ (s.active = true → t.rd pwr_CUR = 1 ∧ t.rd pwr_LAST_CAUSE = 1))
        ∧ (s.on pwr_CRIT_HOLD = true → (cool t → t.on pwr_CRIT_HOLD = false)
            ∧ (¬ cool t → t.on pwr_CRIT_HOLD = true))))

/-- Supplies, RST_N and REBOOT: rails above their thresholds for their time start the boot clock unless RST_N is held;
a falling trunk rail, RST_N low over 50 samples and REBOOT reset the trunk and keep the bias dies; a falling bias
rail resets those; a quadrant die becomes ready where its clock is locked and nothing holds it (R20, R371-R376).
A command whose occasion has not come does nothing (log entry 2). -/
def Obligations.SuppliesAndResetsRestartTheBlock : Prop :=
  ∀ (d : BitVec 1) (q : BitVec 2) (least : Rails) (rail : Rail) (mv : Int) (n : Nat) (w : WriteOp) (s : State),
    let restarted (t : State) : Prop := t.threads = [] ∧ t.mem = [] ∧ t.rd globalBoot_STAGE = 0 ∧ t.boot.started = false
      ∧ t.tick = s.tick ∧ t.ft = s.ft ∧ t.hw = s.hw ∧ t.fuses = s.fuses
    let biasKept (t : State) : Prop := t.biasOuts = s.biasOuts ∧ ∀ r : Reg, r.onBiasDie = true → t.reg r = s.reg r
    let trunkGood := 710 < least.core ∧ 900 < least.conv ∧ 1710 < least.an ∧ 1710 < least.io ∧ 3130 < least.v33
    let biasGood := 3130 < least.v33 ∧ 5700 < least.biasP ∧ least.biasN < -5700
    let quad := s.modelRuns = true ∧ s.on timeStatus_PLL_LOCK = true ∧ s.on pwr_CRIT_HOLD = false ∧ s.dormant = false
    (s.boot.supply = false → trunkGood → Ends (exec (.supplyGood least) s) (fun t => t.boot.supply = true
      ∧ t.regs = s.regs ∧ t.boot.anchor = (if s.boot.held then none else some s.tick)))
    ∧ ((s.boot.supply = true ∨ ¬ trunkGood) → exec (.supplyGood least) s = .next s)
    ∧ (biasGood → Ends (exec (.biasSupplyGood d least) s) (fun t =>
      t.boot.biasGood.contains d.toNat = true ∧ t.regs = s.regs))
    ∧ (¬ biasGood → exec (.biasSupplyGood d least) s = .next s)
    ∧ (rail ∈ [.core, .conv, .an, .io] → rail.fallen mv = true → Ends (exec (.railFall rail mv) s) (fun t =>
      restarted t ∧ biasKept t ∧ t.boot.supply = false ∧ t.boot.cause = 2))
    ∧ (rail ∈ [.biasP, .biasN] → rail.fallen mv = true → Ends (exec (.railFall rail mv) s) (fun t => t.biasOuts = []
      ∧ t.rd dieStatus_BREADY = 0 ∧ t.boot.biasGood = [] ∧ t.threads = s.threads ∧ t.mem = s.mem))
    ∧ (mv < 3000 → Ends (exec (.railFall .v33 mv) s) (fun t =>
      restarted t ∧ t.biasOuts = [] ∧ t.boot.supply = false ∧ t.boot.cause = 2))
    ∧ (rail.fallen mv = false → exec (.railFall rail mv) s = .next s)
    ∧ (n < 50 → ∀ low, exec (.rstN low n) s = .next s)
    ∧ (50 ≤ n →
      (s.boot.held = false → exec (.rstN false n) s = .next s ∧ Ends (exec (.rstN true n) s) (fun t =>
        restarted t ∧ biasKept t ∧ t.boot.held = true ∧ t.boot.cause = 1))
      ∧ (s.boot.held = true → exec (.rstN true n) s = .next s ∧ Ends (exec (.rstN false n) s) (fun t =>
        t.boot.held = false ∧ t.regs = s.regs ∧ t.boot.anchor = (if s.boot.supply then some s.tick else none))))
    ∧ (Strikes s globalBoot_REBOOT w →
      (w.req.domain = 0 ∧ w.req.secure = true → Ends (exec (.reboot w) s) (fun t => restarted t ∧ biasKept t
        ∧ t.boot.anchor = some s.tick ∧ t.boot.cause = 3))
      ∧ (¬ (w.req.domain = 0 ∧ w.req.secure = true) → exec (.reboot w) s = .next s))
    ∧ (quad → Ends (exec (.quadrantReady q) s) (fun t => t.bitAt dieStatus_QREADY q.toNat = true
        ∧ OnlyRegs s t [⟨.dieStatus, 0, 0, 0⟩]))
    ∧ (¬ quad → exec (.quadrantReady q) s = .next s)

/-- Boot: ROM runs once after its start; an image that verifies runs, and with neither slot good the device
stays in recovery; boot completes in Standby once the model is valid (R375-R380). A command whose occasion has not
come does nothing (log entry 2). -/
def Sys2Proof.Claim.BootRunsToStandby : Prop :=
  ∀ (image : Option FlashImage) (s : State),
    let pref := s.rd globalBootCfg_PREF_SLOT
    let err (slot : Nat) : RField := if slot = 0 then globalBoot_ERR_A else globalBoot_ERR_B
    let slot := if s.rd (err pref) = 0 then pref else 1 - pref
    let result := s.verify image
    (s.boot.anchor.isSome = true → s.boot.started = false → Ends (exec .boot s) (fun t =>
      t.rd globalBoot_STAGE = 2 ∧ t.boot.started = true ∧ t.hw = s.hw ∧ t.threads = s.threads))
    ∧ ((s.boot.anchor = none ∨ s.boot.started = true) → exec .boot s = .next s)
    ∧ (s.rd globalBoot_STAGE = 2 →
      (result = 1 → Ends (exec (.firmwareVerified image) s) (fun t => t.rd globalBoot_STAGE = 3))
      ∧ (result ≠ 1 → s.rd (err (1 - slot)) = 0 → Ends (exec (.firmwareVerified image) s) (fun t =>
        t.rd globalBoot_STAGE = 2 ∧ t.rd (err slot) = result ∧ OnlyRegs s t [⟨.globalBoot, 0, 0, 0⟩]))
      ∧ (result ≠ 1 → s.rd (err (1 - slot)) ≠ 0 → Ends (exec (.firmwareVerified image) s) (fun t =>
        t.rd globalBoot_STAGE = 5 ∧ t.rd (err slot) = result)))
    ∧ (s.rd globalBoot_STAGE ≠ 2 → exec (.firmwareVerified image) s = .next s)
    ∧ (s.rd globalBoot_STAGE = 3 → s.on canopyStatus_MODEL_VALID = true → Ends (exec .bootComplete s) (fun t =>
      t.rd globalBoot_STAGE = 4 ∧ t.rd pwr_CUR = 1 ∧ t.rd pwr_LAST_CAUSE = 3 ∧ t.pwrRun.held = none
      ∧ 510 ∈ t.seamRaised))
    ∧ ((s.rd globalBoot_STAGE ≠ 3 ∨ s.on canopyStatus_MODEL_VALID = false) → exec .bootComplete s = .next s)

/-- Heartwood: a save queues its record once, where there is room; the oldest request captures the live registers for
the bank not in use, with SEQ one on, in the temperature window, and is committed if it reads back; a request 10 s
old is rejected; the crystal's accumulator asks for its record (R38, R370, R381-R384). A command whose occasion has
not come does nothing (log entry 2). -/
def Sys2Proof.Claim.HeartwoodRecordsAreWritten : Prop :=
  ∀ (ok : Bool) (w : WriteOp) (s : State),
    let typ := (s.merged ⟨.hwCtrl, 0, 0, 0⟩ w).toNat / 2 ^ 8 % 2 ^ 8
    let queued := s.hwQueue.any (fun q => q.typ == typ)
    (∀ q rest, s.hwWrite = none → s.hwQueue = q :: rest → s.hwWindow = true → q.stale s.tick = false →
      Ends (exec .heartwoodWriteStart s) (fun t => t.hwQueue = rest ∧ t.on hwStatus_BUSY = true
        ∧ ∃ x, t.hwWrite = some x ∧ x.typ = q.typ ∧ x.bankB = ((s.hwRecord q.typ).inUse.2 == 1)
          ∧ x.copy.seq = (s.hwRecord q.typ).inUse.1.seq + 1
          ∧ x.copy.words = (recordRegs q.typ).map (fun r => (r, s.reg r))))
    ∧ ((s.hwWindow = false ∨ s.hwQueue = [] ∨ s.hwWrite ≠ none) → exec .heartwoodWriteStart s = .next s)
    ∧ (∀ x, s.hwWrite = some x → Ends (exec (.heartwoodWriteDone ok) s) (fun t => t.hwWrite = none
      ∧ t.on hwStatus_BUSY = false ∧ t.rd hwStatus_LAST_RESULT = (if ok then 1 else 5)
      ∧ (ok = false → t.hw = s.hw)
      ∧ (ok = true → (if x.bankB then (t.hwRecord x.typ).b else (t.hwRecord x.typ).a) = some x.copy)))
    ∧ (s.hwWrite = none → exec (.heartwoodWriteDone ok) s = .next s)
    ∧ (∀ q, s.hwQueue.find? (fun q => q.stale s.tick) = some q → Ends (exec .heartwoodWriteReject s) (fun t =>
      t.hwQueue = s.hwQueue.erase q ∧ t.rd hwStatus_LAST_RESULT = 2 ∧ t.hw = s.hw))
    ∧ (s.hwQueue.find? (fun q => q.stale s.tick) = none → exec .heartwoodWriteReject s = .next s)
    ∧ (s.accumDue = true → Ends (exec .xtalAccumCommit s) (fun t => t.accumDue = false
      ∧ (s.hwQueue.length < 8 → t.hwQueue.any (fun q => q.typ == 0x12) = true)))
    ∧ (s.accumDue = false → exec .xtalAccumCommit s = .next s)
    ∧ (Strikes s hwCtrl_SAVE w →
      (¬ (w.req.domain = 0 ∧ w.req.secure = true) → exec (.save w) s = .next s)
      ∧ (w.req.domain = 0 → w.req.secure = true → Ends (exec (.save w) s) (fun t =>
          (typ ∈ savedTypes → queued = false → s.hwQueue.length < 8 →
            t.hwQueue = s.hwQueue ++ [{ typ := typ, at_ := s.tick }])
          ∧ (typ ∈ savedTypes → queued = true → t.hwQueue = s.hwQueue)
          ∧ (typ ∈ savedTypes → queued = false → 8 ≤ s.hwQueue.length → t.hwQueue = s.hwQueue
              ∧ t.rd hwStatus_LAST_RESULT = 4)
          ∧ (typ ∉ savedTypes → t.hwQueue = s.hwQueue ∧ t.rd hwStatus_LAST_RESULT = 3))))

/-- The flash: PROGRAM of a page and ERASE of a block, from domain 0 secure, start an operation on an aligned
address, and set ERR on another; while BUSY they start nothing; of both in one write PROGRAM acts, the model's choice,
log entry 130; the operation's end clears BUSY (R380). -/
def Sys2Proof.Claim.TheFlashProgramsAndErases : Prop :=
  ∀ (error : Bool) (w : WriteOp) (s : State),
    let a := s.rd flashAddr_ADDR
    let mine := w.req.domain = 0 ∧ w.req.secure = true
    (s.on flashCtrl_BUSY = true → Ends (exec (.flashOpDone error) s) (fun t => t.on flashCtrl_BUSY = false
      ∧ (error = true → t.on flashCtrl_ERR = true) ∧ (error = false → t.on flashCtrl_ERR = s.on flashCtrl_ERR)
      ∧ OnlyRegs s t [⟨.flashCtrl, 0, 0, 0⟩]))
    ∧ (s.on flashCtrl_BUSY = false → exec (.flashOpDone error) s = .next s)
    ∧ (Strikes s flashCtrl_PROGRAM w →
      (¬ mine → exec (.flashProgram w) s = .next s)
      ∧ (mine → s.on flashCtrl_BUSY = true → Ends (exec (.flashProgram w) s) (fun t => t.out = s.out
          ∧ t.on flashCtrl_BUSY = true))
      ∧ (mine → s.on flashCtrl_BUSY = false → a % 4096 = 0 → Ends (exec (.flashProgram w) s) (fun t =>
          t.on flashCtrl_BUSY = true
          ∧ t.out = .flash false a ((List.range 512).map (fun i => s.reg ⟨.flashBuf, i, 0, 0⟩)) :: s.out))
      ∧ (mine → s.on flashCtrl_BUSY = false → a % 4096 ≠ 0 → Ends (exec (.flashProgram w) s) (fun t =>
          t.on flashCtrl_ERR = true ∧ t.on flashCtrl_BUSY = false ∧ t.out = s.out)))
    ∧ (Strikes s flashCtrl_ERASE w →
      (strobe w.bits flashCtrl_PROGRAM = true → exec (.flashErase w) s = exec (.flashProgram w) s)
      ∧ (¬ mine → exec (.flashErase w) s = .next s)
      ∧ (mine → s.on flashCtrl_BUSY = true → Ends (exec (.flashErase w) s) (fun t => t.out = s.out
          ∧ t.on flashCtrl_BUSY = true))
      ∧ (strobe w.bits flashCtrl_PROGRAM = false → mine → s.on flashCtrl_BUSY = false →
        (a % 65536 = 0 → Ends (exec (.flashErase w) s) (fun t => t.on flashCtrl_BUSY = true
          ∧ t.out = .flash true a [] :: s.out))
        ∧ (a % 65536 ≠ 0 → Ends (exec (.flashErase w) s) (fun t => t.on flashCtrl_ERR = true
          ∧ t.on flashCtrl_BUSY = false ∧ t.out = s.out))))

/-- Register writes: RW fields that the access covers take the written bits, RWS fields not under setup lock,
W1C bits written as one are cleared, all other bits stay; where there is no register, or out of the
requester's reach, nothing changes; CLR zeroes the register's counters; LOCK from domain 0 secure sets setup lock;
ten plain registers take every write that lands (R8-R10, R28, R311, R312). -/
def Obligations.RegisterWritesFollowTheirAccessCodes : Prop :=
  ∀ (addr : Nat) (r : Reg) (w : WriteOp) (s : State), s.undef = none →
    let covered (p : Acc → Bool) (i : Nat) : Bool := (r.name.mask p).testBit i && w.half.mask.testBit i
    (∀ i, i < 64 → (s.merged r w).getLsbD i
      = ((if covered (fun a => a == .rw || (a == .rws && !s.locked)) i then w.bits.getLsbD i else (s.merges r).getLsbD i)
        && !(covered (fun a => a == .w1c) i && w.bits.getLsbD i)))
    ∧ (Reg.ofAddr addr = none → exec (.registerWrite addr w) s = .next s)
    ∧ (Reg.ofAddr addr = some r → s.reaches w.req.domain r (s.merged r w) = false →
      exec (.registerWrite addr w) s = .next s)
    ∧ (Reg.ofAddr addr = some r → s.reaches w.req.domain r (s.merged r w) = true →
      r.name ∈ [.routeGrove, .routeMember, .txr, .laneEq, .thrCfg, .trigSrc, .cryoLine, .xtalTrim, .syncLoad, .intCfg] →
      exec (.registerWrite addr w) s = .next (s.setReg r (s.merged r w)))
    ∧ (Reg.ofAddr addr = some r → Lands s r w → r.name.hasClr = true → w.bits.getLsbD 63 = true →
      Ends (exec (.counterClear addr w) s) (fun t => OnlyRegs s t [r]
        ∧ t.reg r = s.merged r w &&& ~~~(BitVec.ofNat 64 r.name.clears)))
    ∧ (Reg.ofAddr addr = some r → (r.name.hasClr = false ∨ w.bits.getLsbD 63 = false) →
      exec (.counterClear addr w) s = .next s)
    ∧ (Strikes s globalLock_LOCK w →
      (w.req.domain = 0 ∧ w.req.secure = true → Ends (exec (.setupLock w) s) (fun t =>
        t.locked = true ∧ OnlyRegs s t [⟨.globalLock, 0, 0, 0⟩]))
      ∧ (¬ (w.req.domain = 0 ∧ w.req.secure = true) → exec (.setupLock w) s = .next s))

/-- STOP ends the launch of a thread at once with code 0x0A; FLUSH_LQ empties its launch queue, first where both are
written; the general registers keep their values (R100, R101). -/
def Sys2Proof.Claim.StopAndFlushEndLaunches : Prop :=
  ∀ (q : Thr) (w : WriteOp) (s : State),
    let flush := strobe w.bits (thrCtrl_FLUSH_LQ q.tile q.idx)
    let stop := strobe w.bits (thrCtrl_STOP q.tile q.idx)
    (Strikes s (thrCtrl_STOP q.tile q.idx) w →
      ((s.thread q).st = .idle → flush = false → exec (.threadStop q w) s = .next s)
      ∧ ((s.thread q).st ≠ .idle → Ends (exec (.threadStop q w) s) (fun t => (t.thread q).st = .idle
        ∧ (t.thread q).launch = none ∧ (t.thread q).queue = [] ∧ (t.thread q).g = (s.thread q).g
        ∧ (t.thread q).lq = (if flush then [] else (s.thread q).lq) ∧ t.rd (thrState_FAULT_CODE q.tile q.idx) = 0x0A
        ∧ t.bitAt (ndlStatus_FAULTED q.tile) q.idx = true)))
    ∧ (Strikes s (thrCtrl_FLUSH_LQ q.tile q.idx) w →
      (stop = true → exec (.flushLq q w) s = exec (.threadStop q w) s)
      ∧ ((stop = false ∨ (s.thread q).st = .idle) → Ends (exec (.flushLq q w) s) (fun t =>
        t.thread q = { s.thread q with lq := [] }
        ∧ (∀ p, p ≠ q → t.thread p = s.thread p) ∧ t.mem = s.mem)))

/-! The Eswen fabric and its barriers (07). -/

/-- Bring-up: each state is left for the next one when its condition is met; without a signal, past its time
limit, or with a partner the configuration does not name, a lane goes to Quiet with the reason; a lane of a group
waits in Exchange for the others, which must have its partner; Quiet ends with its backoff, which doubles; a lane up
without a signal goes back to Detect (R210-R213, R218, R220). That a lane joined to its own device is undefined case
U4 at Exchange is the model's choice, log entry 46; the rounding of the flight, and that lanes of a group leave
Exchange together, log entry 120; the stale commands', log entry 2. -/
def Obligations.LanesComeUpInOrder : Prop :=
  ∀ (l : BitVec 5) (s : State),
    let l' := l.toNat
    let st := s.rd (laneStatus_STATE l')
    let stays (c : Instr) : Prop := exec c s = .next s
    let goes (o : Host.Outcome State Fault Refusal) (st' : Nat) : Prop :=
      Ends o (fun t => t.rd (laneStatus_STATE l') = st')
    let quiets (o : Host.Outcome State Fault Refusal) (why : Nat) : Prop :=
      Ends o (fun t => t.rd (laneStatus_STATE l') = laneQuiet ∧ t.rd (laneStatus_QUIET_REASON l') = why)
    let aligned := st = laneAlign ∧ 2 ≤ (s.lane l').goodMarks ∧ s.groupSized l' = true
      ∧ ∀ m ∈ s.groupOf l', laneAlign ≤ s.rd (laneStatus_STATE m) ∧ s.rd (laneStatus_STATE m) ≠ laneQuiet
    (st = laneDetect → goes (exec (.laneDetect l true) s) laneTrain ∧ quiets (exec (.laneDetect l false) s) 1)
    ∧ (st ≠ laneDetect → ∀ signal, stays (.laneDetect l signal))
    ∧ (∀ preset ctle taps, (st = laneTrain → Ends (exec (.laneTrained l preset ctle taps) s) (fun t =>
        t.rd (laneStatus_STATE l') = laneLock ∧ t.rd (laneEq_PRESET l') = preset.toNat
        ∧ t.rd (laneEq_CTLE l') = ctle.toNat ∧ (t.lane l').taps = taps ∧ (t.lane l').snap = taps))
      ∧ (st ≠ laneTrain → stays (.laneTrained l preset ctle taps)))
    ∧ (∀ scr, (st = laneLock → Ends (exec (.laneLocked l scr) s) (fun t =>
        t.rd (laneStatus_STATE l') = laneAlign ∧ (t.lane l').rxScr = scr))
      ∧ (st ≠ laneLock → stays (.laneLocked l scr)))
    ∧ (∀ skew : BitVec 20, (aligned → skew.toNat ≤ 16000 → goes (exec (.laneAligned l skew) s) laneExchange)
      ∧ (aligned → 16000 < skew.toNat → Ends (exec (.laneAligned l skew) s) (fun t =>
          (t.lane l').skewBad = true ∧ t.regs = s.regs))
      ∧ (¬ aligned → stays (.laneAligned l skew)))
    ∧ (∀ (dev : BitVec 11) (lane : BitVec 5) (trips : BitVec 32),
      let o := exec (.laneExchanged l dev lane trips) s
      let cfg := (s.lane l').cfg
      let named := bitsOf cfg 8 1 = 1 → bitsOf cfg 16 11 = dev.toNat ∧ bitsOf cfg 27 5 = lane.toNat
      let known (m : Nat) : Prop := m ∈ s.groupOf l' ∧ m ≠ l' ∧ (s.laneUp m = true ∨ (s.lane m).measured = true)
      let awaited (m : Nat) : Prop := m ∈ s.groupOf l' ∧ m ≠ l' ∧ s.laneAligning m = true
      (st ≠ laneExchange → stays (.laneExchanged l dev lane trips))
      ∧ (st = laneExchange → s.undef = none →
        (¬ named → quiets o 6)
        ∧ (named → dev.toNat ≠ s.rd eswId_DEV → (∀ m, ¬ known m) → (∀ m, ¬ awaited m) → Ends o (fun t =>
            t.rd (laneStatus_STATE l') = laneActiveSt ∧ t.bitAt eswStatus_ACTIVE l' = true
            ∧ t.rd (laneStatus_PARTNER_DEV l') = dev.toNat ∧ t.rd (laneStatus_PARTNER_LANE l') = lane.toNat
            ∧ t.rd (laneStatus_FLIGHT l') = flightOf trips.toNat
            ∧ t.rd (laneStatus_LAT l') = 36 + (flightOf trips.toNat + 999) / 1000))
        ∧ (named → dev.toNat ≠ s.rd eswId_DEV → (∀ m, known m → s.rd (laneStatus_PARTNER_DEV m) = dev.toNat) →
            l' ∈ s.groupOf l' → (∃ m, awaited m) → Ends o (fun t =>
              t.rd (laneStatus_STATE l') = laneExchange ∧ (t.lane l').measured = true))
        ∧ (named → dev.toNat = s.rd eswId_DEV → (∀ m, known m → s.rd (laneStatus_PARTNER_DEV m) = dev.toNat) →
            o = .fault (.undefinedCase 4))
        ∧ (named → (∃ m, known m ∧ s.rd (laneStatus_PARTNER_DEV m) ≠ dev.toNat) → o = .fault (.undefinedCase 6))))
    ∧ (st ≠ laneDisabled → st ≠ laneQuiet → st ≠ laneDetect → goes (exec (.laneLossOfSignal l) s) laneDetect)
    ∧ ((st = laneDisabled ∨ st = laneQuiet ∨ st = laneDetect) → stays (.laneLossOfSignal l))
    ∧ (s.laneOverdue l' = false → stays (.laneStateTimeout l))
    ∧ (s.laneOverdue l' = true →
      (st = laneTrain → quiets (exec (.laneStateTimeout l) s) 2)
      ∧ (st = laneLock → (s.lane l').lockFails < 2 → goes (exec (.laneStateTimeout l) s) laneTrain)
      ∧ (st = laneLock → 2 ≤ (s.lane l').lockFails → quiets (exec (.laneStateTimeout l) s) 3)
      ∧ (st = laneAlign → quiets (exec (.laneStateTimeout l) s) (if (s.lane l').skewBad then 7 else 4))
      ∧ (st = laneExchange → quiets (exec (.laneStateTimeout l) s) 5))
    ∧ (s.quietOver l' = true → Ends (exec (.quietBackoffEnd l) s) (fun t => t.rd (laneStatus_STATE l') = laneDetect
      ∧ (t.lane l').backoff = min 1024 (2 * (s.lane l').backoff)))
    ∧ (s.quietOver l' = false → stays (.quietBackoffEnd l))

/-- Loss: a training stitch takes an aligned lane back to Lock; eight slots in a row without a valid stitch
take an Active lane to Lock and set LOST; an invalid slot is counted, in Align only passed; the equaliser's guard
restores the snapshot from a drift at low density, and freezes the adaptation where the signal says too little (R210,
R215, R217, R228). A command whose occasion has not come leaves the state as it stands: the model's choice, log
entry 2. -/
def Obligations.LanesLoseAndKeepTheirState : Prop :=
  ∀ (l : BitVec 5) (s : State),
    let l' := l.toNat
    let st := s.rd (laneStatus_STATE l')
    let x := s.lane l'
    let up := st = laneAlign ∨ st = laneExchange ∨ st = laneActiveSt
    (up → Ends (exec (.trainingStitchRx l) s) (fun t =>
      t.rd (laneStatus_STATE l') = laneLock ∧ t.bitAt eswStatus_ACTIVE l' = false))
    ∧ (¬ up → exec (.trainingStitchRx l) s = .next s ∧ exec (.stitchSlotInvalid l) s = .next s)
    ∧ (st = laneActiveSt → 8 ≤ x.missRun → Ends (exec (.laneLoss l) s) (fun t =>
      t.rd (laneStatus_STATE l') = laneLock ∧ t.on (laneStatus_LOST l') = true))
    ∧ ((st ≠ laneActiveSt ∨ x.missRun < 8) → exec (.laneLoss l) s = .next s)
    ∧ (st = laneActiveSt → x.rxSlot % 4096 ≠ 4095 → Ends (exec (.stitchSlotInvalid l) s) (fun t =>
      t.rd (laneCounts1_MISSING l') = min (s.rd (laneCounts1_MISSING l') + 1) 65535
      ∧ (t.lane l').missRun = x.missRun + 1 ∧ (t.lane l').rxSlot = x.rxSlot + 1
      ∧ x.rxSlot ∈ (t.lane l').bad ∧ t.rd (laneStatus_STATE l') = st))
    ∧ (st = laneActiveSt → x.rxSlot % 4096 = 4095 → Ends (exec (.stitchSlotInvalid l) s) (fun t =>
      t.rd (laneCounts1_MISSING l') = min (s.rd (laneCounts1_MISSING l') + 1) 65535
      ∧ t.rd (laneCounts2_MARKER_ERR l') = min (s.rd (laneCounts2_MARKER_ERR l') + 1) 255
      ∧ t.rd (laneStatus_STATE l') = (if x.badMarks = 0 then laneActiveSt else laneAlign)))
    ∧ (st = laneAlign → Ends (exec (.stitchSlotInvalid l) s) (fun t => t.regs = s.regs
      ∧ (t.lane l').rxSlot = x.rxSlot + 1
      ∧ (t.lane l').goodMarks = (if x.rxSlot % 4096 = 4095 then 0 else x.goodMarks)))
    ∧ (st = laneExchange → exec (.stitchSlotInvalid l) s = .next (s.slotPassed l'))
    ∧ (∀ (transitions exc : BitVec 17) (ctle : BitVec 4) (taps : Vector Int 12),
      let d := s.rd (laneEq_DENS_MIN l')
      let e := s.rd (laneEq_EXC_MIN l')
      let act := d * 256 ≤ transitions.toNat ∧ e ≤ exc.toNat
      let low := transitions.toNat < 2 * (d * 256) ∨ exc.toNat < 2 * e
      let frozen := s.on (laneEq_FROZEN l') = true
      let new := if frozen then x.taps else taps
      let drift := ∃ p ∈ new.toList.zip x.snap.toList, s.rd (laneEq_DRIFT_LIM l') < (p.1 - p.2).natAbs
      let restores := low ∧ drift ∧ s.on (laneEq_GUARD_DIS l') = false
      Ends (exec (.eqGuardPeriod l transitions exc ctle taps) s) (fun t =>
        (t.on (laneEq_FROZEN l') = true ↔ ¬ act ∧ s.on (laneEq_FREEZE_DIS l') = false)
        ∧ (restores → (t.lane l').taps = x.snap ∧ t.rd (laneEq_CTLE l') = x.snapCtle % 16
            ∧ t.rd (laneCounts1_RESTORES l') = min (s.rd (laneCounts1_RESTORES l') + 1) 127)
        ∧ (¬ restores → (t.lane l').taps = new
            ∧ t.rd (laneEq_CTLE l') = (if frozen then s.rd (laneEq_CTLE l') else ctle.toNat)
            ∧ OnlyRegs s t [⟨.laneEq, l', 0, 0⟩])))

/-- Markers and stitches out: a marker slot carries the marker; in a decision-capable slot the entries that
became ready before leave the lane's ready list, in a bulk-only slot they stay; a time-check lane sends idle
stitches, and so does one in Align and beyond whose group is not Active; a lane in training only moves its scrambler
(R206-R209, R216, R221; log entry 16). -/
def Sys2Proof.Claim.MarkersAndStitchesAreSent : Prop :=
  ∀ (l : BitVec 5) (n : Nat) (s : State),
    let l' := l.toNat
    let st := s.rd (laneStatus_STATE l')
    let idle : BitVec 256 := bulkStitch 0 0 false none
    (s.slotNow = none → exec (.markerTx l) s = .next s ∧ exec (.stitchTx l) s = .next s)
    ∧ (s.slotNow = some n → n % 4096 = 4095 → laneAlign ≤ st → st ≤ laneActiveSt → Ends (exec (.markerTx l) s) (fun t =>
      t.out = .stitch l' (s.markerStitch l' n) :: s.out ∧ t.regs = s.regs ∧ (t.lane l').errCnt = 0))
    ∧ (s.slotNow = some n → (n % 4096 ≠ 4095 ∨ st < laneAlign ∨ laneActiveSt < st) → exec (.markerTx l) s = .next s)
    ∧ (s.slotNow = some n → n % 4096 = 4095 → exec (.stitchTx l) s = .next (s.trainSlot l'))
    ∧ (s.slotNow = some n → n % 4096 ≠ 4095 → s.laneActive (s.leadLane l') = false →
      (s.carries l' = true → exec (.stitchTx l) s = .next ((s.trainSlot l').sendStitch l' idle))
      ∧ (s.carries l' = false → exec (.stitchTx l) s = .next (s.trainSlot l')))
    ∧ (s.slotNow = some n → n % 4096 ≠ 4095 → s.laneActive (s.leadLane l') = true → s.leadLane l' ≠ l' →
      exec (.stitchTx l) s = .next (s.trainSlot l'))
    ∧ (s.slotNow = some n → n % 4096 ≠ 4095 → s.laneActive l' = true → s.leadLane l' = l' →
      (s.laneMode l' = 2 → exec (.stitchTx l) s = .next ((s.trainSlot l').sendStitch l' idle))
      ∧ (s.laneMode l' ≠ 2 → Ends (exec (.stitchTx l) s) (fun t =>
        (t.lane l').ready = (s.lane l').ready.filter (fun e => decide (n % 4 = 3 ∨ s.tick ≤ e.ready))
        ∧ t.threads = s.threads ∧ t.mem = s.mem ∧ s.out.length < t.out.length)))

/-- Markers and decision stitches in: a good marker in Align is counted, a bad one starts the count anew; in Active a
second bad one goes back to Align; a stitch that cannot be corrected is counted; a decision entry is scheduled for
its tick plus PRE and L, with the entry's slot and the bits it carries; in Align and Exchange a slot only passes, and
an invalid one, or one in a marker's place, is counted (R204, R205, R216, R217, R223, R224). -/
def Sys2Proof.Claim.MarkersAndDecisionsAreReceived : Prop :=
  ∀ (l : BitVec 5) (wire : BitVec 256) (arrival : Word) (frac : BitVec 8) (s : State), s.undef = none →
    let l' := l.toNat
    let st := s.rd (laneStatus_STATE l')
    let x := s.lane l'
    let m := wire.toNat
    let good := (∃ v k, openHeader m = some (5, v, k) ∧ crcGood v = true)
      ∧ BitVec.ofNat 31 (m / 2 ^ 112) = (prbsSlot x.rxScr).2
    let w := (scramble x.rxScr wire).toNat
    let passing := st = laneAlign ∨ st = laneExchange
    let plain := st = laneActiveSt ∧ x.rxSlot % 4096 ≠ 4095 ∧ headerInvalid w = false
    let decision := headerType (w % 256) = some 1 ∨ headerType (w % 256) = some 2
    (passing → good → Ends (exec (.markerRx l wire arrival frac) s) (fun t => (t.lane l').goodMarks = x.goodMarks + 1))
    ∧ (passing → ¬ good → Ends (exec (.markerRx l wire arrival frac) s) (fun t => (t.lane l').goodMarks = 0))
    ∧ (¬ passing → st ≠ laneActiveSt → exec (.markerRx l wire arrival frac) s = .next s
        ∧ exec (.decisionStitchRx l wire) s = .next s)
    ∧ (st = laneActiveSt → good → Ends (exec (.markerRx l wire arrival frac) s) (fun t =>
      (t.lane l').missRun = 0 ∧ (t.lane l').badMarks = 0 ∧ t.rd (laneStatus_STATE l') = laneActiveSt))
    ∧ (st = laneActiveSt → ¬ good → Ends (exec (.markerRx l wire arrival frac) s) (fun t =>
      t.rd (laneStatus_STATE l') = (if x.badMarks = 0 then laneActiveSt else laneAlign)
      ∧ t.rd (laneCounts2_MARKER_ERR l') = min (s.rd (laneCounts2_MARKER_ERR l') + 1) 255))
    ∧ (passing → exec (.decisionStitchRx l wire) s = .next (s.slotPassed l'))
    ∧ (st = laneActiveSt → (x.rxSlot % 4096 = 4095 ∨ headerInvalid w = true) →
      exec (.decisionStitchRx l wire) s = .next (s.slotInvalid l'))
    ∧ (plain → ¬ decision → exec (.decisionStitchRx l wire) s = .next s)
    ∧ (plain → decision → openBch w = none → Ends (exec (.decisionStitchRx l wire) s) (fun t =>
      t.rd (laneCounts0_UNCORR l') = min (s.rd (laneCounts0_UNCORR l') + 1) 65535
      ∧ (t.lane l').missRun = x.missRun + 1 ∧ t.deliveries = s.deliveries))
    ∧ (∀ v k, plain → headerType (w % 256) = some 1 → openBch w = some (v, k) → x.apart = false → s.leadLane l' = l' →
      s.copies l' = [] → part v 8 56 % 4 = 1 → (∀ i, 1 ≤ i → i < 4 → part v (56 * i + 8) 56 % 4 = 0) →
      let e := part v 8 56
      let route := part e 2 9
      let en := s.rxrFor l' route x.rxSlot
      let time := part e 43 10
      let age := (s.ft.toNat + 1024 - (time + (rxr1_PRE l' route).of en.2) % 1024) % 1024
      (rxr0_EN l' route).of en.1 ≠ 0 → (rxr0_DLV l' route).of en.1 ≠ 0 → (rxr0_FWD l' route).of en.1 = 0 →
      age < s.laneLat l' → Ends (exec (.decisionStitchRx l wire) s) (fun t =>
        t.rd (laneCounts0_CORR_BITS l') = min (s.rd (laneCounts0_CORR_BITS l') + k) (2 ^ 32 - 1)
        ∧ (t.lane l').missRun = 0
        ∧ ∃ d, t.deliveries = s.deliveries ++ [d] ∧ d.tick = s.tick + s.laneLat l' - age ∧ d.lane = l' ∧ d.entry = route
          ∧ d.slot = (rxr0_SLOT l' route).of en.1 ∧ bitsOf d.word 0 32 = part e 11 32 ∧ bitsOf d.word 32 10 = time
          ∧ d.word.getLsbD 42 = e.testBit 53 ∧ d.word.getLsbD 43 = e.testBit 54 ∧ d.word.getLsbD 44 = e.testBit 55
          ∧ bitsOf d.word 45 2 = 0))

/-- Bulk stitches: one that fails its CRC-24 is counted, and answered with a NAK where it holds data; the next in
sequence is taken and kept until its message is whole; a received NAK makes everything unacknowledged go again; a
spent retry budget empties the replay buffer and takes the lane to Lock (R235-R237). -/
def Sys2Proof.Claim.BulkStitchesKeepTheirOrder : Prop :=
  ∀ (l : BitVec 5) (wire : BitVec 256) (s : State), s.undef = none →
    let l' := l.toNat
    let x := s.lane l'
    let st := s.rd (laneStatus_STATE l')
    let w := (scramble x.rxScr wire).toNat
    let plain := st = laneActiveSt ∧ x.rxSlot % 4096 ≠ 4095 ∧ headerInvalid w = false
    let counts : Reg := ⟨.laneCounts0, l', 0, 0⟩
    let passing := st = laneAlign ∨ st = laneExchange
    (passing → exec (.bulkStitchRx l wire) s = .next (s.slotPassed l'))
    ∧ (¬ passing → st ≠ laneActiveSt → exec (.bulkStitchRx l wire) s = .next s)
    ∧ (st = laneActiveSt → (x.rxSlot % 4096 = 4095 ∨ headerInvalid w = true) →
      exec (.bulkStitchRx l wire) s = .next (s.slotInvalid l'))
    ∧ (plain → headerType (w % 256) ≠ some 0 → headerType (w % 256) ≠ some 3 → exec (.bulkStitchRx l wire) s = .next s)
    ∧ (∀ typ v k, plain → openHeader w = some (typ, v, k) → (typ = 0 ∨ typ = 3) → s.leadLane l' = l' →
      let seq := BitVec.ofNat 8 (part v 8 8)
      let p := partOf v
      (crcGood v = false → s.copies l' = [] → Ends (exec (.bulkStitchRx l wire) s) (fun t =>
        t.rd (laneCounts0_CRC_ERR l') = min (s.rd (laneCounts0_CRC_ERR l') + 1) 32767
        ∧ (typ = 3 → (t.lane l').nakTx = true) ∧ (typ = 0 → (t.lane l').nakTx = x.nakTx)
        ∧ (t.lane l').rxSeq = x.rxSeq))
      ∧ (crcGood v = true → (typ = 0 ∨ seq ≠ x.rxSeq + 1) → Ends (exec (.bulkStitchRx l wire) s) (fun t =>
        (t.lane l').rxSeq = x.rxSeq ∧ (t.lane l').inq = x.inq ∧ (t.lane l').missRun = 0
        ∧ (t.lane l').replay = ackReplay (BitVec.ofNat 8 (part v 16 8)) x.replay ∧ OnlyRegs s t [counts]))
      ∧ (crcGood v = true → typ = 3 → seq = x.rxSeq + 1 → p.last = false →
        Ends (exec (.bulkStitchRx l wire) s) (fun t =>
          (t.lane l').rxSeq = seq ∧ OnlyRegs s t [counts] ∧ (t.lane l').missRun = 0
          ∧ (t.lane l').inq = (if p.first then [p] else x.inq ++ [p])
          ∧ (t.lane l').replay = ackReplay (BitVec.ofNat 8 (part v 16 8)) x.replay))
      ∧ (crcGood v = true → typ = 3 → seq = x.rxSeq + 1 → p.last = true → p.first = true →
        p.dest = s.rd eswId_DEV → p.mtype ∈ [0, 1, 4] → Ends (exec (.bulkStitchRx l wire) s) (fun t =>
          (t.lane l').rxSeq = seq ∧ (t.lane l').inq = [] ∧ OnlyRegs s t [counts])))
    ∧ (x.nakRx = true → Ends (exec (.bulkRetransmit l) s) (fun t => (t.lane l').nakRx = false
      ∧ (∀ p ∈ (t.lane l').replay, p.again = true) ∧ (t.lane l').replay.map SentPart.seq = x.replay.map SentPart.seq
      ∧ t = { s with lanes := t.lanes }))
    ∧ (x.nakRx = false → exec (.bulkRetransmit l) s = .next s)
    ∧ (s.bulkSpent l' = true → (∀ y ∈ s.shots, y.joint = true → s.inTree y.bar l' = false) →
      Ends (exec (.bulkRetryExhausted l) s) (fun t =>
        t.rd (laneCounts1_EXHAUST l') = min (s.rd (laneCounts1_EXHAUST l') + 1) 255
        ∧ (t.lane l').replay = [] ∧ (s.laneUp l' = true → t.rd (laneStatus_STATE l') = laneLock)))
    ∧ (s.bulkSpent l' = false → exec (.bulkRetryExhausted l) s = .next s)

/-- The control entries of a barrier: ARRIVE is noted once for its lane and generation; RELEASE from the
parent sets the release tick, or, when late, ends every wait for it, `wbar` with WS = 2 and a joint shot's with
program error 0x07; the first UNPICK of an execution with no shot open here is noted; the longest PAUSE applies, and a
late one is counted (R230-R234, R363, R418). Generations start at 0: the model's choice, log entry 26. A command
whose occasion has not come leaves the state as it stands: the model's choice, log entry 2. -/
def Obligations.BarrierEntriesActOnTheirGeneration : Prop :=
  ∀ (l : BitVec 5) (b : BitVec 6) (gen : BitVec 4) (tick : BitVec 36) (len : BitVec 16) (s : State),
    let l' := l.toNat
    let b' := b.toNat
    let x := s.bar b'
    let g := (x.fullGen gen).toNat
    let w := s.fullTick tick
    let at_ := s.deviceTick w
    let present := (x.gen : Int) ≤ x.fullGen gen
    let down := s.on (eswBar_EN b') = true ∧ s.bitAt (eswBar_DOWN_LANES b') l' = true
    let old := ∃ c act v, x.cut = some (c, act, v) ∧ c ≤ g ∧ at_ ≤ (act : Int)
    let child := s.on (eswBar_EN b') = true ∧ s.on (eswBar_ROOT b') = false ∧ s.rd (eswBar_UP_LANE b') = l'
    let stale := ∃ c act, c ≤ g ∧ ((∃ v, x.cut = some (c, act, some v) ∧ at_ < (v : Int))
      ∨ (x.cut = some (c, act, none) ∧ (x.at_ g).sent = false))
    let released (q : Thr) (why : BarPurpose) : Prop := q.tile < 16 ∧ q.idx < 8
      ∧ (∃ g' part, (s.thread q).waitingOn = some (.bar b' g' part why) ∧ (g' = g ∨ part = false))
      ∧ (∀ y, (s.thread q).wait = some y → y.timeout = none)
    (down → present → ¬ old → Ends (exec (.arrive l b gen tick) s) (fun t =>
      l' ∈ ((t.bar b').at_ g).kids ∧ (∀ h, h ≠ g → (t.bar b').at_ h = x.at_ h) ∧ t = { s with bars := t.bars }))
    ∧ ((¬ down ∨ ¬ present ∨ old) → exec (.arrive l b gen tick) s = .next s)
    ∧ (child → present → ¬ stale → (x.at_ g).rel = none →
      ((s.tick : Int) < at_ → Ends (exec (.release l b gen tick) s) (fun t =>
        ((t.bar b').at_ g).rel = some (at_.toNat, w) ∧ (t.bar b').gen = x.gen ∧ t.threads = s.threads ∧ t.regs = s.regs))
      ∧ (at_ ≤ (s.tick : Int) → Ends (exec (.release l b gen tick) s) (fun t => (t.bar b').gen = g + 1
          ∧ (∀ q, released q .wbar → Decided s t q 2 s.ft)
          ∧ (∀ q why, released q why → why ≠ .wbar → Errs t q 0x07))))
    ∧ ((¬ child ∨ ¬ present ∨ stale ∨ (x.at_ g).rel ≠ none) → exec (.release l b gen tick) s = .next s)
    ∧ (s.inTree b' l' = false → exec (.unpickRx l b gen tick) s = .next s ∧ exec (.pauseRx l b gen len) s = .next s)
    ∧ (s.inTree b' l' = true → Tab.find x.unpicked g = none →
      s.shots.find? (fun y => y.joint && y.bar == b' && y.gen == g) = none →
      Ends (exec (.unpickRx l b gen tick) s) (fun t => Tab.find (t.bar b').unpicked g = some (some (at_.toNat + 1))
        ∧ t.threads = s.threads ∧ t.regs = s.regs))
    ∧ ((Tab.find x.unpicked g = some none ∨ ∃ n : Nat, Tab.find x.unpicked g = some (some n) ∧ at_ < n) →
      exec (.unpickRx l b gen tick) s = .next s)
    ∧ (s.inTree b' l' = true → present → (∀ r, (x.at_ g).rel = some r → s.tick < r.1) →
      ((x.at_ g).pause < len.toNat → Ends (exec (.pauseRx l b gen len) s) (fun t =>
        ((t.bar b').at_ g).pause = len.toNat ∧ t.threads = s.threads ∧ t.regs = s.regs))
      ∧ (len.toNat ≤ (x.at_ g).pause → exec (.pauseRx l b gen len) s = .next s))
    ∧ (s.inTree b' l' = true → (¬ present ∨ ∃ r, (x.at_ g).rel = some r ∧ r.1 ≤ s.tick) →
      exec (.pauseRx l b gen len) s = .next (s.bump canopyCounts_PAUSE_LATE))

/-- DOWN and UP mark and unmark a device on an Active lane, in the order of their ticks; an expected decision
that does not come is written absent from a lane that is down or a device marked down, written lost where the lane's
window was bad, and counted as a no-show else (R225, R227, R230). -/
def Sys2Proof.Claim.DevicesGoDownAndExpectationsPass : Prop :=
  ∀ (l : BitVec 5) (dev : BitVec 11) (tick : BitVec 36) (r : BitVec 9) (s : State),
    let l' := l.toNat
    let r' := r.toNat
    let acts := s.laneActive l' = true ∧ s.marksLater l' dev.toNat (s.fullTick tick) = true
    let n := s.rd (rxr0_SLOT l' r')
    let time := s.ft - BitVec.ofNat 64 (s.rd (rxr1_PRE l' r') + s.laneLat l')
    let gone := s.laneActive l' = false ∨ s.rd (rxr0_SRC_DEV l' r') ∈ (s.lane l').down
    let bad := s.windowBad l' (slotOf (s.ft.toNat - s.laneLat l'))
    let due := s.expected l' r' = true ∧ s.delivered.contains (l', r') = false
    let free := (s.slot n).wrote = none ∨ (s.slot n).tick ≠ s.tick
    (acts → Ends (exec (.down l dev tick) s) (fun t => dev.toNat ∈ (t.lane l').down
        ∧ t.rd (laneStatus_DOWN_DEVS l') = min (t.lane l').down.length 255 ∧ t.threads = s.threads)
      ∧ Ends (exec (.up l dev tick) s) (fun t => dev.toNat ∉ (t.lane l').down
        ∧ t.rd (laneStatus_DOWN_DEVS l') = min (t.lane l').down.length 255 ∧ t.threads = s.threads))
    ∧ (¬ acts → exec (.down l dev tick) s = .next s ∧ exec (.up l dev tick) s = .next s)
    ∧ (¬ due → exec (.expectationTick l r) s = .next s)
    ∧ (due → gone → free → Ends (exec (.expectationTick l r) s) (fun t =>
        (t.slot n).word = s.rxWord l' r' 0 time false false false 1 ∧ (t.slot n).wrote = some s.ft
        ∧ t.threads = s.threads ∧ t.mem = s.mem))
    ∧ (due → ¬ gone → bad = true → free → Ends (exec (.expectationTick l r) s) (fun t =>
        (t.slot n).word = s.rxWord l' r' 0 time false false false 2 ∧ (t.slot n).wrote = some s.ft
        ∧ t.threads = s.threads ∧ t.mem = s.mem))
    ∧ (due → ¬ gone → bad = false → Ends (exec (.expectationTick l r) s) (fun t => t.slots = s.slots
        ∧ t.rd (laneCounts2_NOSHOW l') = min (s.rd (laneCounts2_NOSHOW l') + 1) 65535))

/-- Writes of the fabric's set-up: EN := 0 disables a lane at once, EN := 1 starts a disabled one in Detect but in
Dormant, and another write comes into force there; ORIGIN, and the second word with EN = 1, restart an expectation
timer; ESW.BAR is refused while a thread waits at its barrier or an ARRIVE has come; ESW.ID is stored (R200, R213,
R226, R231). -/
def Sys2Proof.Claim.FabricRegisterWrites : Prop :=
  ∀ (l : BitVec 5) (e b : BitVec 6) (w : WriteOp) (s : State),
    let l' := l.toNat
    let st := s.rd (laneStatus_STATE l')
    let rl : Reg := ⟨.laneCfg, l', 0, 0⟩
    let cfg := s.merged rl w
    let r0 : Reg := ⟨.eswExp0, e.toNat, 0, 0⟩
    let r1 : Reg := ⟨.eswExp1, e.toNat, 0, 0⟩
    let y := s.setReg r0 (s.merged r0 w)
    let z := s.setReg r1 (s.merged r1 w)
    let rb : Reg := ⟨.eswBar, b.toNat, 0, 0⟩
    let started (u t : State) : Prop := t.regs = u.regs
      ∧ Tab.find t.exps e.toNat = some { origin := s.absTick (u.rd (eswExp0_ORIGIN e.toNat)) }
    (Lands s rl w →
      (bitsOf cfg 0 1 = 0 → Ends (exec (.laneCfgWrite l w) s) (fun t =>
        t.rd (laneStatus_STATE l') = laneDisabled ∧ t.reg rl = cfg ∧ (t.lane l').cfg = cfg))
      ∧ (bitsOf cfg 0 1 = 1 → st = laneDisabled → s.dormant = false → Ends (exec (.laneCfgWrite l w) s) (fun t =>
        t.rd (laneStatus_STATE l') = laneDetect ∧ t.reg rl = cfg ∧ (t.lane l').cfg = cfg))
      ∧ (bitsOf cfg 0 1 = 1 → (st ≠ laneDisabled ∨ s.dormant = true) →
        exec (.laneCfgWrite l w) s = .next (s.setReg rl cfg)))
    ∧ (Lands s r0 w → s.on (eswExp1_EN e.toNat) = true → Ends (exec (.expTimerWrite e false w) s) (started y))
    ∧ (Lands s r0 w → s.on (eswExp1_EN e.toNat) = false → exec (.expTimerWrite e false w) s = .next y)
    ∧ (Lands s r1 w →
      (z.on (eswExp1_EN e.toNat) = true → Ends (exec (.expTimerWrite e true w) s) (started z))
      ∧ (z.on (eswExp1_EN e.toNat) = false → exec (.expTimerWrite e true w) s = .next z))
    ∧ (Lands s rb w →
      ((s.waitersAt b.toNat ≠ [] ∨ ((s.bar b.toNat).at_ (s.bar b.toNat).gen).kids ≠ []) →
        exec (.barWrite b w) s = .next (s.put eswStatus_CFG_REFUSED true))
      ∧ (s.waitersAt b.toNat = [] → ((s.bar b.toNat).at_ (s.bar b.toNat).gen).kids = [] →
        exec (.barWrite b w) s = .next (s.setReg rb (s.merged rb w))))
    ∧ (Lands s ⟨.eswId, 0, 0, 0⟩ w → exec (.devWrite w) s = .next (s.setReg ⟨.eswId, 0, 0, 0⟩ (s.merged ⟨.eswId, 0, 0, 0⟩ w)))

/-! The seam matrix (10). -/

/-- Seam events, timers and the log: an event of a source enters the channels that route it, which carry it two
ticks on, and a second one of the tick merges; sources 0-19 enter resynchronised channels alone here, since the
raw outputs of their inputs have entered the asynchronous ones; in Dormant an event reaches asynchronous channels
alone, and those in WAKE wake the device unless REQ is written in the tick; a filter takes a LUT output that is
due; timers start at ORIGIN unless they are stopped in the tick, and end a period once, again, or as a pulse width;
a pop by the claim's holder takes the oldest word, or finds the log empty, and a word whose parity fails sets
POISON (R284-R288, R292, R294, R295, R300). A command whose occasion has not come leaves the state as it stands:
the model's choice, log entry 2. -/
def Obligations.SeamEventsAndTimers : Prop :=
  ∀ (src : BitVec 9) (n : BitVec 6) (k : BitVec 4) (req : Requester) (s : State),
    let k' := k.toNat
    let mode := s.rd (tmrCfg_MODE k')
    let p := max 2 (s.rd (tmrTime_PERIOD k'))
    let chans := (s.chansOf src.toNat).filter (fun c => decide (20 ≤ src.toNat) || decide (32 ≤ c))
    (src.toNat ≠ 511 → s.dormant = false →
      Ends (exec (.seamEvent src) s) (fun t =>
        t = { s with seamPipe := t.seamPipe, asyncNow := t.asyncNow, regs := t.regs }
        ∧ (∀ e, e ∈ t.seamPipe ↔ e ∈ s.seamPipe ∨ ∃ c ∈ chans, e = (c, s.tick + 2)))
      ∧ (∀ c, chans = [c] →
        ((c, s.tick + 2) ∉ s.seamPipe → Ends (exec (.seamEvent src) s) (fun t =>
          t.seamPipe = s.seamPipe ++ [(c, s.tick + 2)] ∧ t.regs = s.regs ∧ (c < 32 → c ∈ t.asyncNow)))
        ∧ ((c, s.tick + 2) ∈ s.seamPipe → exec (.seamEvent src) s = .next (s.bump (seamCh_MERGED c)))))
    ∧ (src.toNat ≠ 511 → s.dormant = true → Ends (exec (.seamEvent src) s) (fun t =>
      t = { s with wakeDue := t.wakeDue, asyncNow := t.asyncNow }
      ∧ ∀ c ∈ s.chansOf src.toNat, c < 32 → c ∈ t.asyncNow
        ∧ (s.bitAt seamTask_WAKE c = true → s.pwrRun.wrote ≠ some s.tick → t.wakeDue = true)))
    ∧ ((src.toNat = 511 ∨ s.chansOf src.toNat = []) → exec (.seamEvent src) s = .next s)
    ∧ (∀ c, (s.evalCells false).find? (fun c => c.1 == n.toNat && c.2.2.2) = some c →
      Ends (exec (.tackFilterExpiry n) s) (fun t => (t.tack n.toNat).filt = c.2.1.lut
        ∧ t = { s with tacks := t.tacks }))
    ∧ (s.originDue k' = true → s.timerHeld k' = false → k' ∉ s.seamLevels.stops →
      (Tab.find s.timers k' = none → Ends (exec (.timerOrigin k) s) (fun t => t.on (tmrCfg_RUNNING k') = true
        ∧ ∃ x, Tab.find t.timers k' = some x ∧ x.from_ = s.tick ∧ x.p = p))
      ∧ ((Tab.find s.timers k').isSome = true → exec (.timerOrigin k) s = .next (s.bump (tmrCfg_IGN k'))))
    ∧ ((s.originDue k' = false ∨ s.timerHeld k' = true ∨ k' ∈ s.seamLevels.stops) →
      exec (.timerOrigin k) s = .next s)
    ∧ (∀ x, Tab.find s.timers k' = some x →
      (x.from_ + x.p ≤ s.tick → mode = 0 → Ends (exec (.timerExpiry k) s) (fun t => Tab.find t.timers k' = none
        ∧ t.on (tmrCfg_RUNNING k') = false ∧ 128 + k' ∈ t.seamRaised))
      ∧ (x.from_ + x.p ≤ s.tick → mode ≠ 0 → Ends (exec (.timerExpiry k) s) (fun t => t.regs = s.regs
        ∧ (∃ y, Tab.find t.timers k' = some y ∧ y.from_ = x.from_ + x.p ∧ y.p = p
          ∧ y.level = (decide (mode = 2) && decide (0 < s.rd (tmrTime_COMPARE k'))))
        ∧ (mode ≠ 2 → 128 + k' ∈ t.seamRaised) ∧ (mode = 2 → t.seamRaised = s.seamRaised)))
      ∧ (s.tick < x.from_ + x.p → mode = 2 → x.level = true → x.c < x.p → x.from_ + x.c ≤ s.tick →
        Ends (exec (.timerExpiry k) s) (fun t => Tab.find t.timers k' = some { x with level := false } ∧ t.regs = s.regs))
      ∧ (x.due (mode == 2) s.tick = false → exec (.timerExpiry k) s = .next s))
    ∧ (s.rd claimLog_HOLDER = req.domain + 1 →
      (∀ x rest, s.evLog.words = x :: rest → Ends (exec (.logPop req) s) (fun t =>
        t.evLog.words = rest ∧ t.evLog.lastPop = x.w ∧ (x.parityOk = true → t.regs = s.regs)
        ∧ (x.parityOk = false → t.on logStatus_POISON = true)))
      ∧ (s.evLog.words = [] → Ends (exec (.logPop req) s) (fun t =>
        t.evLog = s.evLog ∧ t.on logStatus_UNDERRUN = true)))
    ∧ (s.rd claimLog_HOLDER ≠ req.domain + 1 → exec (.logPop req) s = .next (s.bump seamStatus_DENIED))

/-- Writes of the matrix: OWNER and SECURE of a channel or cell change by domain 0 alone and while it is disabled,
the rest by its owner, securely where SECURE is set, and every other change counts DENIED; an enable is refused
where a channel names a source of another owner, or an asynchronous one a source not marked A, or where a cell
names an object of another owner; sources change owner only by domain 0, and not under an enabled channel of
another owner; a timer obeys its claim's holder, a stop wins over a start, and a new MODE stops it; a free claim is
taken with the writer's domain, its other fields are that domain's, that domain or domain 0 releases it, and any
other change counts CLAIM_DENIED; FLUSH empties the log (R288-R297, R300). That OWNER and SECURE are guarded by
change is the model's choice, log entry 43; an owner value of 5-7 leaves the field. -/
def Obligations.SeamWritesObeyOwnersAndClaims : Prop :=
  ∀ (addr : Nat) (n : Nat) (i : BitVec 5) (k : BitVec 4) (w : WriteOp) (s : State), w.req.domain < 5 →
    let me := w.req.domain
    let ch : Reg := ⟨.seamCh, n, 0, 0⟩
    let old := s.reg ch
    let new := keepOwner old (s.merged ch w) 35
    let rest (x : Word) : Word := withBits (withBits x 35 4 0) 48 16 0
    let owns := me = bitsOf old 35 3 ∧ (bitsOf old 38 1 = 0 ∨ w.req.secure = true)
    let allowed := (bitsOf old 35 4 = bitsOf new 35 4 ∨ (me = 0 ∧ bitsOf old 32 1 = 0))
      ∧ (rest old = rest new ∨ owns) ∧ (owns ∨ me = 0)
    let srcs := bitsOf new 0 9 :: (if bitsOf new 9 1 = 1 then [bitsOf new 16 9] else [])
    let fits := bitsOf new 32 1 = 0
      ∨ ((32 ≤ n ∨ ∀ x ∈ srcs, asyncSource x = true) ∧ ∀ x ∈ srcs, s.srcOwner x = bitsOf new 35 3)
    let t0 : Reg := ⟨.tack0, n, 0, 0⟩
    let t1 : Reg := ⟨.tack1, n, 0, 0⟩
    let was := s.reg t0
    let cell := keepOwner was (s.merged t0 w) 32
    let cellAllowed := (bitsOf was 32 3 = bitsOf cell 32 3 ∨ (me = 0 ∧ bitsOf was 36 1 = 0))
      ∧ (withBits was 32 3 0 = withBits cell 32 3 0 ∨ me = bitsOf was 32 3) ∧ (me = bitsOf was 32 3 ∨ me = 0)
    let cellFits := bitsOf cell 36 1 = 0 ∨ s.cellRefused (bitsOf cell 32 3) (s.reg t1) = false
    let so : Reg := ⟨.srcOwn, i.toNat, 0, 0⟩
    let owners := (List.range 16).foldl (fun x j => keepOwner (s.reg so) x (4 * j)) (s.merged so w)
    let taken := ∃ j < 16, ∃ c < 256, bitsOf owners (4 * j) 3 ≠ bitsOf (s.reg so) (4 * j) 3
      ∧ routes (s.reg ⟨.seamCh, c, 0, 0⟩) (16 * i.toNat + j) = true ∧ s.rd (seamCh_OWNER c) ≠ bitsOf owners (4 * j) 3
    let k' := k.toNat
    let mode := s.rd (tmrCfg_MODE k')
    let asked := bitsOf (s.merged ⟨.tmrCfg, k', 0, 0⟩ w) 3 2
    let changes := asked ≠ 3 ∧ asked ≠ mode
    let stopping := s.timerHeld k' = true ∨ k' ∈ s.seamLevels.stops
    let stopped (t : State) : Prop := Tab.find t.timers k' = none ∧ t.on (tmrCfg_RUNNING k') = false
    (Reg.ofAddr addr = some ch → Lands s ch w →
      (allowed → fits → Ends (exec (.seamChWrite addr w) s) (fun t =>
        t.reg ch = withBits new 48 16 0 ∧ OnlyRegs s t [ch] ∧ (32 ≤ n → ∀ q ∈ t.seamPipe, q.1 ≠ n)))
      ∧ (allowed → ¬ fits → exec (.seamChWrite addr w) s = .next (s.put seamStatus_CFG_REFUSED true))
      ∧ (¬ allowed → exec (.seamChWrite addr w) s = .next (s.bump seamStatus_DENIED)))
    ∧ (Reg.ofAddr addr = some t0 → Lands s t0 w →
      (cellAllowed → cellFits → Ends (exec (.seamChWrite addr w) s) (fun t => t.reg t0 = cell ∧ OnlyRegs s t [t0]))
      ∧ (cellAllowed → ¬ cellFits → exec (.seamChWrite addr w) s = .next (s.put seamStatus_CFG_REFUSED true))
      ∧ (¬ cellAllowed → exec (.seamChWrite addr w) s = .next (s.bump seamStatus_DENIED)))
    ∧ (Reg.ofAddr addr = some t1 → Lands s t1 w →
      (me = s.rd (tack0_OWNER n) → Ends (exec (.seamChWrite addr w) s) (fun t =>
        t.reg t1 = s.merged t1 w ∧ OnlyRegs s t [t1]))
      ∧ (me ≠ s.rd (tack0_OWNER n) → exec (.seamChWrite addr w) s = .next (s.bump seamStatus_DENIED)))
    ∧ (Lands s so w →
      (me = 0 → ¬ taken → exec (.srcOwnWrite i w) s = .next (s.setReg so owners))
      ∧ (me = 0 → taken → exec (.srcOwnWrite i w) s = .next (s.put seamStatus_CFG_REFUSED true))
      ∧ (me ≠ 0 → exec (.srcOwnWrite i w) s = .next (s.bump seamStatus_DENIED)))
    ∧ (Strikes s (tmrCfg_GO k') w →
      (s.holdsTimer k' me = false → exec (.timerGo k w) s = .next (s.bump seamStatus_DENIED))
      ∧ (s.holdsTimer k' me = true →
        (strobe w.bits (tmrCfg_STOP k') = true → Ends (exec (.timerGo k w) s) stopped)
        ∧ (strobe w.bits (tmrCfg_STOP k') = false →
          (Tab.find s.timers k' = none → ¬ stopping → Ends (exec (.timerGo k w) s) (fun t =>
            t.on (tmrCfg_RUNNING k') = true ∧ ∃ x, Tab.find t.timers k' = some x ∧ x.from_ = s.tick
              ∧ x.p = max 2 (s.rd (tmrTime_PERIOD k'))))
          ∧ (∀ x, Tab.find s.timers k' = some x → ¬ changes → ¬ stopping → Ends (exec (.timerGo k w) s) (fun t =>
            t.timers = s.timers ∧ t.rd (tmrCfg_IGN k') = min 65535 (s.rd (tmrCfg_IGN k') + 1)))
          ∧ ((Tab.find s.timers k' = none ∨ ¬ changes) → stopping → Ends (exec (.timerGo k w) s) (fun t =>
            t.timers = s.timers))
          ∧ (∀ x, Tab.find s.timers k' = some x → changes → Ends (exec (.timerGo k w) s) stopped))))
    ∧ (Strikes s (tmrCfg_STOP k') w →
      (s.holdsTimer k' me = true → Ends (exec (.timerStop k w) s) (fun t => stopped t
        ∧ k' ∈ t.seamLevels.stops ∧ (s.seamRaised.Nodup → 128 + k' ∉ t.seamRaised)))
      ∧ (s.holdsTimer k' me = false → exec (.timerStop k w) s = .next (s.bump seamStatus_DENIED)))
    ∧ (∀ (name : RegName) (lo width top j : Nat), (name, lo, width, top) ∈
        [(RegName.claimMk, 17, 5, 17), (.claimTmr, 3, 3, 5), (.claimTdc, 3, 3, 5), (.claimLog, 3, 3, 5)] →
      let r : Reg := ⟨name, j, 0, 0⟩
      let asked := s.merged r w
      let holder := bitsOf (s.reg r) 0 width
      let domain := bitsOf (s.reg r) lo 3
      let want := if top < bitsOf asked 0 width then holder else bitsOf asked 0 width
      let fields := withBits asked 0 width holder
      Reg.ofAddr addr = some r → Lands s r w →
      (holder = 0 → want ≠ 0 → Ends (exec (.claimWrite addr w) s) (fun t =>
        bitsOf (t.reg r) 0 width = want ∧ bitsOf (t.reg r) lo 3 = me ∧ OnlyRegs s t [r]))
      ∧ (holder = 0 → want = 0 → Ends (exec (.claimWrite addr w) s) (fun t => OnlyRegs s t []))
      ∧ (holder ≠ 0 → want = holder → me = domain → Ends (exec (.claimWrite addr w) s) (fun t =>
        t.reg r = withBits fields lo 3 domain ∧ OnlyRegs s t [r]))
      ∧ (holder ≠ 0 → want = 0 → (me = domain ∨ me = 0) → Ends (exec (.claimWrite addr w) s) (fun t =>
        bitsOf (t.reg r) 0 width = 0 ∧ OnlyRegs s t [r]))
      ∧ (holder ≠ 0 → ((want ≠ holder ∧ want ≠ 0) ∨ (want = 0 ∧ me ≠ domain ∧ me ≠ 0)
          ∨ (want = holder ∧ me ≠ domain ∧ withBits fields lo 3 domain ≠ s.reg r)) →
        exec (.claimWrite addr w) s = .next (s.bump seamStatus_CLAIM_DENIED)))
    ∧ (Strikes s logStatus_FLUSH w → Ends (exec (.logFlush w) s) (fun t => t.evLog = { s.evLog with words := [] }
      ∧ t.on logStatus_FLUSH = false))

/-! The host side: Kenper-M, links, queue pairs, rings, descriptors (11). -/

namespace Sys2Proof.Claim

/-- A descriptor that has begun, of an OPCODE, on a state without an undefined case. -/
def Begun (s : State) (d : Desc) (op : Nat) : Prop :=
  s.begun.contains d = true ∧ d.ref.opcode = op ∧ s.undef = none

/-- The state in which a descriptor's effect is carried out: it is no longer among the begun. -/
def taken (s : State) (d : Desc) : State := { s with begun := s.begun.erase d }

/-- The command completes its descriptor with a status and does nothing else (R317, R327). -/
def EndsWith (o : Host.Outcome State Fault Refusal) (s : State) (d : Desc) (status : Nat) : Prop :=
  o = .next ((taken s d).ends d status)

end Sys2Proof.Claim

/-- Kenper-M: a datagram for another port counts RX_BAD, a malformed one MALFORMED, and one that no ACL entry allows
DISCARD_ACL; a repeated one is answered with its kept response, or once more when its request has been executed; a
new one begins with its first operation if none executes, waits if fewer than 16 do, and counts OVERRUN else; the
response of a request without an operation left goes out in network order and is kept as the last one of its
source, and the next request begins (R307-R310). That a request's operations are executed one at a time is the
model's choice, log entry 78. -/
def Sys2Proof.Claim.KenperMAnswersOnce : Prop :=
  ∀ (link : Nat) (src : MSource) (port : BitVec 16) (bytes : List Byte) (s : State), s.undef = none →
    let seq := BitVec.ofNat 32 (netField bytes 4 4)
    let ops := (List.range (netField bytes 8 1)).map (datagramOp bytes)
    let stop := (netField bytes 9 1).testBit 0
    let kept := s.kept.find? (fun k => k.src == src && k.seq == seq)
    let c : Instr := .kenperMDatagram link src port bytes
    let st : Reg := ⟨.kenMStatus, 0, 0, 0⟩
    let begins (o : Host.Outcome State Fault Refusal) (u : State) (y : MRequest) : Prop := ∀ op rest, y.ops = op :: rest →
      let z := u.runFor y op
      z.1.undef = none → 3 ≤ z.1.rd globalBoot_STAGE →
      o = .next { z.1 with mExec := some { y with ops := rest, results := y.results ++ [(op, z.2)] } }
    (s.mAnswers link = false → exec c s = .next s)
    ∧ (s.mAnswers link = true →
      (port.toNat ≠ s.rd kenMCfg_UDP_PORT → exec c s = .next (s.bump (linkCounts_RX_BAD link)))
      ∧ (port.toNat = s.rd kenMCfg_UDP_PORT →
        (datagramGood bytes = false → exec c s = .next (s.bump kenMStatus_MALFORMED))
        ∧ (datagramGood bytes = true → s.aclFor src = none → exec c s = .next (s.bump kenMStatus_DISCARD_ACL))
        ∧ (∀ req, datagramGood bytes = true → s.aclFor src = some req →
          let x : MRequest := { src := src, seq := seq, req := req, stopOnError := stop, ops := ops, results := [], sends := 1 }
          let isSame (y : MRequest) : Prop := y.src = src ∧ y.seq = seq
          (∀ k, kept = some k → Ends (exec c s) (fun t => t.out = .response k.src k.bytes :: s.out
            ∧ OnlyRegs s t [st] ∧ t.mExec = s.mExec ∧ t.mWait = s.mWait))
          ∧ (kept = none → ((∃ y, s.mExec = some y ∧ isSame y) ∨ ∃ y ∈ s.mWait, isSame y) → Ends (exec c s) (fun t =>
            t.out = s.out ∧ OnlyRegs s t [st] ∧ t.mExec = s.mExec.map (MRequest.again src seq)
            ∧ t.mWait = s.mWait.map (MRequest.again src seq)))
          ∧ (kept = none → (∀ y, s.mExec = some y → ¬ isSame y) → (∀ y ∈ s.mWait, ¬ isSame y) →
            (s.mExec = none → begins (exec c s) s x)
            ∧ (s.mExec.isSome = true → s.mWait.length < 16 → exec c s = .next { s with mWait := s.mWait ++ [x] })
            ∧ (s.mExec.isSome = true → 16 ≤ s.mWait.length → exec c s = .next (s.bump kenMStatus_OVERRUN))))))
    ∧ (∀ x, s.mExec = some x → x.ops = [] →
      let u : State := { s with
        mExec := none,
        kept := ({ src := x.src, seq := x.seq, bytes := x.response } :: s.kept.filter (fun y => y.src != x.src)).take 32,
        out := List.replicate x.sends (.response x.src x.response) ++ s.out }
      (s.mWait = [] → exec .kenperMResponse s = .next u)
      ∧ (∀ y rest, s.mWait = y :: rest → begins (exec .kenperMResponse s) { u with mWait := rest } y))
    ∧ ((s.mExec = none ∨ ∃ x, s.mExec = some x ∧ x.ops ≠ []) → exec .kenperMResponse s = .next s)

/-- Links and rates: UP follows the link, with a notice of it; ARP, neighbour and echo requests for an address of the
link are answered, a frame that R302 discards counts RX_BAD, and priority flow control on PFC_PRIO pauses the link;
a port's MODE, FEC and AN are not changed while it is enabled, and a reserved MODE or FEC leaves its field;
notifications go out at most every 50 us, one owed sooner later; one received halves the rate, which doubles back
every 50 us (R301, R302, R306, R329). Which frames are sent to a link is the model's choice, log entry 127, and
that a reserved value leaves its field log entry 33. -/
def Sys2Proof.Claim.LinksAndRatesFollowTheirEvents : Prop :=
  ∀ (l : BitVec 3) (q : BitVec 6) (p up : Bool) (f : EthFrame) (w : WriteOp) (s : State),
    let l' := l.toNat
    let q' := q.toNat
    let r : Reg := ⟨.port, p.toNat, 0, 0⟩
    let new := s.merged r w
    let x := s.qp q'
    let isUp := s.bitAt (portStatus_UP (l' / 4)) (l' % 4)
    let told : Cpl := { opcode := 0xEA, status := 0, code := (if up then 1 else 0), ring := l', source := 3, info32 := 0,
                        tick := s.ft.toNat }
    let ring := s.rd kenEvt_CRING
    let rx := exec (.ethernetFrameRx l f) s
    let own4 (a : BitVec 32) : Prop := s.rd (linkIp_IPV4 l') ≠ 0 ∧ a.toNat = s.rd (linkIp_IPV4 l')
    let ip6 := s.rd (linkIp6Hi_IPV6_HI l') * 2 ^ 64 + s.rd (linkIp6Lo_IPV6_LO l')
    let own6 (a : BitVec 128) : Prop := ip6 ≠ 0 ∧ a.toNat = ip6
    ((up = true → s.linkExists l' = true) → isUp ≠ up → Ends (exec (.linkChange l up) s) (fun t =>
      t = { s with regs := t.regs, cplWait := t.cplWait }
      ∧ t.bitAt (portStatus_UP (l' / 4)) (l' % 4) = up
      ∧ (s.on kenEvt_EN = true → s.cplDiscards ring = false → t.cplWait = s.cplWait ++ [(ring, told)])))
    ∧ ((isUp = up ∨ (up = true ∧ s.linkExists l' = false)) → exec (.linkChange l up) s = .next s)
    ∧ (s.linkExists l' = false → rx = .next s)
    ∧ (s.linkExists l' = true →
      (f.discarded (s.on (port_PFC_EN (l' / 4))) = true → rx = .next (s.bump (linkCounts_RX_BAD l')))
      ∧ ((2 ≤ f.tags.length ∨ 9216 < f.length ∨ f.body ∈ [.ipFragment, .ipv4Options, .ipv6Extension, .otherProtocol]) →
        rx = .next (s.bump (linkCounts_RX_BAD l')))
      ∧ (f.discarded (s.on (port_PFC_EN (l' / 4))) = false →
        (s.frameFor l' f = true →
          (∀ a, f.body = .arp a → own4 a → rx = .next (s.send (.frame l' 0)))
          ∧ (∀ a, f.body = .neighbour a → own6 a → rx = .next (s.send (.frame l' 1)))
          ∧ (∀ a, f.body = .echo4 a → own4 a → rx = .next (s.send (.frame l' 2)))
          ∧ (∀ a, f.body = .echo6 a → own6 a → rx = .next (s.send (.frame l' 2))))
        ∧ (∀ a, (f.body = .arp a ∨ f.body = .echo4 a) → (¬ own4 a ∨ s.frameFor l' f = false) → rx = .next s)
        ∧ (∀ a, (f.body = .neighbour a ∨ f.body = .echo6 a) → (¬ own6 a ∨ s.frameFor l' f = false) → rx = .next s)
        ∧ (∀ enabled quanta, f.body = .pfc enabled quanta →
          let prio := s.rd (port_PFC_PRIO (l' / 4))
          (enabled.getLsbD prio = true → Ends rx (fun t => t.regs = s.regs ∧ t.kenRun.paused.head? = some (l', s.tick
            + (quanta.toList.getD prio 0 * 512 * 1000000 + s.linkRate l' - 1) / s.linkRate l')))
          ∧ (enabled.getLsbD prio = false → rx = .next s))))
    ∧ ((∀ a, x.cnpSent = some a → a + 50000 ≤ s.tick) → Ends (exec (.ecnCeRx q) s) (fun t =>
      t.out = .cnp q' :: s.out ∧ (t.qp q').cnpSent = some s.tick ∧ (t.qp q').cnpOwed = false))
    ∧ (∀ a, x.cnpSent = some a → s.tick < a + 50000 → Ends (exec (.ecnCeRx q) s) (fun t =>
      t.out = s.out ∧ t.regs = s.regs ∧ t.qp q' = { x with cnpOwed := true }))
    ∧ Ends (exec (.cnpRx q) s) (fun t => (t.qp q').rate = max 1000000 (s.qpRate q' / 2) ∧ (t.qp q').rateTick = s.tick
      ∧ t.out = s.out)
    ∧ (x.rate ≠ 0 → x.rateTick + 50000 ≤ s.tick → Ends (exec (.rateRecovery q) s) (fun t => t.regs = s.regs
      ∧ (t.qp q').rate = (if s.linkRate (s.qpLink q') ≤ 2 * x.rate then 0 else 2 * x.rate)
      ∧ (t.qp q').rateTick = s.tick))
    ∧ ((x.rate = 0 ∨ s.tick < x.rateTick + 50000) → exec (.rateRecovery q) s = .next s)
    ∧ (Lands s r w →
      (s.on (port_EN p.toNat) = true → bitsOf new 1 5 ≠ bitsOf (s.reg r) 1 5 → Ends (exec (.portCfgWrite p w) s) (fun t =>
        t.reg r = withBits (withBits new 1 5 (bitsOf (s.reg r) 1 5)) 10 1 1
        ∧ t.on (port_CFG_REFUSED p.toNat) = true ∧ OnlyRegs s t [r]))
      ∧ ((s.on (port_EN p.toNat) = false ∨ bitsOf new 1 5 = bitsOf (s.reg r) 1 5) →
        Ends (exec (.portCfgWrite p w) s) (fun t => OnlyRegs s t [r]
          ∧ (bitsOf new 1 2 ≠ 3 → bitsOf new 3 2 ≠ 3 → t.reg r = new)
          ∧ bitsOf (t.reg r) 1 2 = (if bitsOf new 1 2 = 3 then bitsOf (s.reg r) 1 2 else bitsOf new 1 2)
          ∧ bitsOf (t.reg r) 3 2 = (if bitsOf new 3 2 = 3 then bitsOf (s.reg r) 3 2 else bitsOf new 3 2)
          ∧ t.on (port_EN p.toNat) = new.getLsbD 0)))

/-- Queue pairs: their states follow the table, with the PSNs taken on the way, and a change it does not hold is
refused without effect; an error ends their transfers with HOST_ACCESS and their fetched descriptors with FLUSHED
where the completion ring takes them; a missing acknowledgement or the end of a wait after an RNR NAK retries up to
its limit, when the queue pair is not silent; rings are enabled with a size in range, from index zero, and a command
ring that is disabled flushes what it has fetched (R304, R305, R313). A command whose occasion has not come leaves
the state as it stands: the model's choice, log entry 2. A CTRL write of the same STATE is no change, log entry 62. -/
def Obligations.QueuePairsFollowTheirStates : Prop :=
  ∀ (q : BitVec 6) (cause : BitVec 4) (kind : RingKind) (r : BitVec 6) (w : WriteOp) (s : State),
    let q' := q.toNat
    let st := s.rd (qpCtrl_STATE q')
    let ctrl : Reg := ⟨.qpCtrl, q', 0, 0⟩
    let asks (v : Nat) : Prop := Lands s ctrl w ∧ w.half ≠ .high ∧ bitsOf w.bits 0 3 = v ∧ bitsOf (s.merged ctrl w) 0 3 = v
    let mine (c : DescRef) : Prop := c.ring ∈ s.ringsOf q'
    let ended (t : State) (c : DescRef) (status : Nat) : Prop := t.cplDiscards (s.rd (cmdCfg_CRING c.ring)) = false →
      ∃ e ∈ t.cplWait, e.1 = s.rd (cmdCfg_CRING c.ring) ∧ e.2.status = status ∧ e.2.tag = c.tag
    let fails (o : Host.Outcome State Fault Refusal) (cause : Nat) : Prop := Ends o (fun t =>
      t.rd (qpCtrl_STATE q') = 4 ∧ t.rd (qpErr_ERR_CAUSE q') = cause
      ∧ (∀ d ∈ t.fetched, ¬ mine d.ref) ∧ (∀ x ∈ t.transfers, ¬ mine x.ref)
      ∧ (∀ x ∈ s.transfers, mine x.ref → ended t x.ref 0x31) ∧ (∀ d ∈ s.fetched, mine d.ref → ended t d.ref 0x34))
    let x := s.qp q'
    let n := s.rd (qpCtrl_ACK_TIMEOUT q')
    let beyond := ∃ y ∈ s.outReqs, y.q = q' ∧ y.sent + 4096 * 2 ^ n ≤ s.tick
    let waited := ∃ a, x.rnrDue = some a ∧ a ≤ s.tick
    let lim := s.rd (qpCtrl_RNR_RETRY q')
    let sends (t : State) : Prop := (s.qpMute q' = false → t.out = .retransmit q' :: s.out)
      ∧ (s.qpMute q' = true → t.out = s.out ∧ (t.qp q').owed = true)
    let cfg : Reg := ⟨kind.cfg, if kind = .ptpr then 0 else r.toNat, 0, 0⟩
    let new := s.merged cfg w
    let fault := exec (.qpError q cause) s
    (st = 3 → 1 ≤ cause.toNat → cause.toNat ≤ 7 → fails fault cause.toNat)
    ∧ ((st = 1 ∨ st = 2) → cause = 7 → fails fault 7)
    ∧ (¬ (st = 3 ∧ 1 ≤ cause.toNat ∧ cause.toNat ≤ 7) → ¬ ((st = 1 ∨ st = 2) ∧ cause = 7) → fault = .next s)
    ∧ (st = 3 → s.dormant = false → n ≠ 0 → x.rnrDue = none → beyond →
      (x.retries < s.rd (qpCtrl_RETRY_CNT q') → Ends (exec (.ackTimeout q) s) (fun t =>
        (t.qp q').retries = x.retries + 1 ∧ sends t ∧ t.rd (qpCtrl_STATE q') = 3))
      ∧ (s.rd (qpCtrl_RETRY_CNT q') ≤ x.retries → fails (exec (.ackTimeout q) s) 1))
    ∧ ((st ≠ 3 ∨ s.dormant = true ∨ n = 0 ∨ x.rnrDue.isSome = true ∨ ¬ beyond) → exec (.ackTimeout q) s = .next s)
    ∧ (st = 3 → s.dormant = false → waited →
      ((lim = 7 ∨ x.rnrRetries < lim) → Ends (exec (.rnrRetryTimer q) s) (fun t => (t.qp q').rnrDue = none
        ∧ (t.qp q').rnrRetries = x.rnrRetries + 1 ∧ sends t))
      ∧ (lim ≠ 7 → lim ≤ x.rnrRetries → fails (exec (.rnrRetryTimer q) s) 2))
    ∧ ((st ≠ 3 ∨ s.dormant = true ∨ ¬ waited) → exec (.rnrRetryTimer q) s = .next s)
    ∧ (asks 0 → st ≠ 0 → Ends (exec (.qpReset q w) s) (fun t => t.rd (qpCtrl_STATE q') = 0 ∧ t.qp q' = {}
      ∧ (∀ y ∈ t.outReqs, y.q ≠ q') ∧ (∀ y ∈ t.readWait, y.q ≠ q') ∧ (∀ d ∈ t.fetched, ¬ mine d.ref)
      ∧ (∀ x ∈ t.transfers, ¬ mine x.ref) ∧ (∀ e ∈ t.cplWait, e ∈ s.cplWait)))
    ∧ (asks 1 → st = 0 → Ends (exec (.qpInit q w) s) (fun t => t.reg ctrl = s.merged ctrl w ∧ OnlyRegs s t [ctrl]))
    ∧ (asks 2 → st = 1 → Ends (exec (.qpRtr q w) s) (fun t => t.reg ctrl = s.merged ctrl w
      ∧ (t.qp q').rqPsn = BitVec.ofNat 24 (s.rd (qpPsn_RQ_PSN q')) ∧ OnlyRegs s t [ctrl]))
    ∧ (asks 3 → st = 2 → Ends (exec (.qpRts q w) s) (fun t => t.reg ctrl = withBits (s.reg ctrl) 0 3 3
      ∧ (t.qp q').sqPsn = BitVec.ofNat 24 (s.rd (qpPsn_SQ_PSN q')) ∧ OnlyRegs s t [ctrl]))
    ∧ (∀ v c, (v, c) ∈ [(0, Instr.qpReset q w), (1, .qpInit q w), (2, .qpRtr q w), (3, .qpRts q w)] → asks v →
      (v = st → Ends (exec c s) (fun t => OnlyRegs s t [ctrl] ∧ t.qps = s.qps
        ∧ t.reg ctrl = (if st ≤ 1 then s.merged ctrl w else s.reg ctrl)))
      ∧ (v ≠ st → v ≠ 0 → ¬ (v = st + 1) → exec c s = .next s))
    ∧ (Lands s cfg w →
      ((s.reg cfg).getLsbD 0 = true → new.getLsbD 0 = true → exec (.ringCfgWrite kind r w) s = .next (s.bump kenCounts_CFG_REFUSED))
      ∧ ((s.reg cfg).getLsbD 0 = false → new.getLsbD 0 = true →
        (kind.sized (bitsOf new 3 5) = true → Ends (exec (.ringCfgWrite kind r w) s) (fun t => t.reg cfg = new
          ∧ t.reg ⟨kind.idx, cfg.i, 0, 0⟩ = 0))
        ∧ (kind.sized (bitsOf new 3 5) = false → exec (.ringCfgWrite kind r w) s = .next (s.bump kenCounts_CFG_REFUSED)))
      ∧ (new.getLsbD 0 = false → Ends (exec (.ringCfgWrite kind r w) s) (fun t => t.reg cfg = new ∧ t.begun = s.begun
        ∧ (kind = .cmd → (s.reg cfg).getLsbD 0 = true → (∀ d ∈ t.fetched, d.ref.ring ≠ r.toNat)
          ∧ ∀ d ∈ s.fetched, d.ref.ring = r.toNat → ended t d.ref 0x34))))

/-- RoCE requests: only in RTR and RTS, with a good ICRC, at the PSN expected; a gap has a NAK, a repeat an
acknowledgement, and in Dormant every request an RNR NAK; a WRITE with the window's R_Key is a doorbell of its
window, which replaces the index it names, and one outside it has a remote-access NAK; a SEND goes to the first
inline ring of the queue pair, whose CI counts its descriptors, or has an RNR NAK; an unsupported request has an
invalid-request NAK and ends the queue pair; an acknowledgement frees the WRITEs up to its PSN and completes the
READs whose data it covers; an RNR NAK makes the queue pair wait (R303-R306, R314, R316, R321, R326). A command
whose occasion has not come leaves the state as it stands: the model's choice, log entry 2. The length of the wait
is from the transport's standard, log entry 128. -/
def Obligations.RoceRequestsAreTakenInOrder : Prop :=
  ∀ (q : BitVec 6) (psn : BitVec 24) (addr : Word) (rkey : BitVec 32) (bytes : List Byte) (s : State),
    let q' := q.toNat
    let x := s.qp q'
    let off := (addr - s.reg ⟨.kenDbBase, 0, 0, 0⟩).toNat
    let v := leBytes bytes
    let d := off / 64
    let n := bytes.length / 64
    let counts : Reg := ⟨.kenCounts, 0, 0, 0⟩
    let rts := s.rd (qpCtrl_STATE q') = 3
    let request (b : RoceBody) : Prop := b = .write addr rkey bytes ∨ b = .send bytes ∨ b = .unsupported
    let covers (r : OutReq) : Prop := r.q = q' ∧ r.isWrite = true ∧ psnDist r.psn psn ≤ 0
    (s.qpListens q' = false → (∀ p, exec (.rocePacketRx q p) s = .next s) ∧ exec (.doorbell q addr bytes) s = .next s
      ∧ exec (.inlineSend q bytes) s = .next s)
    ∧ (s.qpListens q' = true →
      (∀ body, exec (.rocePacketRx q ⟨psn, false, body⟩) s = .next (s.bump (linkCounts_ICRC_ERR (s.qpLink q'))))
      ∧ (∀ body, request body →
        (s.dormant = true → exec (.rocePacketRx q ⟨psn, true, body⟩) s = .next (s.send (.ack q' 1)))
        ∧ (s.dormant = false → 0 < psnDist psn x.rqPsn → Ends (exec (.rocePacketRx q ⟨psn, true, body⟩) s) (fun t =>
          t.out = .ack q' 4 :: s.out ∧ t.rd (qpErr_SEQ_ERR q') = min (s.rd (qpErr_SEQ_ERR q') + 1) 65535))
        ∧ (s.dormant = false → psnDist psn x.rqPsn < 0 →
          exec (.rocePacketRx q ⟨psn, true, body⟩) s = .next (s.send (.ack q' 0))))
      ∧ (psn = x.rqPsn → s.dormant = false →
        (rkey.toNat = s.rd kenDb_RKEY →
          exec (.rocePacketRx q ⟨psn, true, .write addr rkey bytes⟩) s = exec (.doorbell q addr bytes) s)
        ∧ (rkey.toNat ≠ s.rd kenDb_RKEY →
          exec (.rocePacketRx q ⟨psn, true, .write addr rkey bytes⟩) s = .next (s.send (.ack q' 3)))
        ∧ exec (.rocePacketRx q ⟨psn, true, .send bytes⟩) s = exec (.inlineSend q bytes) s
        ∧ Ends (exec (.rocePacketRx q ⟨psn, true, .unsupported⟩) s) (fun t => .ack q' 2 ∈ t.out
          ∧ (rts → t.rd (qpCtrl_STATE q') = 4 ∧ t.rd (qpErr_ERR_CAUSE q') = 5) ∧ (¬ rts → t.regs = s.regs)))
      ∧ (rts → Ends (exec (.rocePacketRx q ⟨psn, true, .ack⟩) s) (fun t =>
        t.outReqs.map (fun r => (r.q, r.psn, r.kind)) = (s.outReqs.filter (fun r =>
          !(r.q == q' && r.isWrite && decide (psnDist r.psn psn ≤ 0)))).map (fun r => (r.q, r.psn, r.kind))
        ∧ ((∃ r ∈ s.outReqs, covers r) →
          (t.qp q').retries = 0 ∧ (t.qp q').rnrRetries = 0 ∧ (t.qp q').rnrDue = none)
        ∧ (∀ w ∈ s.readWait, w.q = q' → psnDist w.psn psn ≤ 0 → w ∉ t.readWait ∧ w.ref ∉ t.flying)
        ∧ (s.readWait = [] → t.regs = s.regs)))
      ∧ (rts → ∀ timer, Ends (exec (.rocePacketRx q ⟨psn, true, .rnrNak timer⟩) s) (fun t =>
        (t.qp q').rnrDue = some (s.tick + rnrWait timer)))
      ∧ (rts → ∀ kind, kind = 3 ∨ kind = 4 → Ends (exec (.rocePacketRx q ⟨psn, true, .nak kind⟩) s) (fun t =>
        t.rd (qpCtrl_STATE q') = 4 ∧ t.rd (qpErr_ERR_CAUSE q') = kind))
      ∧ (¬ rts → ∀ body, ¬ (∃ a k b, body = .write a k b) → (∀ b, body ≠ .send b) → body ≠ .unsupported →
        exec (.rocePacketRx q ⟨psn, true, body⟩) s = .next s)
      ∧ (s.dormant = true → exec (.doorbell q addr bytes) s = .next (s.send (.ack q' 1))
        ∧ exec (.inlineSend q bytes) s = .next (s.send (.ack q' 1)))
      ∧ (s.dormant = false → 4096 ≤ off → exec (.doorbell q addr bytes) s = .next (s.send (.ack q' 3)))
      ∧ (s.dormant = false → off < 4096 →
        ((bytes.length ≠ 8 ∨ off % 64 ≠ 0 ∨ v / 2 ^ 32 % 4 = 3) → Ends (exec (.doorbell q addr bytes) s) (fun t =>
          t.out = .ack q' 0 :: s.out ∧ (t.qp q').rqPsn = x.rqPsn + 1 ∧ OnlyRegs s t [counts]
          ∧ t.rd kenCounts_DB_BAD = min (s.rd kenCounts_DB_BAD + 1) 65535))
        ∧ (bytes.length = 8 → off % 64 = 0 → ∀ (k : Nat) (bound log : Nat) (f : RField), (k, bound, log, f) ∈
            [(0, s.rd (cmdCfg_QP d), s.rd (cmdCfg_LOG2SIZE d), cmdIdx_PI d),
             (1, s.rd (cplCfg_QP d), s.rd (cplCfg_LOG2SIZE d), cplIdx_CI d),
             (2, s.rd (resCfg_QP d), s.rd (resCfg_LOG2SIZE d), resIdx_CI d)] → v / 2 ^ 32 % 4 = k →
          Ends (exec (.doorbell q addr bytes) s) (fun t => t.out = .ack q' 0 :: s.out ∧ (t.qp q').rqPsn = x.rqPsn + 1
            ∧ (bound = q' → t.rd f = v % 2 ^ 32 % ringSize log ∧ OnlyRegs s t [f.reg])
            ∧ (bound ≠ q' → t.rd kenCounts_DB_DENIED = min (s.rd kenCounts_DB_DENIED + 1) 65535
              ∧ OnlyRegs s t [counts]))))
      ∧ (s.dormant = false → (bytes.length % 64 ≠ 0 ∨ n = 0 ∨ 64 < n) → Ends (exec (.inlineSend q bytes) s) (fun t =>
        .ack q' 2 ∈ t.out ∧ (rts → t.rd (qpCtrl_STATE q') = 4 ∧ t.rd (qpErr_ERR_CAUSE q') = 5) ∧ (¬ rts → t.regs = s.regs)))
      ∧ (s.dormant = false → bytes.length = 64 * n → 1 ≤ n → n ≤ 64 →
        (s.inlineRing q' = none → exec (.inlineSend q bytes) s = .next (s.send (.ack q' 1)))
        ∧ (∀ r, s.inlineRing q' = some r →
          let size := ringSize (s.rd (cmdCfg_LOG2SIZE r))
          let ci := s.rd (cmdIdx_CI r)
          (n ≤ s.inlineFree r → Ends (exec (.inlineSend q bytes) s) (fun t => t.out = .ack q' 0 :: s.out
            ∧ (t.qp q').rqPsn = x.rqPsn + 1 ∧ t.rd (cmdIdx_PI r) = t.rd (cmdIdx_CI r)
            ∧ t.rd (cmdIdx_CI r) = (ci + n) % size ∧ t.fetched = s.fetched ++ (List.range n).map (fun k =>
                descOf r ((ci + k) % size) true (((wordsOf (8 * n) bytes).drop (8 * k)).take 8))))
          ∧ (s.inlineFree r < n → exec (.inlineSend q bytes) s = .next (s.send (.ack q' 1))))))

/-- Descriptors: a ring that can fetch issues a READ of the next ones up to PI, at most 32 and not across its end, and
the response brings them in ring order and advances CI; one at a time begins on a ring, a fenced one when those
before it have completed; NOP completes with OK, an OPCODE that does not exist with BAD_DESCRIPTOR; a command for a
descriptor that has not begun does nothing; the oldest completion that can be written goes to its ring's next entry,
and one whose ring discards is counted (R315, R317, R325, R326, R330). A command whose occasion has not come leaves
the state as it stands: the model's choice, log entry 2. -/
def Obligations.DescriptorsBeginAndComplete : Prop :=
  ∀ (r q : BitVec 6) (d : Desc) (bytes : List Byte) (last : Bool) (s : State),
    let r' := r.toNat
    let q' := q.toNat
    let p := s.rd (cmdCfg_QP r')
    let n := s.fetchable r'
    let next := s.fetched.find? (fun d => d.ref.ring == r')
    let held (d : Desc) : Prop := (∃ b ∈ s.begun, b.ref.ring = r') ∨ s.kenperRuns = false
      ∨ s.rd (qpCtrl_STATE p) = 4 ∨ s.cplBlocked (s.rd (cmdCfg_CRING r')) = true
      ∨ (d.fence = true ∧ ∃ x ∈ s.flying, x.ring = r')
    let due := s.cplWait.find? (fun e => s.cplDiscards e.1 || (s.cplReady e.1 && s.acked e.2))
    let fetches := s.on (cmdCfg_EN r') = true ∧ s.on (cmdCfg_INLINE r') = false ∧ s.kenperRuns = true
      ∧ s.canRead p = true ∧ 1 ≤ n
    (fetches → Ends (exec (.descriptorFetch r) s) (fun t => t.regs = s.regs ∧ n ≤ 32
        ∧ t.out = .rdmaRead p (s.rd (cmdCfg_RKEY r')) (s.reg ⟨.cmdBase, r', 0, 0⟩ + BitVec.ofNat 64 (64 * s.fetchAt r'))
          (64 * n) :: s.out
        ∧ t.outReqs = s.outReqs ++ [{ q := p, psn := (s.qp p).sqPsn, kind := .fetch r' n, sent := s.tick, left := 64 * n }]))
    ∧ (¬ fetches → exec (.descriptorFetch r) s = .next s)
    ∧ (∀ o ring n, s.rd (qpCtrl_STATE q') = 3 → s.undef = none → 1 ≤ n →
      s.outReqs.find? (fun o => o.q == q' && !o.isWrite) = some o → o.kind = .fetch ring n →
      let size := ringSize (s.rd (cmdCfg_LOG2SIZE ring))
      let ci := s.rd (cmdIdx_CI ring)
      Ends (exec (.rocePacketRx q ⟨o.psn, true, .readResponse bytes last⟩) s) (fun t =>
        t.rd (cmdIdx_CI ring) = (ci + n) % size
        ∧ t.fetched = s.fetched ++ (List.range n).map (fun k =>
            descOf ring ((ci + k) % size) false (((wordsOf (8 * n) bytes).drop (8 * k)).take 8))))
    ∧ (∀ d, next = some d → held d → exec (.descriptorBegin r) s = .next s)
    ∧ (∀ d, next = some d → ¬ held d → exec (.descriptorBegin r) s
        = .next { s with fetched := s.fetched.erase d, begun := s.begun ++ [d], flying := s.flying ++ [d.ref] })
    ∧ (next = none → exec (.descriptorBegin r) s = .next s)
    ∧ (Begun s d 0x00 → EndsWith (exec (.descNop d) s) s d 0x00)
    ∧ (Begun s d d.ref.opcode → knownOpcode d.ref.opcode = false → EndsWith (exec (.badDescriptor d) s) s d 0x33)
    ∧ (s.begun.contains d = false → exec (.descNop d) s = .next s ∧ exec (.badDescriptor d) s = .next s
      ∧ exec (.regWrite d) s = .next s ∧ exec (.param d) s = .next s ∧ exec (.load d) s = .next s
      ∧ exec (.read d) s = .next s ∧ exec (.share d) s = .next s ∧ exec (.launch d) s = .next s
      ∧ exec (.feed d) s = .next s ∧ exec (.frame d) s = .next s)
    ∧ (due = none → exec .completionWrite s = .next s)
    ∧ (∀ ring c, due = some (ring, c) →
      (s.cplDiscards ring = true → Ends (exec .completionWrite s) (fun t => t.cplWait = s.cplWait.erase (ring, c)
        ∧ t.out = s.out ∧ t.rd kenCounts_CPL_DISCARD = min (s.rd kenCounts_CPL_DISCARD + 1) 65535))
      ∧ (s.cplDiscards ring = false →
        let n := ringSize (s.rd (cplCfg_LOG2SIZE ring))
        let pi := s.rd (cplIdx_PI ring)
        Ends (exec .completionWrite s) (fun t => t.cplWait = s.cplWait.erase (ring, c)
          ∧ t.rd (cplIdx_PI ring) = (pi + 1) % 2 ^ 32
          ∧ t.out = .rdmaWrite (s.rd (cplCfg_QP ring)) (s.rd (cplCfg_RKEY ring))
            (s.reg ⟨.cplBase, ring, 0, 0⟩ + BitVec.ofNat 64 (32 * (pi % n)))
            ((c.words (pi / n % 2 == 0)).flatMap wordBytes) :: s.out)))

/-- REG_WRITE, PARAM, LAUNCH and FEED: out of the ring's scope, without a write, into a full queue, or with a
misaligned extent they complete with their status and change nothing; else the writes land one after another until
one fails, which the completion names; the PARAM is held, or applied at once to an Idle thread with an empty launch
queue; the launch queues; the extent is taken (R311, R318, R319, R322, R324, R327). -/
def Obligations.DescriptorsWriteQueueAndFeed : Prop :=
  ∀ (d : Desc) (s : State),
    let req := s.ringReq d.ref.ring
    let inScope := d.writes.all (fun w => s.namesAddr req w.1 w.2) = true
    let qp : Thr := ⟨d.field 1 4 4, d.field 1 8 3⟩
    let ql : Thr := ⟨d.field 1 0 4, d.field 1 4 3⟩
    let tile := d.field 1 0 4
    let bob := d.field 1 4 2
    let start := (d.word 2).toNat
    let length := d.field 3 0 32
    let p := (taken s d).writeList req 0 d.writes
    let mayName (t : Nat) : Prop := s.namesTile req.domain t = true
    let param : HeldParam := { desc := d.ref, domain := req.domain, secure := req.secure, writes := d.writes }
    let idle := (s.thread qp).st = .idle ∧ (s.thread qp).lq = []
    let z := (((taken s d).modThread qp (fun t => { t with params := t.params ++ [param] })).modThread qp
      (fun t => { t with params := [] })).writeList req 0 d.writes
    (Begun s d 0x01 →
      (d.writes = [] → EndsWith (exec (.regWrite d) s) s d 0x33)
      ∧ (d.writes ≠ [] → ¬ inScope → EndsWith (exec (.regWrite d) s) s d 0x22)
      ∧ (d.writes ≠ [] → inScope → p.1.undef = none →
        (p.2 = none → exec (.regWrite d) s = .next (p.1.ends d 0x00))
        ∧ (∀ e, p.2 = some e → exec (.regWrite d) s = .next (p.1.complete d.ref 0x36 e.1 e.2.code 0 0))))
    ∧ (Begun s d 0x02 →
      (d.writes = [] → EndsWith (exec (.param d) s) s d 0x33)
      ∧ (d.writes ≠ [] → (¬ mayName qp.tile ∨ ¬ inScope) → EndsWith (exec (.param d) s) s d 0x22)
      ∧ (d.writes ≠ [] → mayName qp.tile → inScope →
        (16 ≤ (s.thread qp).params.length → EndsWith (exec (.param d) s) s d 0x25)
        ∧ ((s.thread qp).params.length < 16 → ¬ idle → Ends (exec (.param d) s) (fun t => t.regs = s.regs
          ∧ t.cplWait = s.cplWait ∧ (t.thread qp).params = (s.thread qp).params ++ [param]))
        ∧ (idle → (s.thread qp).params = [] → z.1.undef = none →
          (z.2 = none → exec (.param d) s = .next (z.1.complete d.ref 0x00 0 0 s.ft 0))
          ∧ (∀ e, z.2 = some e → exec (.param d) s = .next (z.1.complete d.ref 0x36 e.1 e.2.code s.ft 0)))))
    ∧ (Begun s d 0x20 →
      (¬ mayName ql.tile → EndsWith (exec (.launch d) s) s d 0x22)
      ∧ (mayName ql.tile → (s.thread ql).lq.length < 4 → Ends (exec (.launch d) s) (fun t =>
        (t.thread ql).lq = (s.thread ql).lq ++ [{ desc := d.ref, entry := d.field 1 8 8, mode := d.startMode,
                                                  args := [d.word 3, d.word 4, d.word 5, d.word 6] }]
        ∧ (t.thread ql).st = (s.thread ql).st ∧ (∀ p, p ≠ ql → t.thread p = s.thread p) ∧ t.regs = s.regs))
      ∧ (mayName ql.tile → 4 ≤ (s.thread ql).lq.length → EndsWith (exec (.launch d) s) s d 0x20))
    ∧ (Begun s d 0x30 →
      (¬ mayName tile → EndsWith (exec (.feed d) s) s d 0x22)
      ∧ (mayName tile → (length = 0 ∨ length % 4 ≠ 0 ∨ start ≠ Tab.get s.feedEnd (tile, bob) 0) →
        EndsWith (exec (.feed d) s) s d 0x24)
      ∧ (mayName tile → length ≠ 0 → length % 4 = 0 → start = Tab.get s.feedEnd (tile, bob) 0 →
        (64 ≤ (s.extents.filter (fun e => e.1 == (tile, bob))).length → EndsWith (exec (.feed d) s) s d 0x25)
        ∧ ((s.extents.filter (fun e => e.1 == (tile, bob))).length < 64 → Ends (exec (.feed d) s) (fun t =>
          t.on (bobStatus_FEED_DRY tile bob) = false ∧ Tab.get t.feedEnd (tile, bob) 0 = start + length / 4
          ∧ t.cplWait = s.cplWait ∧ ∃ e, t.extents = s.extents ++ [((tile, bob), e)] ∧ e.start = start
            ∧ e.count = length / 4 ∧ e.hostAddr = d.word 4))))

/-- FRAME changes the ledger by its operations in order, all in one tick, unless one is out of range or of the ring's
scope, or it comes more rounds late than it allows, and what it sets leaves every undo mask; LOAD, READ and SHARE
check their space, range, scope and target and then begin; a READ waits while its queue pair cannot send, and then
sends the words it names, or those of the event log; data of a LOAD goes to its words, and the last ends it; the
destination of a SHARE ends it (R185, R186, R311, R320, R321, R323, R327, R337). The order of the checks is the
model's choice, log entry 73. A command whose occasion has not come leaves the state as it stands: the model's
choice, log entry 2. -/
def Obligations.FramesAndTransfersMoveData : Prop :=
  ∀ (d : Desc) (r : BitVec 6) (index : Nat) (bytes : List Byte) (status : BitVec 8) (s : State),
    let req := s.ringReq d.ref.ring
    let n := d.field 1 48 5
    let ops := (List.range n).map d.frameOp
    let lag := s.frameLag (d.field 1 0 32)
    let late := d.field 1 32 16 ≠ 0 ∧ (d.field 1 32 16 : Int) < lag
    let t0 := d.transfer req.domain
    let ranged := spaceRange t0.space t0.offset t0.length = false
    let named := s.namesSpace req.domain t0.space t0.tile t0.offset t0.length = true
    let p := s.rd (cmdCfg_QP d.ref.ring)
    let words := t0.length / 8
    let dev := d.field 1 48 11
    let here := (d.word 1).getLsbD 59
    let runs := t0.space = 0 ∧ s.tileRunning t0.tile = true
    let begins (o : Host.Outcome State Fault Refusal) : Prop := Ends o (fun t =>
      t.transfers.map Transfer.ref = s.transfers.map Transfer.ref ++ [d.ref] ∧ t.mem = s.mem)
    let sends (t : State) (ws : List Word) : Prop :=
      t.out = .rdmaWrite p t0.rkey t0.hostAddr (ws.flatMap wordBytes) :: s.out
        ∧ t.readWait.map ReadWait.ref = s.readWait.map ReadWait.ref ++ [d.ref]
    let found := s.shareAt r.toNat index
    (Begun s d 0x28 →
      ((n = 0 ∨ 24 < n) → EndsWith (exec (.frame d) s) s d 0x33)
      ∧ (1 ≤ n → n ≤ 24 → (∃ o ∈ ops, 384 ≤ o % 512) → EndsWith (exec (.frame d) s) s d 0x24)
      ∧ (1 ≤ n → n ≤ 24 → (∀ o ∈ ops, o % 512 < 384) →
        ((∃ o ∈ ops, s.namesTile req.domain (o % 512 / 24) = false) → EndsWith (exec (.frame d) s) s d 0x22)
        ∧ ((∀ o ∈ ops, s.namesTile req.domain (o % 512 / 24) = true) →
          (late → EndsWith (exec (.frame d) s) s d 0x23)
          ∧ (¬ late → (∀ o ∈ ops, s.poisoned 6 0 (o % 512 / 32) = false) → Ends (exec (.frame d) s) (fun t =>
            t.ledger = ops.foldl frameApply s.ledger ∧ t.mem = s.mem ∧ t.threads = s.threads
            ∧ t.shots = s.shots.map (fun x => { x with undo := x.undo &&& ~~~frameSets ops }))))))
    ∧ (Begun s d 0x10 →
      (spaceLoads t0.space = false → EndsWith (exec (.load d) s) s d 0x33)
      ∧ (spaceLoads t0.space = true →
        (¬ ranged → EndsWith (exec (.load d) s) s d 0x24)
        ∧ (ranged → ¬ named → EndsWith (exec (.load d) s) s d 0x22)
        ∧ (ranged → named → runs → EndsWith (exec (.load d) s) s d 0x21)
        ∧ (ranged → named → ¬ runs → begins (exec (.load d) s)
          ∧ (t0.space = 0 → Ends (exec (.load d) s) (fun t => t.rd (ndlStatus_IMG_STATE t0.tile) = 1)))))
    ∧ (Begun s d 0x11 →
      (spaceReads t0.space = false → EndsWith (exec (.read d) s) s d 0x33)
      ∧ (spaceReads t0.space = true → ¬ ranged → EndsWith (exec (.read d) s) s d 0x24)
      ∧ (spaceReads t0.space = true → ranged → s.canWrite p = false → exec (.read d) s = .next s)
      ∧ (spaceReads t0.space = true → ranged → s.canWrite p = true →
        (¬ named → EndsWith (exec (.read d) s) s d 0x22)
        ∧ (named → t0.space = 8 → s.on (traceCtrl_BUSY t0.tile) = true → EndsWith (exec (.read d) s) s d 0x21)
        ∧ (named → (t0.space = 9 ∨ t0.space = 0xA) → s.holdsQueue req.domain t0.space t0.offset = false →
          EndsWith (exec (.read d) s) s d 0x26)
        ∧ (named → t0.space = 0xA → s.rd claimLog_HOLDER = req.domain + 1 → s.evLog.words ≠ [] →
          Ends (exec (.read d) s) (fun t => t.evLog.words = s.evLog.words.drop words
            ∧ sends t ((s.evLog.words.take words).map (fun x => x.w))))
        ∧ (named → ∀ sp first, (t0.space, sp, first) ∈ [(1, Space.instr, t0.offset), (2, .data, t0.offset),
            (3, .env, t0.offset / 8)] → (∀ i < words, s.poisoned sp.locus t0.tile (first + i) = false) →
          Ends (exec (.read d) s) (fun t => t.mem = s.mem
            ∧ sends t ((List.range words).map (fun i => s.memWord sp t0.tile (first + i)))))
        ∧ (named → t0.space = 8 → s.on (traceCtrl_BUSY t0.tile) = false → Ends (exec (.read d) s) (fun t =>
          t.mem = s.mem
            ∧ sends t ((List.range words).map (fun i => s.memWord .trace t0.tile (t0.offset / 8 + i)))))))
    ∧ (Begun s d 0x12 →
      (spaceLoads t0.space = false → EndsWith (exec (.share d) s) s d 0x33)
      ∧ (spaceLoads t0.space = true →
        (req.domain ≠ 0 → EndsWith (exec (.share d) s) s d 0x22)
        ∧ (req.domain = 0 → ¬ ranged → EndsWith (exec (.share d) s) s d 0x24)
        ∧ (req.domain = 0 → ranged → here = true → runs → EndsWith (exec (.share d) s) s d 0x21)
        ∧ (req.domain = 0 → ranged → (here = false ∨ ¬ runs) →
          (s.bulkLane dev = none → EndsWith (exec (.share d) s) s d 0x35)
          ∧ ((s.bulkLane dev).isSome = true → begins (exec (.share d) s)))))
    ∧ (s.loadAt r.toNat index = none → exec (.loadData r index bytes) s = .next s)
    ∧ (found = none → exec (.shareAck r index status) s = .next s)
    ∧ (∀ x, s.undef = none → s.loadAt r.toNat index = some x.ref → s.transfer x.ref = some x → x.dest = none →
      x.here = true → x.refused = none → x.space = 2 → bytes.length = 8 → 8 ≤ s.awaited x.ref →
      Ends (exec (.loadData r index bytes) s) (fun t =>
        t.memWord .data x.tile (x.offset + x.done / 8) = BitVec.ofNat 64 (leBytes bytes)
        ∧ (x.done + 8 ≠ x.length → t.transfers.map Transfer.ref = s.transfers.map Transfer.ref)
        ∧ (x.done + 8 = x.length → (∀ y ∈ t.transfers, y.ref ≠ x.ref) ∧ x.ref ∉ t.flying)))
    ∧ (∀ x, found = some x →
      (status ≠ 0 → exec (.shareAck r index status) s = .next (s.endLoad x 0x35 status.toNat))
      ∧ (status = 0 → x.done < x.length → exec (.shareAck r index status) s = .next s)
      ∧ (status = 0 → x.length ≤ x.done →
        (x.refused = none → exec (.shareAck r index status) s = .next (s.endLoad x 0x00 0))
        ∧ (∀ c, x.refused = some c → exec (.shareAck r index status) s = .next (s.endLoad x 0x30 c))))

/-! The package (15). -/

/-- Every signal has a ball of its own within the grid, which carries a signal and no supply; the balls of the
package that carry a signal, a supply, ground or nothing are as many as the table of the groups says (R388,
R389, R391-R394). -/
def Obligations.EverySignalHasItsOwnBall : Prop :=
  (∀ p : Pin, p.ball.row < 64 ∧ 1 ≤ p.ball.col ∧ p.ball.col ≤ 64 ∧ p.ball.net = .signal)
    ∧ (∀ p q : Pin, p.ball = q.ball → p = q)
    ∧ countBalls (fun b => decide (b.net = .signal)) = 1354
    ∧ countBalls (fun b => match b.net with | .supply _ => true | _ => false) = 1005
    ∧ countBalls (fun b => decide (b.net = .ground)) = 1641
    ∧ countBalls (fun b => decide (b.net = .dnu)) = 96

/-- Past word 131,071 the next instruction is an illegal one: at issue a program error with code 0x02
(R71, R87). -/
def Sys2Proof.Claim.IssuePastTheLastWord : Prop :=
  ∀ (q : Thr) (s : State), 131072 ≤ (s.thread q).pc → s.nextInstr q = .illegalInstruction q
    ∧ (Ready s q → Ends (exec (s.nextInstr q) s) (fun t => Errs t q 0x02))

/-- At a tick the PTP clock takes the step that waits, then adds INCR, whose reset value is 1 ns, in units of
2^-32 ns; an INCR that a write has left applies at the next tick (R54, R55). -/
def Sys2Proof.Claim.ThePtpClockCountsEveryTick : Prop :=
  State.reset.rd ptpIncr_INCR = 0x100000000
    ∧ ∀ s : State, s.on timeStatus_PLL_LOCK = true →
      let stepped := (s.ptpNs + s.ptpStepNext.getD 0).toNat * 2 ^ 32 + s.ptpFrac.toNat
      s.clocks.ptpNs.toNat * 2 ^ 32 + s.clocks.ptpFrac.toNat = (stepped + s.rd ptpIncr_INCR) % 2 ^ 96
      ∧ s.clocks.ptpStepNext = none

/-! The statements of several parts. -/

/-- ld, ldd, ldf and st reach exactly their word; an uncorrectable word is a fault. -/
def Obligations.LoadsAndStoresReachTheirWord : Prop :=
  Claim.LoadsWriteOnlyRd
    ∧ Claim.StoreWritesOneDataWord
    ∧ Claim.PoisonedLoadIsAFault

/-- mfs, mts and the cursor instructions: result and frame. -/
def Obligations.SpecialRegistersAndCursor : Prop :=
  Claim.SpecialRegistersAreReadAndWritten
    ∧ Claim.CursorInstructionsMoveTheCursor

/-- Branches, loop, call, ret, and the program errors of issue. -/
def Obligations.ControlFlowGoesWhereItSays : Prop :=
  Claim.BranchesGoWhereTheirConditionSays
    ∧ Claim.LoopCountsDownAndBranches
    ∧ Claim.CallsAndReturnsKeepTheStack
    ∧ Claim.IllegalIssueIsAProgramError
    ∧ Claim.IssuePastTheLastWord

/-- arm, wtrig, and a trigger that arrives at an input. -/
def Obligations.TriggerInputsAndTheirWaits : Prop :=
  Claim.ArmPreparesTheTriggerInput
    ∧ Claim.TriggerWaitTakesWhatHasArrived
    ∧ Claim.ATriggerIsTakenByItsInputsMode
    ∧ Claim.ATriggerStartsItsLaunch

/-- wdec, wbar, wptp and wq end at once or wait. -/
def Obligations.WaitsOnDecisionsBarriersTimeAndQueue : Prop :=
  Claim.DecisionWaitTakesTheSlot
    ∧ Claim.BarrierWaitArrives
    ∧ Claim.PtpAndQueueWaits

/-- The timed instructions queue their command with its stamp; a full queue stalls. -/
def Obligations.TimedInstructionsQueueTheirCommand : Prop :=
  Claim.TimedInstructionsQueueTheirCommandAtItsStamp
    ∧ Claim.AFullTimedQueueStallsTheThread

/-- A timed command dispatches 38 ticks ahead of its stamp; a late one is a fault. -/
def Obligations.DispatchIsAtTheQueueLead : Prop :=
  Claim.CommandsDispatch38TicksAheadOfTheirStamp
    ∧ Claim.ALateCommandIsAFault

/-- shot.begin, shot.end and end open and close what they name, or are program errors. -/
def Obligations.ShotScopesOpenAndEnd : Prop :=
  Claim.ShotBeginOpensAScopeWithItsCheckpoint
    ∧ Claim.ShotBeginIsHeldWaitsOrErrs
    ∧ Claim.ShotEndAndEndCloseWhatTheyClose

/-- A shot commits at its tick; a pause moves the cursor; a replay resumes at its tick. A command whose
occasion has not come leaves the state as it stands: the model's choice, log entry 2. -/
def Obligations.ShotsCommitPauseAndReplay : Prop :=
  Claim.AShotCommitsAtItsCommitTick
    ∧ Claim.APauseMovesTheCursorByItsLength
    ∧ Claim.AReplayResumesAtItsTick

/-- Launches start at their entry, are refused, end, and are stopped; held PARAMs are applied.  That a refused
launch shows in FAULTED with code 0 is the model's choice, log entry 69. A command whose occasion has not
come leaves the state as it stands: the model's choice, log entry 2. -/
def Obligations.LaunchesStartRunAndEnd : Prop :=
  Claim.ALaunchStartsAtItsEntry
    ∧ Claim.ARefusedLaunchNeverIssues
    ∧ Claim.ALaunchEndsInIdle
    ∧ Claim.HeldParamsAreAppliedInIdle
    ∧ Claim.StopAndFlushEndLaunches

/-- Patterns and marker pulses end after their time; bobbins refill and loop. -/
def Obligations.PatternsMarkersAndBobbinsEnd : Prop :=
  Claim.APatternEndsAfterItsLastSample
    ∧ Claim.AMarkerPulseEndsAtItsEnd
    ∧ Claim.BobbinsRefillAndLoop

/-- Over-range and clipped samples are noted; correction sets apply at a boundary. A command whose occasion
has not come leaves the state as it stands: the model's choice, log entry 2. -/
def Obligations.SamplesAreJudgedAndCorrected : Prop :=
  Claim.OverRangeAndClippedSamplesAreNoted
    ∧ Claim.CorrectionSetsBecomeActiveAtABoundary

/-- A demodulation bank applies at its boundary; a training run ends with its bank committed. A command whose
occasion has not come leaves the state as it stands: the model's choice, log entry 2. -/
def Obligations.DemodulationBanksAndTraining : Prop :=
  Claim.ADemodBankAppliesAtItsBoundary
    ∧ Claim.ATrainingRunEndsWithItsBankCommitted

/-- Writes of the readout, directory, synthesis and bobbin registers. What a refused write leaves, and that a
write with ENABLE = 0 is taken whole, is the model's choice, log entry 60. -/
def Obligations.SynthesisAndReadoutRegisters : Prop :=
  Claim.ReadoutRegisterWrites
    ∧ Claim.SynthesisRegisterWrites
    ∧ Claim.BobbinRegisterWrites

/-- Patches correct the ledger, defect forwards write slots, DEC.CLEAR and PDC enable. -/
def Obligations.DecisionsAndTheLedger : Prop :=
  Claim.PatchesAssembleAndCorrectTheLedger
    ∧ Claim.AMappedDefectForwardWritesItsSlot
    ∧ Claim.DecisionRegisterWrites

/-- Flux banks, fitting runs and flux registers. A command whose occasion has not come leaves the state as it
stands: the model's choice, log entry 2. -/
def Obligations.FluxBanksFitsAndRegisters : Prop :=
  Claim.AFluxBankAppliesAtItsBoundary
    ∧ Claim.AFittingRunEndsWithAFitOrAnError
    ∧ Claim.FluxRegisterWrites

/-- Bias dies park their outputs; drift tracking moves TRIM by one LSB. -/
def Obligations.BiasDiesParkAndTrack : Prop :=
  Claim.BiasDiesParkTheirOutputs
    ∧ Claim.DriftTrackingMovesTrimByOne

/-- Power requests are held or acted on, and their transitions complete. A command whose occasion has not come
leaves the state as it stands: the model's choice, log entry 2. -/
def Obligations.PowerStatesChangeAsAsked : Prop :=
  Claim.PowerRequestsAreHeldOrActedOn
    ∧ Claim.PowerTransitionsComplete

/-- The RF PLL follows its reference; SYNC edges stamp or load forest time. A command whose occasion has not
come leaves the state as it stands: the model's choice, log entry 2. -/
def Obligations.ThePllAndSyncKeepForestTime : Prop :=
  Claim.ThePllFollowsItsReference
    ∧ Claim.SyncEdgesStampOrLoadForestTime

/-- The PTP clock counts, is clamped, stepped and served. A command whose occasion has not come leaves the
state as it stands: the model's choice, log entry 2. -/
def Obligations.ThePtpClockIsSteppedAndSteered : Prop :=
  Claim.ThePtpClockIsSetStepped
    ∧ Claim.ThePtpClockCountsEveryTick

/-- Boot reaches Standby; heartwood records are written; the flash programs and erases. That an inconsistent
command leaves the state as it stands, and that boot waits for MODEL_VALID, is the model's choice, log
entries 2 and 49. -/
def Obligations.BootHeartwoodAndFlash : Prop :=
  Claim.BootRunsToStandby
    ∧ Claim.HeartwoodRecordsAreWritten
    ∧ Claim.TheFlashProgramsAndErases

/-- Markers, decision stitches and bulk stitches are sent, received and kept in order. That a NAK answers a
CRC failure only is the model's choice, log entry 39. A command whose occasion has not come leaves the
state as it stands: the model's choice, log entry 2. -/
def Obligations.StitchesAreSentAndReceived : Prop :=
  Claim.MarkersAndStitchesAreSent
    ∧ Claim.MarkersAndDecisionsAreReceived
    ∧ Claim.BulkStitchesKeepTheirOrder

/-- Devices go down and come up, expectations pass, fabric registers are written. A command whose occasion has
not come leaves the state as it stands: the model's choice, log entry 2. -/
def Obligations.DevicesAndFabricRegisters : Prop :=
  Claim.DevicesGoDownAndExpectationsPass
    ∧ Claim.FabricRegisterWrites

/-- Kenper-M answers once; links and rates follow their events. A command whose occasion has not come leaves
the state as it stands: the model's choice, log entry 2. -/
def Obligations.KenperMAndItsLinks : Prop :=
  Claim.KenperMAnswersOnce
    ∧ Claim.LinksAndRatesFollowTheirEvents

end
end

