-- ==== Sys2Proof/Laws/State.lean ====
section
/-! SUPPORT. What each named update of the state leaves unchanged: one lemma for each field and each
update, true by definition. -/

namespace Sys2Proof.Machine

/-! `setReg`. -/

@[simp] theorem State.setReg_pending (s : State) (r : Reg) (w : Word) : (s.setReg r w).pending = s.pending := rfl
@[simp] theorem State.setReg_tick (s : State) (r : Reg) (w : Word) : (s.setReg r w).tick = s.tick := rfl
@[simp] theorem State.setReg_ft (s : State) (r : Reg) (w : Word) : (s.setReg r w).ft = s.ft := rfl
@[simp] theorem State.setReg_ftWas (s : State) (r : Reg) (w : Word) : (s.setReg r w).ftWas = s.ftWas := rfl
@[simp] theorem State.setReg_ptpNs (s : State) (r : Reg) (w : Word) : (s.setReg r w).ptpNs = s.ptpNs := rfl
@[simp] theorem State.setReg_ptpFrac (s : State) (r : Reg) (w : Word) : (s.setReg r w).ptpFrac = s.ptpFrac := rfl
@[simp] theorem State.setReg_ptpStepNext (s : State) (r : Reg) (w : Word) : (s.setReg r w).ptpStepNext = s.ptpStepNext := rfl
@[simp] theorem State.setReg_ptpMarks (s : State) (r : Reg) (w : Word) : (s.setReg r w).ptpMarks = s.ptpMarks := rfl
@[simp] theorem State.setReg_ptpGood (s : State) (r : Reg) (w : Word) : (s.setReg r w).ptpGood = s.ptpGood := rfl
@[simp] theorem State.setReg_ptpBad (s : State) (r : Reg) (w : Word) : (s.setReg r w).ptpBad = s.ptpBad := rfl
@[simp] theorem State.setReg_ptpRun (s : State) (r : Reg) (w : Word) : (s.setReg r w).ptpRun = s.ptpRun := rfl
@[simp] theorem State.setReg_syncLoad (s : State) (r : Reg) (w : Word) : (s.setReg r w).syncLoad = s.syncLoad := rfl
@[simp] theorem State.setReg_ftJump (s : State) (r : Reg) (w : Word) : (s.setReg r w).ftJump = s.ftJump := rfl
@[simp] theorem State.setReg_skewRun (s : State) (r : Reg) (w : Word) : (s.setReg r w).skewRun = s.skewRun := rfl
@[simp] theorem State.setReg_skewRem (s : State) (r : Reg) (w : Word) : (s.setReg r w).skewRem = s.skewRem := rfl
@[simp] theorem State.setReg_xtal (s : State) (r : Reg) (w : Word) : (s.setReg r w).xtal = s.xtal := rfl
@[simp] theorem State.setReg_latchTick (s : State) (r : Reg) (w : Word) : (s.setReg r w).latchTick = s.latchTick := rfl
@[simp] theorem State.setReg_pwrRun (s : State) (r : Reg) (w : Word) : (s.setReg r w).pwrRun = s.pwrRun := rfl
@[simp] theorem State.setReg_linkSeq (s : State) (r : Reg) (w : Word) : (s.setReg r w).linkSeq = s.linkSeq := rfl
@[simp] theorem State.setReg_shadows (s : State) (r : Reg) (w : Word) : (s.setReg r w).shadows = s.shadows := rfl
@[simp] theorem State.setReg_mem (s : State) (r : Reg) (w : Word) : (s.setReg r w).mem = s.mem := rfl
@[simp] theorem State.setReg_poison (s : State) (r : Reg) (w : Word) : (s.setReg r w).poison = s.poison := rfl
@[simp] theorem State.setReg_dirStage (s : State) (r : Reg) (w : Word) : (s.setReg r w).dirStage = s.dirStage := rfl
@[simp] theorem State.setReg_entries (s : State) (r : Reg) (w : Word) : (s.setReg r w).entries = s.entries := rfl
@[simp] theorem State.setReg_entry0 (s : State) (r : Reg) (w : Word) : (s.setReg r w).entry0 = s.entry0 := rfl
@[simp] theorem State.setReg_threads (s : State) (r : Reg) (w : Word) : (s.setReg r w).threads = s.threads := rfl
@[simp] theorem State.setReg_ordSlot (s : State) (r : Reg) (w : Word) : (s.setReg r w).ordSlot = s.ordSlot := rfl
@[simp] theorem State.setReg_priSlot (s : State) (r : Reg) (w : Word) : (s.setReg r w).priSlot = s.priSlot := rfl
@[simp] theorem State.setReg_shots (s : State) (r : Reg) (w : Word) : (s.setReg r w).shots = s.shots := rfl
@[simp] theorem State.setReg_nextShot (s : State) (r : Reg) (w : Word) : (s.setReg r w).nextShot = s.nextShot := rfl
@[simp] theorem State.setReg_acts (s : State) (r : Reg) (w : Word) : (s.setReg r w).acts = s.acts := rfl
@[simp] theorem State.setReg_plays (s : State) (r : Reg) (w : Word) : (s.setReg r w).plays = s.plays := rfl
@[simp] theorem State.setReg_skirts (s : State) (r : Reg) (w : Word) : (s.setReg r w).skirts = s.skirts := rfl
@[simp] theorem State.setReg_envRead (s : State) (r : Reg) (w : Word) : (s.setReg r w).envRead = s.envRead := rfl
@[simp] theorem State.setReg_staged (s : State) (r : Reg) (w : Word) : (s.setReg r w).staged = s.staged := rfl
@[simp] theorem State.setReg_pulses (s : State) (r : Reg) (w : Word) : (s.setReg r w).pulses = s.pulses := rfl
@[simp] theorem State.setReg_marker (s : State) (r : Reg) (w : Word) : (s.setReg r w).marker = s.marker := rfl
@[simp] theorem State.setReg_dacOut (s : State) (r : Reg) (w : Word) : (s.setReg r w).dacOut = s.dacOut := rfl
@[simp] theorem State.setReg_bobs (s : State) (r : Reg) (w : Word) : (s.setReg r w).bobs = s.bobs := rfl
@[simp] theorem State.setReg_slots (s : State) (r : Reg) (w : Word) : (s.setReg r w).slots = s.slots := rfl
@[simp] theorem State.setReg_ledger (s : State) (r : Reg) (w : Word) : (s.setReg r w).ledger = s.ledger := rfl
@[simp] theorem State.setReg_decTick (s : State) (r : Reg) (w : Word) : (s.setReg r w).decTick = s.decTick := rfl
@[simp] theorem State.setReg_ledgerOld (s : State) (r : Reg) (w : Word) : (s.setReg r w).ledgerOld = s.ledgerOld := rfl
@[simp] theorem State.setReg_ledgerTick (s : State) (r : Reg) (w : Word) : (s.setReg r w).ledgerTick = s.ledgerTick := rfl
@[simp] theorem State.setReg_windows (s : State) (r : Reg) (w : Word) : (s.setReg r w).windows = s.windows := rfl
@[simp] theorem State.setReg_acqReqs (s : State) (r : Reg) (w : Word) : (s.setReg r w).acqReqs = s.acqReqs := rfl
@[simp] theorem State.setReg_demodPend (s : State) (r : Reg) (w : Word) : (s.setReg r w).demodPend = s.demodPend := rfl
@[simp] theorem State.setReg_demodBank (s : State) (r : Reg) (w : Word) : (s.setReg r w).demodBank = s.demodBank := rfl
@[simp] theorem State.setReg_corrPend (s : State) (r : Reg) (w : Word) : (s.setReg r w).corrPend = s.corrPend := rfl
@[simp] theorem State.setReg_corrOnce (s : State) (r : Reg) (w : Word) : (s.setReg r w).corrOnce = s.corrOnce := rfl
@[simp] theorem State.setReg_corrHist (s : State) (r : Reg) (w : Word) : (s.setReg r w).corrHist = s.corrHist := rfl
@[simp] theorem State.setReg_adcHist (s : State) (r : Reg) (w : Word) : (s.setReg r w).adcHist = s.adcHist := rfl
@[simp] theorem State.setReg_trains (s : State) (r : Reg) (w : Word) : (s.setReg r w).trains = s.trains := rfl
@[simp] theorem State.setReg_traces (s : State) (r : Reg) (w : Word) : (s.setReg r w).traces = s.traces := rfl
@[simp] theorem State.setReg_packs (s : State) (r : Reg) (w : Word) : (s.setReg r w).packs = s.packs := rfl
@[simp] theorem State.setReg_ancs (s : State) (r : Reg) (w : Word) : (s.setReg r w).ancs = s.ancs := rfl
@[simp] theorem State.setReg_patchMode (s : State) (r : Reg) (w : Word) : (s.setReg r w).patchMode = s.patchMode := rfl
@[simp] theorem State.setReg_assemblies (s : State) (r : Reg) (w : Word) : (s.setReg r w).assemblies = s.assemblies := rfl
@[simp] theorem State.setReg_patchTick (s : State) (r : Reg) (w : Word) : (s.setReg r w).patchTick = s.patchTick := rfl
@[simp] theorem State.setReg_lanes (s : State) (r : Reg) (w : Word) : (s.setReg r w).lanes = s.lanes := rfl
@[simp] theorem State.setReg_deliveries (s : State) (r : Reg) (w : Word) : (s.setReg r w).deliveries = s.deliveries := rfl
@[simp] theorem State.setReg_delivered (s : State) (r : Reg) (w : Word) : (s.setReg r w).delivered = s.delivered := rfl
@[simp] theorem State.setReg_exps (s : State) (r : Reg) (w : Word) : (s.setReg r w).exps = s.exps := rfl
@[simp] theorem State.setReg_rxrStage (s : State) (r : Reg) (w : Word) : (s.setReg r w).rxrStage = s.rxrStage := rfl
@[simp] theorem State.setReg_rxrOld (s : State) (r : Reg) (w : Word) : (s.setReg r w).rxrOld = s.rxrOld := rfl
@[simp] theorem State.setReg_bars (s : State) (r : Reg) (w : Word) : (s.setReg r w).bars = s.bars := rfl
@[simp] theorem State.setReg_fluxRuns (s : State) (r : Reg) (w : Word) : (s.setReg r w).fluxRuns = s.fluxRuns := rfl
@[simp] theorem State.setReg_fits (s : State) (r : Reg) (w : Word) : (s.setReg r w).fits = s.fits := rfl
@[simp] theorem State.setReg_biasOuts (s : State) (r : Reg) (w : Word) : (s.setReg r w).biasOuts = s.biasOuts := rfl
@[simp] theorem State.setReg_scrubPos (s : State) (r : Reg) (w : Word) : (s.setReg r w).scrubPos = s.scrubPos := rfl
@[simp] theorem State.setReg_tdcUnits (s : State) (r : Reg) (w : Word) : (s.setReg r w).tdcUnits = s.tdcUnits := rfl
@[simp] theorem State.setReg_tdcLast (s : State) (r : Reg) (w : Word) : (s.setReg r w).tdcLast = s.tdcLast := rfl
@[simp] theorem State.setReg_calHigh (s : State) (r : Reg) (w : Word) : (s.setReg r w).calHigh = s.calHigh := rfl
@[simp] theorem State.setReg_tdcEdges (s : State) (r : Reg) (w : Word) : (s.setReg r w).tdcEdges = s.tdcEdges := rfl
@[simp] theorem State.setReg_tdcResults (s : State) (r : Reg) (w : Word) : (s.setReg r w).tdcResults = s.tdcResults := rfl
@[simp] theorem State.setReg_mons (s : State) (r : Reg) (w : Word) : (s.setReg r w).mons = s.mons := rfl
@[simp] theorem State.setReg_monLine (s : State) (r : Reg) (w : Word) : (s.setReg r w).monLine = s.monLine := rfl
@[simp] theorem State.setReg_monLast (s : State) (r : Reg) (w : Word) : (s.setReg r w).monLast = s.monLast := rfl
@[simp] theorem State.setReg_evLog (s : State) (r : Reg) (w : Word) : (s.setReg r w).evLog = s.evLog := rfl
@[simp] theorem State.setReg_asyncNow (s : State) (r : Reg) (w : Word) : (s.setReg r w).asyncNow = s.asyncNow := rfl
@[simp] theorem State.setReg_tacks (s : State) (r : Reg) (w : Word) : (s.setReg r w).tacks = s.tacks := rfl
@[simp] theorem State.setReg_timers (s : State) (r : Reg) (w : Word) : (s.setReg r w).timers = s.timers := rfl
@[simp] theorem State.setReg_seamPipe (s : State) (r : Reg) (w : Word) : (s.setReg r w).seamPipe = s.seamPipe := rfl
@[simp] theorem State.setReg_seamNow (s : State) (r : Reg) (w : Word) : (s.setReg r w).seamNow = s.seamNow := rfl
@[simp] theorem State.setReg_seamOld (s : State) (r : Reg) (w : Word) : (s.setReg r w).seamOld = s.seamOld := rfl
@[simp] theorem State.setReg_seamLevels (s : State) (r : Reg) (w : Word) : (s.setReg r w).seamLevels = s.seamLevels := rfl
@[simp] theorem State.setReg_seamMarks (s : State) (r : Reg) (w : Word) : (s.setReg r w).seamMarks = s.seamMarks := rfl
@[simp] theorem State.setReg_wakeDue (s : State) (r : Reg) (w : Word) : (s.setReg r w).wakeDue = s.wakeDue := rfl
@[simp] theorem State.setReg_lostNow (s : State) (r : Reg) (w : Word) : (s.setReg r w).lostNow = s.lostNow := rfl
@[simp] theorem State.setReg_phase (s : State) (r : Reg) (w : Word) : (s.setReg r w).phase = s.phase := rfl
@[simp] theorem State.setReg_seamRaised (s : State) (r : Reg) (w : Word) : (s.setReg r w).seamRaised = s.seamRaised := rfl
@[simp] theorem State.setReg_kept (s : State) (r : Reg) (w : Word) : (s.setReg r w).kept = s.kept := rfl
@[simp] theorem State.setReg_mExec (s : State) (r : Reg) (w : Word) : (s.setReg r w).mExec = s.mExec := rfl
@[simp] theorem State.setReg_mWait (s : State) (r : Reg) (w : Word) : (s.setReg r w).mWait = s.mWait := rfl
@[simp] theorem State.setReg_qps (s : State) (r : Reg) (w : Word) : (s.setReg r w).qps = s.qps := rfl
@[simp] theorem State.setReg_outReqs (s : State) (r : Reg) (w : Word) : (s.setReg r w).outReqs = s.outReqs := rfl
@[simp] theorem State.setReg_fetched (s : State) (r : Reg) (w : Word) : (s.setReg r w).fetched = s.fetched := rfl
@[simp] theorem State.setReg_begun (s : State) (r : Reg) (w : Word) : (s.setReg r w).begun = s.begun := rfl
@[simp] theorem State.setReg_flying (s : State) (r : Reg) (w : Word) : (s.setReg r w).flying = s.flying := rfl
@[simp] theorem State.setReg_shadowWait (s : State) (r : Reg) (w : Word) : (s.setReg r w).shadowWait = s.shadowWait := rfl
@[simp] theorem State.setReg_cplWait (s : State) (r : Reg) (w : Word) : (s.setReg r w).cplWait = s.cplWait := rfl
@[simp] theorem State.setReg_transfers (s : State) (r : Reg) (w : Word) : (s.setReg r w).transfers = s.transfers := rfl
@[simp] theorem State.setReg_readWait (s : State) (r : Reg) (w : Word) : (s.setReg r w).readWait = s.readWait := rfl
@[simp] theorem State.setReg_extents (s : State) (r : Reg) (w : Word) : (s.setReg r w).extents = s.extents := rfl
@[simp] theorem State.setReg_feedEnd (s : State) (r : Reg) (w : Word) : (s.setReg r w).feedEnd = s.feedEnd := rfl
@[simp] theorem State.setReg_holding (s : State) (r : Reg) (w : Word) : (s.setReg r w).holding = s.holding := rfl
@[simp] theorem State.setReg_rqs (s : State) (r : Reg) (w : Word) : (s.setReg r w).rqs = s.rqs := rfl
@[simp] theorem State.setReg_kenRun (s : State) (r : Reg) (w : Word) : (s.setReg r w).kenRun = s.kenRun := rfl
@[simp] theorem State.setReg_heat (s : State) (r : Reg) (w : Word) : (s.setReg r w).heat = s.heat := rfl
@[simp] theorem State.setReg_synSq (s : State) (r : Reg) (w : Word) : (s.setReg r w).synSq = s.synSq := rfl
@[simp] theorem State.setReg_hw (s : State) (r : Reg) (w : Word) : (s.setReg r w).hw = s.hw := rfl
@[simp] theorem State.setReg_hwQueue (s : State) (r : Reg) (w : Word) : (s.setReg r w).hwQueue = s.hwQueue := rfl
@[simp] theorem State.setReg_hwWrite (s : State) (r : Reg) (w : Word) : (s.setReg r w).hwWrite = s.hwWrite := rfl
@[simp] theorem State.setReg_fuses (s : State) (r : Reg) (w : Word) : (s.setReg r w).fuses = s.fuses := rfl
@[simp] theorem State.setReg_boot (s : State) (r : Reg) (w : Word) : (s.setReg r w).boot = s.boot := rfl
@[simp] theorem State.setReg_out (s : State) (r : Reg) (w : Word) : (s.setReg r w).out = s.out := rfl
@[simp] theorem State.setReg_undef (s : State) (r : Reg) (w : Word) : (s.setReg r w).undef = s.undef := rfl

/-! `wr`. -/

@[simp] theorem State.wr_pending (s : State) (f : RField) (v : Nat) : (s.wr f v).pending = s.pending := rfl
@[simp] theorem State.wr_tick (s : State) (f : RField) (v : Nat) : (s.wr f v).tick = s.tick := rfl
@[simp] theorem State.wr_ft (s : State) (f : RField) (v : Nat) : (s.wr f v).ft = s.ft := rfl
@[simp] theorem State.wr_ftWas (s : State) (f : RField) (v : Nat) : (s.wr f v).ftWas = s.ftWas := rfl
@[simp] theorem State.wr_ptpNs (s : State) (f : RField) (v : Nat) : (s.wr f v).ptpNs = s.ptpNs := rfl
@[simp] theorem State.wr_ptpFrac (s : State) (f : RField) (v : Nat) : (s.wr f v).ptpFrac = s.ptpFrac := rfl
@[simp] theorem State.wr_ptpStepNext (s : State) (f : RField) (v : Nat) : (s.wr f v).ptpStepNext = s.ptpStepNext := rfl
@[simp] theorem State.wr_ptpMarks (s : State) (f : RField) (v : Nat) : (s.wr f v).ptpMarks = s.ptpMarks := rfl
@[simp] theorem State.wr_ptpGood (s : State) (f : RField) (v : Nat) : (s.wr f v).ptpGood = s.ptpGood := rfl
@[simp] theorem State.wr_ptpBad (s : State) (f : RField) (v : Nat) : (s.wr f v).ptpBad = s.ptpBad := rfl
@[simp] theorem State.wr_ptpRun (s : State) (f : RField) (v : Nat) : (s.wr f v).ptpRun = s.ptpRun := rfl
@[simp] theorem State.wr_syncLoad (s : State) (f : RField) (v : Nat) : (s.wr f v).syncLoad = s.syncLoad := rfl
@[simp] theorem State.wr_ftJump (s : State) (f : RField) (v : Nat) : (s.wr f v).ftJump = s.ftJump := rfl
@[simp] theorem State.wr_skewRun (s : State) (f : RField) (v : Nat) : (s.wr f v).skewRun = s.skewRun := rfl
@[simp] theorem State.wr_skewRem (s : State) (f : RField) (v : Nat) : (s.wr f v).skewRem = s.skewRem := rfl
@[simp] theorem State.wr_xtal (s : State) (f : RField) (v : Nat) : (s.wr f v).xtal = s.xtal := rfl
@[simp] theorem State.wr_latchTick (s : State) (f : RField) (v : Nat) : (s.wr f v).latchTick = s.latchTick := rfl
@[simp] theorem State.wr_pwrRun (s : State) (f : RField) (v : Nat) : (s.wr f v).pwrRun = s.pwrRun := rfl
@[simp] theorem State.wr_linkSeq (s : State) (f : RField) (v : Nat) : (s.wr f v).linkSeq = s.linkSeq := rfl
@[simp] theorem State.wr_shadows (s : State) (f : RField) (v : Nat) : (s.wr f v).shadows = s.shadows := rfl
@[simp] theorem State.wr_mem (s : State) (f : RField) (v : Nat) : (s.wr f v).mem = s.mem := rfl
@[simp] theorem State.wr_poison (s : State) (f : RField) (v : Nat) : (s.wr f v).poison = s.poison := rfl
@[simp] theorem State.wr_dirStage (s : State) (f : RField) (v : Nat) : (s.wr f v).dirStage = s.dirStage := rfl
@[simp] theorem State.wr_entries (s : State) (f : RField) (v : Nat) : (s.wr f v).entries = s.entries := rfl
@[simp] theorem State.wr_entry0 (s : State) (f : RField) (v : Nat) : (s.wr f v).entry0 = s.entry0 := rfl
@[simp] theorem State.wr_threads (s : State) (f : RField) (v : Nat) : (s.wr f v).threads = s.threads := rfl
@[simp] theorem State.wr_ordSlot (s : State) (f : RField) (v : Nat) : (s.wr f v).ordSlot = s.ordSlot := rfl
@[simp] theorem State.wr_priSlot (s : State) (f : RField) (v : Nat) : (s.wr f v).priSlot = s.priSlot := rfl
@[simp] theorem State.wr_shots (s : State) (f : RField) (v : Nat) : (s.wr f v).shots = s.shots := rfl
@[simp] theorem State.wr_nextShot (s : State) (f : RField) (v : Nat) : (s.wr f v).nextShot = s.nextShot := rfl
@[simp] theorem State.wr_acts (s : State) (f : RField) (v : Nat) : (s.wr f v).acts = s.acts := rfl
@[simp] theorem State.wr_plays (s : State) (f : RField) (v : Nat) : (s.wr f v).plays = s.plays := rfl
@[simp] theorem State.wr_skirts (s : State) (f : RField) (v : Nat) : (s.wr f v).skirts = s.skirts := rfl
@[simp] theorem State.wr_envRead (s : State) (f : RField) (v : Nat) : (s.wr f v).envRead = s.envRead := rfl
@[simp] theorem State.wr_staged (s : State) (f : RField) (v : Nat) : (s.wr f v).staged = s.staged := rfl
@[simp] theorem State.wr_pulses (s : State) (f : RField) (v : Nat) : (s.wr f v).pulses = s.pulses := rfl
@[simp] theorem State.wr_marker (s : State) (f : RField) (v : Nat) : (s.wr f v).marker = s.marker := rfl
@[simp] theorem State.wr_dacOut (s : State) (f : RField) (v : Nat) : (s.wr f v).dacOut = s.dacOut := rfl
@[simp] theorem State.wr_bobs (s : State) (f : RField) (v : Nat) : (s.wr f v).bobs = s.bobs := rfl
@[simp] theorem State.wr_slots (s : State) (f : RField) (v : Nat) : (s.wr f v).slots = s.slots := rfl
@[simp] theorem State.wr_ledger (s : State) (f : RField) (v : Nat) : (s.wr f v).ledger = s.ledger := rfl
@[simp] theorem State.wr_decTick (s : State) (f : RField) (v : Nat) : (s.wr f v).decTick = s.decTick := rfl
@[simp] theorem State.wr_ledgerOld (s : State) (f : RField) (v : Nat) : (s.wr f v).ledgerOld = s.ledgerOld := rfl
@[simp] theorem State.wr_ledgerTick (s : State) (f : RField) (v : Nat) : (s.wr f v).ledgerTick = s.ledgerTick := rfl
@[simp] theorem State.wr_windows (s : State) (f : RField) (v : Nat) : (s.wr f v).windows = s.windows := rfl
@[simp] theorem State.wr_acqReqs (s : State) (f : RField) (v : Nat) : (s.wr f v).acqReqs = s.acqReqs := rfl
@[simp] theorem State.wr_demodPend (s : State) (f : RField) (v : Nat) : (s.wr f v).demodPend = s.demodPend := rfl
@[simp] theorem State.wr_demodBank (s : State) (f : RField) (v : Nat) : (s.wr f v).demodBank = s.demodBank := rfl
@[simp] theorem State.wr_corrPend (s : State) (f : RField) (v : Nat) : (s.wr f v).corrPend = s.corrPend := rfl
@[simp] theorem State.wr_corrOnce (s : State) (f : RField) (v : Nat) : (s.wr f v).corrOnce = s.corrOnce := rfl
@[simp] theorem State.wr_corrHist (s : State) (f : RField) (v : Nat) : (s.wr f v).corrHist = s.corrHist := rfl
@[simp] theorem State.wr_adcHist (s : State) (f : RField) (v : Nat) : (s.wr f v).adcHist = s.adcHist := rfl
@[simp] theorem State.wr_trains (s : State) (f : RField) (v : Nat) : (s.wr f v).trains = s.trains := rfl
@[simp] theorem State.wr_traces (s : State) (f : RField) (v : Nat) : (s.wr f v).traces = s.traces := rfl
@[simp] theorem State.wr_packs (s : State) (f : RField) (v : Nat) : (s.wr f v).packs = s.packs := rfl
@[simp] theorem State.wr_ancs (s : State) (f : RField) (v : Nat) : (s.wr f v).ancs = s.ancs := rfl
@[simp] theorem State.wr_patchMode (s : State) (f : RField) (v : Nat) : (s.wr f v).patchMode = s.patchMode := rfl
@[simp] theorem State.wr_assemblies (s : State) (f : RField) (v : Nat) : (s.wr f v).assemblies = s.assemblies := rfl
@[simp] theorem State.wr_patchTick (s : State) (f : RField) (v : Nat) : (s.wr f v).patchTick = s.patchTick := rfl
@[simp] theorem State.wr_lanes (s : State) (f : RField) (v : Nat) : (s.wr f v).lanes = s.lanes := rfl
@[simp] theorem State.wr_deliveries (s : State) (f : RField) (v : Nat) : (s.wr f v).deliveries = s.deliveries := rfl
@[simp] theorem State.wr_delivered (s : State) (f : RField) (v : Nat) : (s.wr f v).delivered = s.delivered := rfl
@[simp] theorem State.wr_exps (s : State) (f : RField) (v : Nat) : (s.wr f v).exps = s.exps := rfl
@[simp] theorem State.wr_rxrStage (s : State) (f : RField) (v : Nat) : (s.wr f v).rxrStage = s.rxrStage := rfl
@[simp] theorem State.wr_rxrOld (s : State) (f : RField) (v : Nat) : (s.wr f v).rxrOld = s.rxrOld := rfl
@[simp] theorem State.wr_bars (s : State) (f : RField) (v : Nat) : (s.wr f v).bars = s.bars := rfl
@[simp] theorem State.wr_fluxRuns (s : State) (f : RField) (v : Nat) : (s.wr f v).fluxRuns = s.fluxRuns := rfl
@[simp] theorem State.wr_fits (s : State) (f : RField) (v : Nat) : (s.wr f v).fits = s.fits := rfl
@[simp] theorem State.wr_biasOuts (s : State) (f : RField) (v : Nat) : (s.wr f v).biasOuts = s.biasOuts := rfl
@[simp] theorem State.wr_scrubPos (s : State) (f : RField) (v : Nat) : (s.wr f v).scrubPos = s.scrubPos := rfl
@[simp] theorem State.wr_tdcUnits (s : State) (f : RField) (v : Nat) : (s.wr f v).tdcUnits = s.tdcUnits := rfl
@[simp] theorem State.wr_tdcLast (s : State) (f : RField) (v : Nat) : (s.wr f v).tdcLast = s.tdcLast := rfl
@[simp] theorem State.wr_calHigh (s : State) (f : RField) (v : Nat) : (s.wr f v).calHigh = s.calHigh := rfl
@[simp] theorem State.wr_tdcEdges (s : State) (f : RField) (v : Nat) : (s.wr f v).tdcEdges = s.tdcEdges := rfl
@[simp] theorem State.wr_tdcResults (s : State) (f : RField) (v : Nat) : (s.wr f v).tdcResults = s.tdcResults := rfl
@[simp] theorem State.wr_mons (s : State) (f : RField) (v : Nat) : (s.wr f v).mons = s.mons := rfl
@[simp] theorem State.wr_monLine (s : State) (f : RField) (v : Nat) : (s.wr f v).monLine = s.monLine := rfl
@[simp] theorem State.wr_monLast (s : State) (f : RField) (v : Nat) : (s.wr f v).monLast = s.monLast := rfl
@[simp] theorem State.wr_evLog (s : State) (f : RField) (v : Nat) : (s.wr f v).evLog = s.evLog := rfl
@[simp] theorem State.wr_asyncNow (s : State) (f : RField) (v : Nat) : (s.wr f v).asyncNow = s.asyncNow := rfl
@[simp] theorem State.wr_tacks (s : State) (f : RField) (v : Nat) : (s.wr f v).tacks = s.tacks := rfl
@[simp] theorem State.wr_timers (s : State) (f : RField) (v : Nat) : (s.wr f v).timers = s.timers := rfl
@[simp] theorem State.wr_seamPipe (s : State) (f : RField) (v : Nat) : (s.wr f v).seamPipe = s.seamPipe := rfl
@[simp] theorem State.wr_seamNow (s : State) (f : RField) (v : Nat) : (s.wr f v).seamNow = s.seamNow := rfl
@[simp] theorem State.wr_seamOld (s : State) (f : RField) (v : Nat) : (s.wr f v).seamOld = s.seamOld := rfl
@[simp] theorem State.wr_seamLevels (s : State) (f : RField) (v : Nat) : (s.wr f v).seamLevels = s.seamLevels := rfl
@[simp] theorem State.wr_seamMarks (s : State) (f : RField) (v : Nat) : (s.wr f v).seamMarks = s.seamMarks := rfl
@[simp] theorem State.wr_wakeDue (s : State) (f : RField) (v : Nat) : (s.wr f v).wakeDue = s.wakeDue := rfl
@[simp] theorem State.wr_lostNow (s : State) (f : RField) (v : Nat) : (s.wr f v).lostNow = s.lostNow := rfl
@[simp] theorem State.wr_phase (s : State) (f : RField) (v : Nat) : (s.wr f v).phase = s.phase := rfl
@[simp] theorem State.wr_seamRaised (s : State) (f : RField) (v : Nat) : (s.wr f v).seamRaised = s.seamRaised := rfl
@[simp] theorem State.wr_kept (s : State) (f : RField) (v : Nat) : (s.wr f v).kept = s.kept := rfl
@[simp] theorem State.wr_mExec (s : State) (f : RField) (v : Nat) : (s.wr f v).mExec = s.mExec := rfl
@[simp] theorem State.wr_mWait (s : State) (f : RField) (v : Nat) : (s.wr f v).mWait = s.mWait := rfl
@[simp] theorem State.wr_qps (s : State) (f : RField) (v : Nat) : (s.wr f v).qps = s.qps := rfl
@[simp] theorem State.wr_outReqs (s : State) (f : RField) (v : Nat) : (s.wr f v).outReqs = s.outReqs := rfl
@[simp] theorem State.wr_fetched (s : State) (f : RField) (v : Nat) : (s.wr f v).fetched = s.fetched := rfl
@[simp] theorem State.wr_begun (s : State) (f : RField) (v : Nat) : (s.wr f v).begun = s.begun := rfl
@[simp] theorem State.wr_flying (s : State) (f : RField) (v : Nat) : (s.wr f v).flying = s.flying := rfl
@[simp] theorem State.wr_shadowWait (s : State) (f : RField) (v : Nat) : (s.wr f v).shadowWait = s.shadowWait := rfl
@[simp] theorem State.wr_cplWait (s : State) (f : RField) (v : Nat) : (s.wr f v).cplWait = s.cplWait := rfl
@[simp] theorem State.wr_transfers (s : State) (f : RField) (v : Nat) : (s.wr f v).transfers = s.transfers := rfl
@[simp] theorem State.wr_readWait (s : State) (f : RField) (v : Nat) : (s.wr f v).readWait = s.readWait := rfl
@[simp] theorem State.wr_extents (s : State) (f : RField) (v : Nat) : (s.wr f v).extents = s.extents := rfl
@[simp] theorem State.wr_feedEnd (s : State) (f : RField) (v : Nat) : (s.wr f v).feedEnd = s.feedEnd := rfl
@[simp] theorem State.wr_holding (s : State) (f : RField) (v : Nat) : (s.wr f v).holding = s.holding := rfl
@[simp] theorem State.wr_rqs (s : State) (f : RField) (v : Nat) : (s.wr f v).rqs = s.rqs := rfl
@[simp] theorem State.wr_kenRun (s : State) (f : RField) (v : Nat) : (s.wr f v).kenRun = s.kenRun := rfl
@[simp] theorem State.wr_heat (s : State) (f : RField) (v : Nat) : (s.wr f v).heat = s.heat := rfl
@[simp] theorem State.wr_synSq (s : State) (f : RField) (v : Nat) : (s.wr f v).synSq = s.synSq := rfl
@[simp] theorem State.wr_hw (s : State) (f : RField) (v : Nat) : (s.wr f v).hw = s.hw := rfl
@[simp] theorem State.wr_hwQueue (s : State) (f : RField) (v : Nat) : (s.wr f v).hwQueue = s.hwQueue := rfl
@[simp] theorem State.wr_hwWrite (s : State) (f : RField) (v : Nat) : (s.wr f v).hwWrite = s.hwWrite := rfl
@[simp] theorem State.wr_fuses (s : State) (f : RField) (v : Nat) : (s.wr f v).fuses = s.fuses := rfl
@[simp] theorem State.wr_boot (s : State) (f : RField) (v : Nat) : (s.wr f v).boot = s.boot := rfl
@[simp] theorem State.wr_out (s : State) (f : RField) (v : Nat) : (s.wr f v).out = s.out := rfl
@[simp] theorem State.wr_undef (s : State) (f : RField) (v : Nat) : (s.wr f v).undef = s.undef := rfl

/-! `put`. -/

@[simp] theorem State.put_pending (s : State) (f : RField) (b : Bool) : (s.put f b).pending = s.pending := rfl
@[simp] theorem State.put_tick (s : State) (f : RField) (b : Bool) : (s.put f b).tick = s.tick := rfl
@[simp] theorem State.put_ft (s : State) (f : RField) (b : Bool) : (s.put f b).ft = s.ft := rfl
@[simp] theorem State.put_ftWas (s : State) (f : RField) (b : Bool) : (s.put f b).ftWas = s.ftWas := rfl
@[simp] theorem State.put_ptpNs (s : State) (f : RField) (b : Bool) : (s.put f b).ptpNs = s.ptpNs := rfl
@[simp] theorem State.put_ptpFrac (s : State) (f : RField) (b : Bool) : (s.put f b).ptpFrac = s.ptpFrac := rfl
@[simp] theorem State.put_ptpStepNext (s : State) (f : RField) (b : Bool) : (s.put f b).ptpStepNext = s.ptpStepNext := rfl
@[simp] theorem State.put_ptpMarks (s : State) (f : RField) (b : Bool) : (s.put f b).ptpMarks = s.ptpMarks := rfl
@[simp] theorem State.put_ptpGood (s : State) (f : RField) (b : Bool) : (s.put f b).ptpGood = s.ptpGood := rfl
@[simp] theorem State.put_ptpBad (s : State) (f : RField) (b : Bool) : (s.put f b).ptpBad = s.ptpBad := rfl
@[simp] theorem State.put_ptpRun (s : State) (f : RField) (b : Bool) : (s.put f b).ptpRun = s.ptpRun := rfl
@[simp] theorem State.put_syncLoad (s : State) (f : RField) (b : Bool) : (s.put f b).syncLoad = s.syncLoad := rfl
@[simp] theorem State.put_ftJump (s : State) (f : RField) (b : Bool) : (s.put f b).ftJump = s.ftJump := rfl
@[simp] theorem State.put_skewRun (s : State) (f : RField) (b : Bool) : (s.put f b).skewRun = s.skewRun := rfl
@[simp] theorem State.put_skewRem (s : State) (f : RField) (b : Bool) : (s.put f b).skewRem = s.skewRem := rfl
@[simp] theorem State.put_xtal (s : State) (f : RField) (b : Bool) : (s.put f b).xtal = s.xtal := rfl
@[simp] theorem State.put_latchTick (s : State) (f : RField) (b : Bool) : (s.put f b).latchTick = s.latchTick := rfl
@[simp] theorem State.put_pwrRun (s : State) (f : RField) (b : Bool) : (s.put f b).pwrRun = s.pwrRun := rfl
@[simp] theorem State.put_linkSeq (s : State) (f : RField) (b : Bool) : (s.put f b).linkSeq = s.linkSeq := rfl
@[simp] theorem State.put_shadows (s : State) (f : RField) (b : Bool) : (s.put f b).shadows = s.shadows := rfl
@[simp] theorem State.put_mem (s : State) (f : RField) (b : Bool) : (s.put f b).mem = s.mem := rfl
@[simp] theorem State.put_poison (s : State) (f : RField) (b : Bool) : (s.put f b).poison = s.poison := rfl
@[simp] theorem State.put_dirStage (s : State) (f : RField) (b : Bool) : (s.put f b).dirStage = s.dirStage := rfl
@[simp] theorem State.put_entries (s : State) (f : RField) (b : Bool) : (s.put f b).entries = s.entries := rfl
@[simp] theorem State.put_entry0 (s : State) (f : RField) (b : Bool) : (s.put f b).entry0 = s.entry0 := rfl
@[simp] theorem State.put_threads (s : State) (f : RField) (b : Bool) : (s.put f b).threads = s.threads := rfl
@[simp] theorem State.put_ordSlot (s : State) (f : RField) (b : Bool) : (s.put f b).ordSlot = s.ordSlot := rfl
@[simp] theorem State.put_priSlot (s : State) (f : RField) (b : Bool) : (s.put f b).priSlot = s.priSlot := rfl
@[simp] theorem State.put_shots (s : State) (f : RField) (b : Bool) : (s.put f b).shots = s.shots := rfl
@[simp] theorem State.put_nextShot (s : State) (f : RField) (b : Bool) : (s.put f b).nextShot = s.nextShot := rfl
@[simp] theorem State.put_acts (s : State) (f : RField) (b : Bool) : (s.put f b).acts = s.acts := rfl
@[simp] theorem State.put_plays (s : State) (f : RField) (b : Bool) : (s.put f b).plays = s.plays := rfl
@[simp] theorem State.put_skirts (s : State) (f : RField) (b : Bool) : (s.put f b).skirts = s.skirts := rfl
@[simp] theorem State.put_envRead (s : State) (f : RField) (b : Bool) : (s.put f b).envRead = s.envRead := rfl
@[simp] theorem State.put_staged (s : State) (f : RField) (b : Bool) : (s.put f b).staged = s.staged := rfl
@[simp] theorem State.put_pulses (s : State) (f : RField) (b : Bool) : (s.put f b).pulses = s.pulses := rfl
@[simp] theorem State.put_marker (s : State) (f : RField) (b : Bool) : (s.put f b).marker = s.marker := rfl
@[simp] theorem State.put_dacOut (s : State) (f : RField) (b : Bool) : (s.put f b).dacOut = s.dacOut := rfl
@[simp] theorem State.put_bobs (s : State) (f : RField) (b : Bool) : (s.put f b).bobs = s.bobs := rfl
@[simp] theorem State.put_slots (s : State) (f : RField) (b : Bool) : (s.put f b).slots = s.slots := rfl
@[simp] theorem State.put_ledger (s : State) (f : RField) (b : Bool) : (s.put f b).ledger = s.ledger := rfl
@[simp] theorem State.put_decTick (s : State) (f : RField) (b : Bool) : (s.put f b).decTick = s.decTick := rfl
@[simp] theorem State.put_ledgerOld (s : State) (f : RField) (b : Bool) : (s.put f b).ledgerOld = s.ledgerOld := rfl
@[simp] theorem State.put_ledgerTick (s : State) (f : RField) (b : Bool) : (s.put f b).ledgerTick = s.ledgerTick := rfl
@[simp] theorem State.put_windows (s : State) (f : RField) (b : Bool) : (s.put f b).windows = s.windows := rfl
@[simp] theorem State.put_acqReqs (s : State) (f : RField) (b : Bool) : (s.put f b).acqReqs = s.acqReqs := rfl
@[simp] theorem State.put_demodPend (s : State) (f : RField) (b : Bool) : (s.put f b).demodPend = s.demodPend := rfl
@[simp] theorem State.put_demodBank (s : State) (f : RField) (b : Bool) : (s.put f b).demodBank = s.demodBank := rfl
@[simp] theorem State.put_corrPend (s : State) (f : RField) (b : Bool) : (s.put f b).corrPend = s.corrPend := rfl
@[simp] theorem State.put_corrOnce (s : State) (f : RField) (b : Bool) : (s.put f b).corrOnce = s.corrOnce := rfl
@[simp] theorem State.put_corrHist (s : State) (f : RField) (b : Bool) : (s.put f b).corrHist = s.corrHist := rfl
@[simp] theorem State.put_adcHist (s : State) (f : RField) (b : Bool) : (s.put f b).adcHist = s.adcHist := rfl
@[simp] theorem State.put_trains (s : State) (f : RField) (b : Bool) : (s.put f b).trains = s.trains := rfl
@[simp] theorem State.put_traces (s : State) (f : RField) (b : Bool) : (s.put f b).traces = s.traces := rfl
@[simp] theorem State.put_packs (s : State) (f : RField) (b : Bool) : (s.put f b).packs = s.packs := rfl
@[simp] theorem State.put_ancs (s : State) (f : RField) (b : Bool) : (s.put f b).ancs = s.ancs := rfl
@[simp] theorem State.put_patchMode (s : State) (f : RField) (b : Bool) : (s.put f b).patchMode = s.patchMode := rfl
@[simp] theorem State.put_assemblies (s : State) (f : RField) (b : Bool) : (s.put f b).assemblies = s.assemblies := rfl
@[simp] theorem State.put_patchTick (s : State) (f : RField) (b : Bool) : (s.put f b).patchTick = s.patchTick := rfl
@[simp] theorem State.put_lanes (s : State) (f : RField) (b : Bool) : (s.put f b).lanes = s.lanes := rfl
@[simp] theorem State.put_deliveries (s : State) (f : RField) (b : Bool) : (s.put f b).deliveries = s.deliveries := rfl
@[simp] theorem State.put_delivered (s : State) (f : RField) (b : Bool) : (s.put f b).delivered = s.delivered := rfl
@[simp] theorem State.put_exps (s : State) (f : RField) (b : Bool) : (s.put f b).exps = s.exps := rfl
@[simp] theorem State.put_rxrStage (s : State) (f : RField) (b : Bool) : (s.put f b).rxrStage = s.rxrStage := rfl
@[simp] theorem State.put_rxrOld (s : State) (f : RField) (b : Bool) : (s.put f b).rxrOld = s.rxrOld := rfl
@[simp] theorem State.put_bars (s : State) (f : RField) (b : Bool) : (s.put f b).bars = s.bars := rfl
@[simp] theorem State.put_fluxRuns (s : State) (f : RField) (b : Bool) : (s.put f b).fluxRuns = s.fluxRuns := rfl
@[simp] theorem State.put_fits (s : State) (f : RField) (b : Bool) : (s.put f b).fits = s.fits := rfl
@[simp] theorem State.put_biasOuts (s : State) (f : RField) (b : Bool) : (s.put f b).biasOuts = s.biasOuts := rfl
@[simp] theorem State.put_scrubPos (s : State) (f : RField) (b : Bool) : (s.put f b).scrubPos = s.scrubPos := rfl
@[simp] theorem State.put_tdcUnits (s : State) (f : RField) (b : Bool) : (s.put f b).tdcUnits = s.tdcUnits := rfl
@[simp] theorem State.put_tdcLast (s : State) (f : RField) (b : Bool) : (s.put f b).tdcLast = s.tdcLast := rfl
@[simp] theorem State.put_calHigh (s : State) (f : RField) (b : Bool) : (s.put f b).calHigh = s.calHigh := rfl
@[simp] theorem State.put_tdcEdges (s : State) (f : RField) (b : Bool) : (s.put f b).tdcEdges = s.tdcEdges := rfl
@[simp] theorem State.put_tdcResults (s : State) (f : RField) (b : Bool) : (s.put f b).tdcResults = s.tdcResults := rfl
@[simp] theorem State.put_mons (s : State) (f : RField) (b : Bool) : (s.put f b).mons = s.mons := rfl
@[simp] theorem State.put_monLine (s : State) (f : RField) (b : Bool) : (s.put f b).monLine = s.monLine := rfl
@[simp] theorem State.put_monLast (s : State) (f : RField) (b : Bool) : (s.put f b).monLast = s.monLast := rfl
@[simp] theorem State.put_evLog (s : State) (f : RField) (b : Bool) : (s.put f b).evLog = s.evLog := rfl
@[simp] theorem State.put_asyncNow (s : State) (f : RField) (b : Bool) : (s.put f b).asyncNow = s.asyncNow := rfl
@[simp] theorem State.put_tacks (s : State) (f : RField) (b : Bool) : (s.put f b).tacks = s.tacks := rfl
@[simp] theorem State.put_timers (s : State) (f : RField) (b : Bool) : (s.put f b).timers = s.timers := rfl
@[simp] theorem State.put_seamPipe (s : State) (f : RField) (b : Bool) : (s.put f b).seamPipe = s.seamPipe := rfl
@[simp] theorem State.put_seamNow (s : State) (f : RField) (b : Bool) : (s.put f b).seamNow = s.seamNow := rfl
@[simp] theorem State.put_seamOld (s : State) (f : RField) (b : Bool) : (s.put f b).seamOld = s.seamOld := rfl
@[simp] theorem State.put_seamLevels (s : State) (f : RField) (b : Bool) : (s.put f b).seamLevels = s.seamLevels := rfl
@[simp] theorem State.put_seamMarks (s : State) (f : RField) (b : Bool) : (s.put f b).seamMarks = s.seamMarks := rfl
@[simp] theorem State.put_wakeDue (s : State) (f : RField) (b : Bool) : (s.put f b).wakeDue = s.wakeDue := rfl
@[simp] theorem State.put_lostNow (s : State) (f : RField) (b : Bool) : (s.put f b).lostNow = s.lostNow := rfl
@[simp] theorem State.put_phase (s : State) (f : RField) (b : Bool) : (s.put f b).phase = s.phase := rfl
@[simp] theorem State.put_seamRaised (s : State) (f : RField) (b : Bool) : (s.put f b).seamRaised = s.seamRaised := rfl
@[simp] theorem State.put_kept (s : State) (f : RField) (b : Bool) : (s.put f b).kept = s.kept := rfl
@[simp] theorem State.put_mExec (s : State) (f : RField) (b : Bool) : (s.put f b).mExec = s.mExec := rfl
@[simp] theorem State.put_mWait (s : State) (f : RField) (b : Bool) : (s.put f b).mWait = s.mWait := rfl
@[simp] theorem State.put_qps (s : State) (f : RField) (b : Bool) : (s.put f b).qps = s.qps := rfl
@[simp] theorem State.put_outReqs (s : State) (f : RField) (b : Bool) : (s.put f b).outReqs = s.outReqs := rfl
@[simp] theorem State.put_fetched (s : State) (f : RField) (b : Bool) : (s.put f b).fetched = s.fetched := rfl
@[simp] theorem State.put_begun (s : State) (f : RField) (b : Bool) : (s.put f b).begun = s.begun := rfl
@[simp] theorem State.put_flying (s : State) (f : RField) (b : Bool) : (s.put f b).flying = s.flying := rfl
@[simp] theorem State.put_shadowWait (s : State) (f : RField) (b : Bool) : (s.put f b).shadowWait = s.shadowWait := rfl
@[simp] theorem State.put_cplWait (s : State) (f : RField) (b : Bool) : (s.put f b).cplWait = s.cplWait := rfl
@[simp] theorem State.put_transfers (s : State) (f : RField) (b : Bool) : (s.put f b).transfers = s.transfers := rfl
@[simp] theorem State.put_readWait (s : State) (f : RField) (b : Bool) : (s.put f b).readWait = s.readWait := rfl
@[simp] theorem State.put_extents (s : State) (f : RField) (b : Bool) : (s.put f b).extents = s.extents := rfl
@[simp] theorem State.put_feedEnd (s : State) (f : RField) (b : Bool) : (s.put f b).feedEnd = s.feedEnd := rfl
@[simp] theorem State.put_holding (s : State) (f : RField) (b : Bool) : (s.put f b).holding = s.holding := rfl
@[simp] theorem State.put_rqs (s : State) (f : RField) (b : Bool) : (s.put f b).rqs = s.rqs := rfl
@[simp] theorem State.put_kenRun (s : State) (f : RField) (b : Bool) : (s.put f b).kenRun = s.kenRun := rfl
@[simp] theorem State.put_heat (s : State) (f : RField) (b : Bool) : (s.put f b).heat = s.heat := rfl
@[simp] theorem State.put_synSq (s : State) (f : RField) (b : Bool) : (s.put f b).synSq = s.synSq := rfl
@[simp] theorem State.put_hw (s : State) (f : RField) (b : Bool) : (s.put f b).hw = s.hw := rfl
@[simp] theorem State.put_hwQueue (s : State) (f : RField) (b : Bool) : (s.put f b).hwQueue = s.hwQueue := rfl
@[simp] theorem State.put_hwWrite (s : State) (f : RField) (b : Bool) : (s.put f b).hwWrite = s.hwWrite := rfl
@[simp] theorem State.put_fuses (s : State) (f : RField) (b : Bool) : (s.put f b).fuses = s.fuses := rfl
@[simp] theorem State.put_boot (s : State) (f : RField) (b : Bool) : (s.put f b).boot = s.boot := rfl
@[simp] theorem State.put_out (s : State) (f : RField) (b : Bool) : (s.put f b).out = s.out := rfl
@[simp] theorem State.put_undef (s : State) (f : RField) (b : Bool) : (s.put f b).undef = s.undef := rfl

/-! `bumpBy`. -/

@[simp] theorem State.bumpBy_pending (s : State) (f : RField) (n : Nat) : (s.bumpBy f n).pending = s.pending := rfl
@[simp] theorem State.bumpBy_tick (s : State) (f : RField) (n : Nat) : (s.bumpBy f n).tick = s.tick := rfl
@[simp] theorem State.bumpBy_ft (s : State) (f : RField) (n : Nat) : (s.bumpBy f n).ft = s.ft := rfl
@[simp] theorem State.bumpBy_ftWas (s : State) (f : RField) (n : Nat) : (s.bumpBy f n).ftWas = s.ftWas := rfl
@[simp] theorem State.bumpBy_ptpNs (s : State) (f : RField) (n : Nat) : (s.bumpBy f n).ptpNs = s.ptpNs := rfl
@[simp] theorem State.bumpBy_ptpFrac (s : State) (f : RField) (n : Nat) : (s.bumpBy f n).ptpFrac = s.ptpFrac := rfl
@[simp] theorem State.bumpBy_ptpStepNext (s : State) (f : RField) (n : Nat) : (s.bumpBy f n).ptpStepNext = s.ptpStepNext := rfl
@[simp] theorem State.bumpBy_ptpMarks (s : State) (f : RField) (n : Nat) : (s.bumpBy f n).ptpMarks = s.ptpMarks := rfl
@[simp] theorem State.bumpBy_ptpGood (s : State) (f : RField) (n : Nat) : (s.bumpBy f n).ptpGood = s.ptpGood := rfl
@[simp] theorem State.bumpBy_ptpBad (s : State) (f : RField) (n : Nat) : (s.bumpBy f n).ptpBad = s.ptpBad := rfl
@[simp] theorem State.bumpBy_ptpRun (s : State) (f : RField) (n : Nat) : (s.bumpBy f n).ptpRun = s.ptpRun := rfl
@[simp] theorem State.bumpBy_syncLoad (s : State) (f : RField) (n : Nat) : (s.bumpBy f n).syncLoad = s.syncLoad := rfl
@[simp] theorem State.bumpBy_ftJump (s : State) (f : RField) (n : Nat) : (s.bumpBy f n).ftJump = s.ftJump := rfl
@[simp] theorem State.bumpBy_skewRun (s : State) (f : RField) (n : Nat) : (s.bumpBy f n).skewRun = s.skewRun := rfl
@[simp] theorem State.bumpBy_skewRem (s : State) (f : RField) (n : Nat) : (s.bumpBy f n).skewRem = s.skewRem := rfl
@[simp] theorem State.bumpBy_xtal (s : State) (f : RField) (n : Nat) : (s.bumpBy f n).xtal = s.xtal := rfl
@[simp] theorem State.bumpBy_latchTick (s : State) (f : RField) (n : Nat) : (s.bumpBy f n).latchTick = s.latchTick := rfl
@[simp] theorem State.bumpBy_pwrRun (s : State) (f : RField) (n : Nat) : (s.bumpBy f n).pwrRun = s.pwrRun := rfl
@[simp] theorem State.bumpBy_linkSeq (s : State) (f : RField) (n : Nat) : (s.bumpBy f n).linkSeq = s.linkSeq := rfl
@[simp] theorem State.bumpBy_shadows (s : State) (f : RField) (n : Nat) : (s.bumpBy f n).shadows = s.shadows := rfl
@[simp] theorem State.bumpBy_mem (s : State) (f : RField) (n : Nat) : (s.bumpBy f n).mem = s.mem := rfl
@[simp] theorem State.bumpBy_poison (s : State) (f : RField) (n : Nat) : (s.bumpBy f n).poison = s.poison := rfl
@[simp] theorem State.bumpBy_dirStage (s : State) (f : RField) (n : Nat) : (s.bumpBy f n).dirStage = s.dirStage := rfl
@[simp] theorem State.bumpBy_entries (s : State) (f : RField) (n : Nat) : (s.bumpBy f n).entries = s.entries := rfl
@[simp] theorem State.bumpBy_entry0 (s : State) (f : RField) (n : Nat) : (s.bumpBy f n).entry0 = s.entry0 := rfl
@[simp] theorem State.bumpBy_threads (s : State) (f : RField) (n : Nat) : (s.bumpBy f n).threads = s.threads := rfl
@[simp] theorem State.bumpBy_ordSlot (s : State) (f : RField) (n : Nat) : (s.bumpBy f n).ordSlot = s.ordSlot := rfl
@[simp] theorem State.bumpBy_priSlot (s : State) (f : RField) (n : Nat) : (s.bumpBy f n).priSlot = s.priSlot := rfl
@[simp] theorem State.bumpBy_shots (s : State) (f : RField) (n : Nat) : (s.bumpBy f n).shots = s.shots := rfl
@[simp] theorem State.bumpBy_nextShot (s : State) (f : RField) (n : Nat) : (s.bumpBy f n).nextShot = s.nextShot := rfl
@[simp] theorem State.bumpBy_acts (s : State) (f : RField) (n : Nat) : (s.bumpBy f n).acts = s.acts := rfl
@[simp] theorem State.bumpBy_plays (s : State) (f : RField) (n : Nat) : (s.bumpBy f n).plays = s.plays := rfl
@[simp] theorem State.bumpBy_skirts (s : State) (f : RField) (n : Nat) : (s.bumpBy f n).skirts = s.skirts := rfl
@[simp] theorem State.bumpBy_envRead (s : State) (f : RField) (n : Nat) : (s.bumpBy f n).envRead = s.envRead := rfl
@[simp] theorem State.bumpBy_staged (s : State) (f : RField) (n : Nat) : (s.bumpBy f n).staged = s.staged := rfl
@[simp] theorem State.bumpBy_pulses (s : State) (f : RField) (n : Nat) : (s.bumpBy f n).pulses = s.pulses := rfl
@[simp] theorem State.bumpBy_marker (s : State) (f : RField) (n : Nat) : (s.bumpBy f n).marker = s.marker := rfl
@[simp] theorem State.bumpBy_dacOut (s : State) (f : RField) (n : Nat) : (s.bumpBy f n).dacOut = s.dacOut := rfl
@[simp] theorem State.bumpBy_bobs (s : State) (f : RField) (n : Nat) : (s.bumpBy f n).bobs = s.bobs := rfl
@[simp] theorem State.bumpBy_slots (s : State) (f : RField) (n : Nat) : (s.bumpBy f n).slots = s.slots := rfl
@[simp] theorem State.bumpBy_ledger (s : State) (f : RField) (n : Nat) : (s.bumpBy f n).ledger = s.ledger := rfl
@[simp] theorem State.bumpBy_decTick (s : State) (f : RField) (n : Nat) : (s.bumpBy f n).decTick = s.decTick := rfl
@[simp] theorem State.bumpBy_ledgerOld (s : State) (f : RField) (n : Nat) : (s.bumpBy f n).ledgerOld = s.ledgerOld := rfl
@[simp] theorem State.bumpBy_ledgerTick (s : State) (f : RField) (n : Nat) : (s.bumpBy f n).ledgerTick = s.ledgerTick := rfl
@[simp] theorem State.bumpBy_windows (s : State) (f : RField) (n : Nat) : (s.bumpBy f n).windows = s.windows := rfl
@[simp] theorem State.bumpBy_acqReqs (s : State) (f : RField) (n : Nat) : (s.bumpBy f n).acqReqs = s.acqReqs := rfl
@[simp] theorem State.bumpBy_demodPend (s : State) (f : RField) (n : Nat) : (s.bumpBy f n).demodPend = s.demodPend := rfl
@[simp] theorem State.bumpBy_demodBank (s : State) (f : RField) (n : Nat) : (s.bumpBy f n).demodBank = s.demodBank := rfl
@[simp] theorem State.bumpBy_corrPend (s : State) (f : RField) (n : Nat) : (s.bumpBy f n).corrPend = s.corrPend := rfl
@[simp] theorem State.bumpBy_corrOnce (s : State) (f : RField) (n : Nat) : (s.bumpBy f n).corrOnce = s.corrOnce := rfl
@[simp] theorem State.bumpBy_corrHist (s : State) (f : RField) (n : Nat) : (s.bumpBy f n).corrHist = s.corrHist := rfl
@[simp] theorem State.bumpBy_adcHist (s : State) (f : RField) (n : Nat) : (s.bumpBy f n).adcHist = s.adcHist := rfl
@[simp] theorem State.bumpBy_trains (s : State) (f : RField) (n : Nat) : (s.bumpBy f n).trains = s.trains := rfl
@[simp] theorem State.bumpBy_traces (s : State) (f : RField) (n : Nat) : (s.bumpBy f n).traces = s.traces := rfl
@[simp] theorem State.bumpBy_packs (s : State) (f : RField) (n : Nat) : (s.bumpBy f n).packs = s.packs := rfl
@[simp] theorem State.bumpBy_ancs (s : State) (f : RField) (n : Nat) : (s.bumpBy f n).ancs = s.ancs := rfl
@[simp] theorem State.bumpBy_patchMode (s : State) (f : RField) (n : Nat) : (s.bumpBy f n).patchMode = s.patchMode := rfl
@[simp] theorem State.bumpBy_assemblies (s : State) (f : RField) (n : Nat) : (s.bumpBy f n).assemblies = s.assemblies := rfl
@[simp] theorem State.bumpBy_patchTick (s : State) (f : RField) (n : Nat) : (s.bumpBy f n).patchTick = s.patchTick := rfl
@[simp] theorem State.bumpBy_lanes (s : State) (f : RField) (n : Nat) : (s.bumpBy f n).lanes = s.lanes := rfl
@[simp] theorem State.bumpBy_deliveries (s : State) (f : RField) (n : Nat) : (s.bumpBy f n).deliveries = s.deliveries := rfl
@[simp] theorem State.bumpBy_delivered (s : State) (f : RField) (n : Nat) : (s.bumpBy f n).delivered = s.delivered := rfl
@[simp] theorem State.bumpBy_exps (s : State) (f : RField) (n : Nat) : (s.bumpBy f n).exps = s.exps := rfl
@[simp] theorem State.bumpBy_rxrStage (s : State) (f : RField) (n : Nat) : (s.bumpBy f n).rxrStage = s.rxrStage := rfl
@[simp] theorem State.bumpBy_rxrOld (s : State) (f : RField) (n : Nat) : (s.bumpBy f n).rxrOld = s.rxrOld := rfl
@[simp] theorem State.bumpBy_bars (s : State) (f : RField) (n : Nat) : (s.bumpBy f n).bars = s.bars := rfl
@[simp] theorem State.bumpBy_fluxRuns (s : State) (f : RField) (n : Nat) : (s.bumpBy f n).fluxRuns = s.fluxRuns := rfl
@[simp] theorem State.bumpBy_fits (s : State) (f : RField) (n : Nat) : (s.bumpBy f n).fits = s.fits := rfl
@[simp] theorem State.bumpBy_biasOuts (s : State) (f : RField) (n : Nat) : (s.bumpBy f n).biasOuts = s.biasOuts := rfl
@[simp] theorem State.bumpBy_scrubPos (s : State) (f : RField) (n : Nat) : (s.bumpBy f n).scrubPos = s.scrubPos := rfl
@[simp] theorem State.bumpBy_tdcUnits (s : State) (f : RField) (n : Nat) : (s.bumpBy f n).tdcUnits = s.tdcUnits := rfl
@[simp] theorem State.bumpBy_tdcLast (s : State) (f : RField) (n : Nat) : (s.bumpBy f n).tdcLast = s.tdcLast := rfl
@[simp] theorem State.bumpBy_calHigh (s : State) (f : RField) (n : Nat) : (s.bumpBy f n).calHigh = s.calHigh := rfl
@[simp] theorem State.bumpBy_tdcEdges (s : State) (f : RField) (n : Nat) : (s.bumpBy f n).tdcEdges = s.tdcEdges := rfl
@[simp] theorem State.bumpBy_tdcResults (s : State) (f : RField) (n : Nat) : (s.bumpBy f n).tdcResults = s.tdcResults := rfl
@[simp] theorem State.bumpBy_mons (s : State) (f : RField) (n : Nat) : (s.bumpBy f n).mons = s.mons := rfl
@[simp] theorem State.bumpBy_monLine (s : State) (f : RField) (n : Nat) : (s.bumpBy f n).monLine = s.monLine := rfl
@[simp] theorem State.bumpBy_monLast (s : State) (f : RField) (n : Nat) : (s.bumpBy f n).monLast = s.monLast := rfl
@[simp] theorem State.bumpBy_evLog (s : State) (f : RField) (n : Nat) : (s.bumpBy f n).evLog = s.evLog := rfl
@[simp] theorem State.bumpBy_asyncNow (s : State) (f : RField) (n : Nat) : (s.bumpBy f n).asyncNow = s.asyncNow := rfl
@[simp] theorem State.bumpBy_tacks (s : State) (f : RField) (n : Nat) : (s.bumpBy f n).tacks = s.tacks := rfl
@[simp] theorem State.bumpBy_timers (s : State) (f : RField) (n : Nat) : (s.bumpBy f n).timers = s.timers := rfl
@[simp] theorem State.bumpBy_seamPipe (s : State) (f : RField) (n : Nat) : (s.bumpBy f n).seamPipe = s.seamPipe := rfl
@[simp] theorem State.bumpBy_seamNow (s : State) (f : RField) (n : Nat) : (s.bumpBy f n).seamNow = s.seamNow := rfl
@[simp] theorem State.bumpBy_seamOld (s : State) (f : RField) (n : Nat) : (s.bumpBy f n).seamOld = s.seamOld := rfl
@[simp] theorem State.bumpBy_seamLevels (s : State) (f : RField) (n : Nat) : (s.bumpBy f n).seamLevels = s.seamLevels := rfl
@[simp] theorem State.bumpBy_seamMarks (s : State) (f : RField) (n : Nat) : (s.bumpBy f n).seamMarks = s.seamMarks := rfl
@[simp] theorem State.bumpBy_wakeDue (s : State) (f : RField) (n : Nat) : (s.bumpBy f n).wakeDue = s.wakeDue := rfl
@[simp] theorem State.bumpBy_lostNow (s : State) (f : RField) (n : Nat) : (s.bumpBy f n).lostNow = s.lostNow := rfl
@[simp] theorem State.bumpBy_phase (s : State) (f : RField) (n : Nat) : (s.bumpBy f n).phase = s.phase := rfl
@[simp] theorem State.bumpBy_seamRaised (s : State) (f : RField) (n : Nat) : (s.bumpBy f n).seamRaised = s.seamRaised := rfl
@[simp] theorem State.bumpBy_kept (s : State) (f : RField) (n : Nat) : (s.bumpBy f n).kept = s.kept := rfl
@[simp] theorem State.bumpBy_mExec (s : State) (f : RField) (n : Nat) : (s.bumpBy f n).mExec = s.mExec := rfl
@[simp] theorem State.bumpBy_mWait (s : State) (f : RField) (n : Nat) : (s.bumpBy f n).mWait = s.mWait := rfl
@[simp] theorem State.bumpBy_qps (s : State) (f : RField) (n : Nat) : (s.bumpBy f n).qps = s.qps := rfl
@[simp] theorem State.bumpBy_outReqs (s : State) (f : RField) (n : Nat) : (s.bumpBy f n).outReqs = s.outReqs := rfl
@[simp] theorem State.bumpBy_fetched (s : State) (f : RField) (n : Nat) : (s.bumpBy f n).fetched = s.fetched := rfl
@[simp] theorem State.bumpBy_begun (s : State) (f : RField) (n : Nat) : (s.bumpBy f n).begun = s.begun := rfl
@[simp] theorem State.bumpBy_flying (s : State) (f : RField) (n : Nat) : (s.bumpBy f n).flying = s.flying := rfl
@[simp] theorem State.bumpBy_shadowWait (s : State) (f : RField) (n : Nat) : (s.bumpBy f n).shadowWait = s.shadowWait := rfl
@[simp] theorem State.bumpBy_cplWait (s : State) (f : RField) (n : Nat) : (s.bumpBy f n).cplWait = s.cplWait := rfl
@[simp] theorem State.bumpBy_transfers (s : State) (f : RField) (n : Nat) : (s.bumpBy f n).transfers = s.transfers := rfl
@[simp] theorem State.bumpBy_readWait (s : State) (f : RField) (n : Nat) : (s.bumpBy f n).readWait = s.readWait := rfl
@[simp] theorem State.bumpBy_extents (s : State) (f : RField) (n : Nat) : (s.bumpBy f n).extents = s.extents := rfl
@[simp] theorem State.bumpBy_feedEnd (s : State) (f : RField) (n : Nat) : (s.bumpBy f n).feedEnd = s.feedEnd := rfl
@[simp] theorem State.bumpBy_holding (s : State) (f : RField) (n : Nat) : (s.bumpBy f n).holding = s.holding := rfl
@[simp] theorem State.bumpBy_rqs (s : State) (f : RField) (n : Nat) : (s.bumpBy f n).rqs = s.rqs := rfl
@[simp] theorem State.bumpBy_kenRun (s : State) (f : RField) (n : Nat) : (s.bumpBy f n).kenRun = s.kenRun := rfl
@[simp] theorem State.bumpBy_heat (s : State) (f : RField) (n : Nat) : (s.bumpBy f n).heat = s.heat := rfl
@[simp] theorem State.bumpBy_synSq (s : State) (f : RField) (n : Nat) : (s.bumpBy f n).synSq = s.synSq := rfl
@[simp] theorem State.bumpBy_hw (s : State) (f : RField) (n : Nat) : (s.bumpBy f n).hw = s.hw := rfl
@[simp] theorem State.bumpBy_hwQueue (s : State) (f : RField) (n : Nat) : (s.bumpBy f n).hwQueue = s.hwQueue := rfl
@[simp] theorem State.bumpBy_hwWrite (s : State) (f : RField) (n : Nat) : (s.bumpBy f n).hwWrite = s.hwWrite := rfl
@[simp] theorem State.bumpBy_fuses (s : State) (f : RField) (n : Nat) : (s.bumpBy f n).fuses = s.fuses := rfl
@[simp] theorem State.bumpBy_boot (s : State) (f : RField) (n : Nat) : (s.bumpBy f n).boot = s.boot := rfl
@[simp] theorem State.bumpBy_out (s : State) (f : RField) (n : Nat) : (s.bumpBy f n).out = s.out := rfl
@[simp] theorem State.bumpBy_undef (s : State) (f : RField) (n : Nat) : (s.bumpBy f n).undef = s.undef := rfl

/-! `bump`. -/

@[simp] theorem State.bump_pending (s : State) (f : RField) : (s.bump f).pending = s.pending := rfl
@[simp] theorem State.bump_tick (s : State) (f : RField) : (s.bump f).tick = s.tick := rfl
@[simp] theorem State.bump_ft (s : State) (f : RField) : (s.bump f).ft = s.ft := rfl
@[simp] theorem State.bump_ftWas (s : State) (f : RField) : (s.bump f).ftWas = s.ftWas := rfl
@[simp] theorem State.bump_ptpNs (s : State) (f : RField) : (s.bump f).ptpNs = s.ptpNs := rfl
@[simp] theorem State.bump_ptpFrac (s : State) (f : RField) : (s.bump f).ptpFrac = s.ptpFrac := rfl
@[simp] theorem State.bump_ptpStepNext (s : State) (f : RField) : (s.bump f).ptpStepNext = s.ptpStepNext := rfl
@[simp] theorem State.bump_ptpMarks (s : State) (f : RField) : (s.bump f).ptpMarks = s.ptpMarks := rfl
@[simp] theorem State.bump_ptpGood (s : State) (f : RField) : (s.bump f).ptpGood = s.ptpGood := rfl
@[simp] theorem State.bump_ptpBad (s : State) (f : RField) : (s.bump f).ptpBad = s.ptpBad := rfl
@[simp] theorem State.bump_ptpRun (s : State) (f : RField) : (s.bump f).ptpRun = s.ptpRun := rfl
@[simp] theorem State.bump_syncLoad (s : State) (f : RField) : (s.bump f).syncLoad = s.syncLoad := rfl
@[simp] theorem State.bump_ftJump (s : State) (f : RField) : (s.bump f).ftJump = s.ftJump := rfl
@[simp] theorem State.bump_skewRun (s : State) (f : RField) : (s.bump f).skewRun = s.skewRun := rfl
@[simp] theorem State.bump_skewRem (s : State) (f : RField) : (s.bump f).skewRem = s.skewRem := rfl
@[simp] theorem State.bump_xtal (s : State) (f : RField) : (s.bump f).xtal = s.xtal := rfl
@[simp] theorem State.bump_latchTick (s : State) (f : RField) : (s.bump f).latchTick = s.latchTick := rfl
@[simp] theorem State.bump_pwrRun (s : State) (f : RField) : (s.bump f).pwrRun = s.pwrRun := rfl
@[simp] theorem State.bump_linkSeq (s : State) (f : RField) : (s.bump f).linkSeq = s.linkSeq := rfl
@[simp] theorem State.bump_shadows (s : State) (f : RField) : (s.bump f).shadows = s.shadows := rfl
@[simp] theorem State.bump_mem (s : State) (f : RField) : (s.bump f).mem = s.mem := rfl
@[simp] theorem State.bump_poison (s : State) (f : RField) : (s.bump f).poison = s.poison := rfl
@[simp] theorem State.bump_dirStage (s : State) (f : RField) : (s.bump f).dirStage = s.dirStage := rfl
@[simp] theorem State.bump_entries (s : State) (f : RField) : (s.bump f).entries = s.entries := rfl
@[simp] theorem State.bump_entry0 (s : State) (f : RField) : (s.bump f).entry0 = s.entry0 := rfl
@[simp] theorem State.bump_threads (s : State) (f : RField) : (s.bump f).threads = s.threads := rfl
@[simp] theorem State.bump_ordSlot (s : State) (f : RField) : (s.bump f).ordSlot = s.ordSlot := rfl
@[simp] theorem State.bump_priSlot (s : State) (f : RField) : (s.bump f).priSlot = s.priSlot := rfl
@[simp] theorem State.bump_shots (s : State) (f : RField) : (s.bump f).shots = s.shots := rfl
@[simp] theorem State.bump_nextShot (s : State) (f : RField) : (s.bump f).nextShot = s.nextShot := rfl
@[simp] theorem State.bump_acts (s : State) (f : RField) : (s.bump f).acts = s.acts := rfl
@[simp] theorem State.bump_plays (s : State) (f : RField) : (s.bump f).plays = s.plays := rfl
@[simp] theorem State.bump_skirts (s : State) (f : RField) : (s.bump f).skirts = s.skirts := rfl
@[simp] theorem State.bump_envRead (s : State) (f : RField) : (s.bump f).envRead = s.envRead := rfl
@[simp] theorem State.bump_staged (s : State) (f : RField) : (s.bump f).staged = s.staged := rfl
@[simp] theorem State.bump_pulses (s : State) (f : RField) : (s.bump f).pulses = s.pulses := rfl
@[simp] theorem State.bump_marker (s : State) (f : RField) : (s.bump f).marker = s.marker := rfl
@[simp] theorem State.bump_dacOut (s : State) (f : RField) : (s.bump f).dacOut = s.dacOut := rfl
@[simp] theorem State.bump_bobs (s : State) (f : RField) : (s.bump f).bobs = s.bobs := rfl
@[simp] theorem State.bump_slots (s : State) (f : RField) : (s.bump f).slots = s.slots := rfl
@[simp] theorem State.bump_ledger (s : State) (f : RField) : (s.bump f).ledger = s.ledger := rfl
@[simp] theorem State.bump_decTick (s : State) (f : RField) : (s.bump f).decTick = s.decTick := rfl
@[simp] theorem State.bump_ledgerOld (s : State) (f : RField) : (s.bump f).ledgerOld = s.ledgerOld := rfl
@[simp] theorem State.bump_ledgerTick (s : State) (f : RField) : (s.bump f).ledgerTick = s.ledgerTick := rfl
@[simp] theorem State.bump_windows (s : State) (f : RField) : (s.bump f).windows = s.windows := rfl
@[simp] theorem State.bump_acqReqs (s : State) (f : RField) : (s.bump f).acqReqs = s.acqReqs := rfl
@[simp] theorem State.bump_demodPend (s : State) (f : RField) : (s.bump f).demodPend = s.demodPend := rfl
@[simp] theorem State.bump_demodBank (s : State) (f : RField) : (s.bump f).demodBank = s.demodBank := rfl
@[simp] theorem State.bump_corrPend (s : State) (f : RField) : (s.bump f).corrPend = s.corrPend := rfl
@[simp] theorem State.bump_corrOnce (s : State) (f : RField) : (s.bump f).corrOnce = s.corrOnce := rfl
@[simp] theorem State.bump_corrHist (s : State) (f : RField) : (s.bump f).corrHist = s.corrHist := rfl
@[simp] theorem State.bump_adcHist (s : State) (f : RField) : (s.bump f).adcHist = s.adcHist := rfl
@[simp] theorem State.bump_trains (s : State) (f : RField) : (s.bump f).trains = s.trains := rfl
@[simp] theorem State.bump_traces (s : State) (f : RField) : (s.bump f).traces = s.traces := rfl
@[simp] theorem State.bump_packs (s : State) (f : RField) : (s.bump f).packs = s.packs := rfl
@[simp] theorem State.bump_ancs (s : State) (f : RField) : (s.bump f).ancs = s.ancs := rfl
@[simp] theorem State.bump_patchMode (s : State) (f : RField) : (s.bump f).patchMode = s.patchMode := rfl
@[simp] theorem State.bump_assemblies (s : State) (f : RField) : (s.bump f).assemblies = s.assemblies := rfl
@[simp] theorem State.bump_patchTick (s : State) (f : RField) : (s.bump f).patchTick = s.patchTick := rfl
@[simp] theorem State.bump_lanes (s : State) (f : RField) : (s.bump f).lanes = s.lanes := rfl
@[simp] theorem State.bump_deliveries (s : State) (f : RField) : (s.bump f).deliveries = s.deliveries := rfl
@[simp] theorem State.bump_delivered (s : State) (f : RField) : (s.bump f).delivered = s.delivered := rfl
@[simp] theorem State.bump_exps (s : State) (f : RField) : (s.bump f).exps = s.exps := rfl
@[simp] theorem State.bump_rxrStage (s : State) (f : RField) : (s.bump f).rxrStage = s.rxrStage := rfl
@[simp] theorem State.bump_rxrOld (s : State) (f : RField) : (s.bump f).rxrOld = s.rxrOld := rfl
@[simp] theorem State.bump_bars (s : State) (f : RField) : (s.bump f).bars = s.bars := rfl
@[simp] theorem State.bump_fluxRuns (s : State) (f : RField) : (s.bump f).fluxRuns = s.fluxRuns := rfl
@[simp] theorem State.bump_fits (s : State) (f : RField) : (s.bump f).fits = s.fits := rfl
@[simp] theorem State.bump_biasOuts (s : State) (f : RField) : (s.bump f).biasOuts = s.biasOuts := rfl
@[simp] theorem State.bump_scrubPos (s : State) (f : RField) : (s.bump f).scrubPos = s.scrubPos := rfl
@[simp] theorem State.bump_tdcUnits (s : State) (f : RField) : (s.bump f).tdcUnits = s.tdcUnits := rfl
@[simp] theorem State.bump_tdcLast (s : State) (f : RField) : (s.bump f).tdcLast = s.tdcLast := rfl
@[simp] theorem State.bump_calHigh (s : State) (f : RField) : (s.bump f).calHigh = s.calHigh := rfl
@[simp] theorem State.bump_tdcEdges (s : State) (f : RField) : (s.bump f).tdcEdges = s.tdcEdges := rfl
@[simp] theorem State.bump_tdcResults (s : State) (f : RField) : (s.bump f).tdcResults = s.tdcResults := rfl
@[simp] theorem State.bump_mons (s : State) (f : RField) : (s.bump f).mons = s.mons := rfl
@[simp] theorem State.bump_monLine (s : State) (f : RField) : (s.bump f).monLine = s.monLine := rfl
@[simp] theorem State.bump_monLast (s : State) (f : RField) : (s.bump f).monLast = s.monLast := rfl
@[simp] theorem State.bump_evLog (s : State) (f : RField) : (s.bump f).evLog = s.evLog := rfl
@[simp] theorem State.bump_asyncNow (s : State) (f : RField) : (s.bump f).asyncNow = s.asyncNow := rfl
@[simp] theorem State.bump_tacks (s : State) (f : RField) : (s.bump f).tacks = s.tacks := rfl
@[simp] theorem State.bump_timers (s : State) (f : RField) : (s.bump f).timers = s.timers := rfl
@[simp] theorem State.bump_seamPipe (s : State) (f : RField) : (s.bump f).seamPipe = s.seamPipe := rfl
@[simp] theorem State.bump_seamNow (s : State) (f : RField) : (s.bump f).seamNow = s.seamNow := rfl
@[simp] theorem State.bump_seamOld (s : State) (f : RField) : (s.bump f).seamOld = s.seamOld := rfl
@[simp] theorem State.bump_seamLevels (s : State) (f : RField) : (s.bump f).seamLevels = s.seamLevels := rfl
@[simp] theorem State.bump_seamMarks (s : State) (f : RField) : (s.bump f).seamMarks = s.seamMarks := rfl
@[simp] theorem State.bump_wakeDue (s : State) (f : RField) : (s.bump f).wakeDue = s.wakeDue := rfl
@[simp] theorem State.bump_lostNow (s : State) (f : RField) : (s.bump f).lostNow = s.lostNow := rfl
@[simp] theorem State.bump_phase (s : State) (f : RField) : (s.bump f).phase = s.phase := rfl
@[simp] theorem State.bump_seamRaised (s : State) (f : RField) : (s.bump f).seamRaised = s.seamRaised := rfl
@[simp] theorem State.bump_kept (s : State) (f : RField) : (s.bump f).kept = s.kept := rfl
@[simp] theorem State.bump_mExec (s : State) (f : RField) : (s.bump f).mExec = s.mExec := rfl
@[simp] theorem State.bump_mWait (s : State) (f : RField) : (s.bump f).mWait = s.mWait := rfl
@[simp] theorem State.bump_qps (s : State) (f : RField) : (s.bump f).qps = s.qps := rfl
@[simp] theorem State.bump_outReqs (s : State) (f : RField) : (s.bump f).outReqs = s.outReqs := rfl
@[simp] theorem State.bump_fetched (s : State) (f : RField) : (s.bump f).fetched = s.fetched := rfl
@[simp] theorem State.bump_begun (s : State) (f : RField) : (s.bump f).begun = s.begun := rfl
@[simp] theorem State.bump_flying (s : State) (f : RField) : (s.bump f).flying = s.flying := rfl
@[simp] theorem State.bump_shadowWait (s : State) (f : RField) : (s.bump f).shadowWait = s.shadowWait := rfl
@[simp] theorem State.bump_cplWait (s : State) (f : RField) : (s.bump f).cplWait = s.cplWait := rfl
@[simp] theorem State.bump_transfers (s : State) (f : RField) : (s.bump f).transfers = s.transfers := rfl
@[simp] theorem State.bump_readWait (s : State) (f : RField) : (s.bump f).readWait = s.readWait := rfl
@[simp] theorem State.bump_extents (s : State) (f : RField) : (s.bump f).extents = s.extents := rfl
@[simp] theorem State.bump_feedEnd (s : State) (f : RField) : (s.bump f).feedEnd = s.feedEnd := rfl
@[simp] theorem State.bump_holding (s : State) (f : RField) : (s.bump f).holding = s.holding := rfl
@[simp] theorem State.bump_rqs (s : State) (f : RField) : (s.bump f).rqs = s.rqs := rfl
@[simp] theorem State.bump_kenRun (s : State) (f : RField) : (s.bump f).kenRun = s.kenRun := rfl
@[simp] theorem State.bump_heat (s : State) (f : RField) : (s.bump f).heat = s.heat := rfl
@[simp] theorem State.bump_synSq (s : State) (f : RField) : (s.bump f).synSq = s.synSq := rfl
@[simp] theorem State.bump_hw (s : State) (f : RField) : (s.bump f).hw = s.hw := rfl
@[simp] theorem State.bump_hwQueue (s : State) (f : RField) : (s.bump f).hwQueue = s.hwQueue := rfl
@[simp] theorem State.bump_hwWrite (s : State) (f : RField) : (s.bump f).hwWrite = s.hwWrite := rfl
@[simp] theorem State.bump_fuses (s : State) (f : RField) : (s.bump f).fuses = s.fuses := rfl
@[simp] theorem State.bump_boot (s : State) (f : RField) : (s.bump f).boot = s.boot := rfl
@[simp] theorem State.bump_out (s : State) (f : RField) : (s.bump f).out = s.out := rfl
@[simp] theorem State.bump_undef (s : State) (f : RField) : (s.bump f).undef = s.undef := rfl

/-! `putBit`. -/

@[simp] theorem State.putBit_pending (s : State) (f : RField) (i : Nat) (b : Bool) : (s.putBit f i b).pending = s.pending := rfl
@[simp] theorem State.putBit_tick (s : State) (f : RField) (i : Nat) (b : Bool) : (s.putBit f i b).tick = s.tick := rfl
@[simp] theorem State.putBit_ft (s : State) (f : RField) (i : Nat) (b : Bool) : (s.putBit f i b).ft = s.ft := rfl
@[simp] theorem State.putBit_ftWas (s : State) (f : RField) (i : Nat) (b : Bool) : (s.putBit f i b).ftWas = s.ftWas := rfl
@[simp] theorem State.putBit_ptpNs (s : State) (f : RField) (i : Nat) (b : Bool) : (s.putBit f i b).ptpNs = s.ptpNs := rfl
@[simp] theorem State.putBit_ptpFrac (s : State) (f : RField) (i : Nat) (b : Bool) : (s.putBit f i b).ptpFrac = s.ptpFrac := rfl
@[simp] theorem State.putBit_ptpStepNext (s : State) (f : RField) (i : Nat) (b : Bool) : (s.putBit f i b).ptpStepNext = s.ptpStepNext := rfl
@[simp] theorem State.putBit_ptpMarks (s : State) (f : RField) (i : Nat) (b : Bool) : (s.putBit f i b).ptpMarks = s.ptpMarks := rfl
@[simp] theorem State.putBit_ptpGood (s : State) (f : RField) (i : Nat) (b : Bool) : (s.putBit f i b).ptpGood = s.ptpGood := rfl
@[simp] theorem State.putBit_ptpBad (s : State) (f : RField) (i : Nat) (b : Bool) : (s.putBit f i b).ptpBad = s.ptpBad := rfl
@[simp] theorem State.putBit_ptpRun (s : State) (f : RField) (i : Nat) (b : Bool) : (s.putBit f i b).ptpRun = s.ptpRun := rfl
@[simp] theorem State.putBit_syncLoad (s : State) (f : RField) (i : Nat) (b : Bool) : (s.putBit f i b).syncLoad = s.syncLoad := rfl
@[simp] theorem State.putBit_ftJump (s : State) (f : RField) (i : Nat) (b : Bool) : (s.putBit f i b).ftJump = s.ftJump := rfl
@[simp] theorem State.putBit_skewRun (s : State) (f : RField) (i : Nat) (b : Bool) : (s.putBit f i b).skewRun = s.skewRun := rfl
@[simp] theorem State.putBit_skewRem (s : State) (f : RField) (i : Nat) (b : Bool) : (s.putBit f i b).skewRem = s.skewRem := rfl
@[simp] theorem State.putBit_xtal (s : State) (f : RField) (i : Nat) (b : Bool) : (s.putBit f i b).xtal = s.xtal := rfl
@[simp] theorem State.putBit_latchTick (s : State) (f : RField) (i : Nat) (b : Bool) : (s.putBit f i b).latchTick = s.latchTick := rfl
@[simp] theorem State.putBit_pwrRun (s : State) (f : RField) (i : Nat) (b : Bool) : (s.putBit f i b).pwrRun = s.pwrRun := rfl
@[simp] theorem State.putBit_linkSeq (s : State) (f : RField) (i : Nat) (b : Bool) : (s.putBit f i b).linkSeq = s.linkSeq := rfl
@[simp] theorem State.putBit_shadows (s : State) (f : RField) (i : Nat) (b : Bool) : (s.putBit f i b).shadows = s.shadows := rfl
@[simp] theorem State.putBit_mem (s : State) (f : RField) (i : Nat) (b : Bool) : (s.putBit f i b).mem = s.mem := rfl
@[simp] theorem State.putBit_poison (s : State) (f : RField) (i : Nat) (b : Bool) : (s.putBit f i b).poison = s.poison := rfl
@[simp] theorem State.putBit_dirStage (s : State) (f : RField) (i : Nat) (b : Bool) : (s.putBit f i b).dirStage = s.dirStage := rfl
@[simp] theorem State.putBit_entries (s : State) (f : RField) (i : Nat) (b : Bool) : (s.putBit f i b).entries = s.entries := rfl
@[simp] theorem State.putBit_entry0 (s : State) (f : RField) (i : Nat) (b : Bool) : (s.putBit f i b).entry0 = s.entry0 := rfl
@[simp] theorem State.putBit_threads (s : State) (f : RField) (i : Nat) (b : Bool) : (s.putBit f i b).threads = s.threads := rfl
@[simp] theorem State.putBit_ordSlot (s : State) (f : RField) (i : Nat) (b : Bool) : (s.putBit f i b).ordSlot = s.ordSlot := rfl
@[simp] theorem State.putBit_priSlot (s : State) (f : RField) (i : Nat) (b : Bool) : (s.putBit f i b).priSlot = s.priSlot := rfl
@[simp] theorem State.putBit_shots (s : State) (f : RField) (i : Nat) (b : Bool) : (s.putBit f i b).shots = s.shots := rfl
@[simp] theorem State.putBit_nextShot (s : State) (f : RField) (i : Nat) (b : Bool) : (s.putBit f i b).nextShot = s.nextShot := rfl
@[simp] theorem State.putBit_acts (s : State) (f : RField) (i : Nat) (b : Bool) : (s.putBit f i b).acts = s.acts := rfl
@[simp] theorem State.putBit_plays (s : State) (f : RField) (i : Nat) (b : Bool) : (s.putBit f i b).plays = s.plays := rfl
@[simp] theorem State.putBit_skirts (s : State) (f : RField) (i : Nat) (b : Bool) : (s.putBit f i b).skirts = s.skirts := rfl
@[simp] theorem State.putBit_envRead (s : State) (f : RField) (i : Nat) (b : Bool) : (s.putBit f i b).envRead = s.envRead := rfl
@[simp] theorem State.putBit_staged (s : State) (f : RField) (i : Nat) (b : Bool) : (s.putBit f i b).staged = s.staged := rfl
@[simp] theorem State.putBit_pulses (s : State) (f : RField) (i : Nat) (b : Bool) : (s.putBit f i b).pulses = s.pulses := rfl
@[simp] theorem State.putBit_marker (s : State) (f : RField) (i : Nat) (b : Bool) : (s.putBit f i b).marker = s.marker := rfl
@[simp] theorem State.putBit_dacOut (s : State) (f : RField) (i : Nat) (b : Bool) : (s.putBit f i b).dacOut = s.dacOut := rfl
@[simp] theorem State.putBit_bobs (s : State) (f : RField) (i : Nat) (b : Bool) : (s.putBit f i b).bobs = s.bobs := rfl
@[simp] theorem State.putBit_slots (s : State) (f : RField) (i : Nat) (b : Bool) : (s.putBit f i b).slots = s.slots := rfl
@[simp] theorem State.putBit_ledger (s : State) (f : RField) (i : Nat) (b : Bool) : (s.putBit f i b).ledger = s.ledger := rfl
@[simp] theorem State.putBit_decTick (s : State) (f : RField) (i : Nat) (b : Bool) : (s.putBit f i b).decTick = s.decTick := rfl
@[simp] theorem State.putBit_ledgerOld (s : State) (f : RField) (i : Nat) (b : Bool) : (s.putBit f i b).ledgerOld = s.ledgerOld := rfl
@[simp] theorem State.putBit_ledgerTick (s : State) (f : RField) (i : Nat) (b : Bool) : (s.putBit f i b).ledgerTick = s.ledgerTick := rfl
@[simp] theorem State.putBit_windows (s : State) (f : RField) (i : Nat) (b : Bool) : (s.putBit f i b).windows = s.windows := rfl
@[simp] theorem State.putBit_acqReqs (s : State) (f : RField) (i : Nat) (b : Bool) : (s.putBit f i b).acqReqs = s.acqReqs := rfl
@[simp] theorem State.putBit_demodPend (s : State) (f : RField) (i : Nat) (b : Bool) : (s.putBit f i b).demodPend = s.demodPend := rfl
@[simp] theorem State.putBit_demodBank (s : State) (f : RField) (i : Nat) (b : Bool) : (s.putBit f i b).demodBank = s.demodBank := rfl
@[simp] theorem State.putBit_corrPend (s : State) (f : RField) (i : Nat) (b : Bool) : (s.putBit f i b).corrPend = s.corrPend := rfl
@[simp] theorem State.putBit_corrOnce (s : State) (f : RField) (i : Nat) (b : Bool) : (s.putBit f i b).corrOnce = s.corrOnce := rfl
@[simp] theorem State.putBit_corrHist (s : State) (f : RField) (i : Nat) (b : Bool) : (s.putBit f i b).corrHist = s.corrHist := rfl
@[simp] theorem State.putBit_adcHist (s : State) (f : RField) (i : Nat) (b : Bool) : (s.putBit f i b).adcHist = s.adcHist := rfl
@[simp] theorem State.putBit_trains (s : State) (f : RField) (i : Nat) (b : Bool) : (s.putBit f i b).trains = s.trains := rfl
@[simp] theorem State.putBit_traces (s : State) (f : RField) (i : Nat) (b : Bool) : (s.putBit f i b).traces = s.traces := rfl
@[simp] theorem State.putBit_packs (s : State) (f : RField) (i : Nat) (b : Bool) : (s.putBit f i b).packs = s.packs := rfl
@[simp] theorem State.putBit_ancs (s : State) (f : RField) (i : Nat) (b : Bool) : (s.putBit f i b).ancs = s.ancs := rfl
@[simp] theorem State.putBit_patchMode (s : State) (f : RField) (i : Nat) (b : Bool) : (s.putBit f i b).patchMode = s.patchMode := rfl
@[simp] theorem State.putBit_assemblies (s : State) (f : RField) (i : Nat) (b : Bool) : (s.putBit f i b).assemblies = s.assemblies := rfl
@[simp] theorem State.putBit_patchTick (s : State) (f : RField) (i : Nat) (b : Bool) : (s.putBit f i b).patchTick = s.patchTick := rfl
@[simp] theorem State.putBit_lanes (s : State) (f : RField) (i : Nat) (b : Bool) : (s.putBit f i b).lanes = s.lanes := rfl
@[simp] theorem State.putBit_deliveries (s : State) (f : RField) (i : Nat) (b : Bool) : (s.putBit f i b).deliveries = s.deliveries := rfl
@[simp] theorem State.putBit_delivered (s : State) (f : RField) (i : Nat) (b : Bool) : (s.putBit f i b).delivered = s.delivered := rfl
@[simp] theorem State.putBit_exps (s : State) (f : RField) (i : Nat) (b : Bool) : (s.putBit f i b).exps = s.exps := rfl
@[simp] theorem State.putBit_rxrStage (s : State) (f : RField) (i : Nat) (b : Bool) : (s.putBit f i b).rxrStage = s.rxrStage := rfl
@[simp] theorem State.putBit_rxrOld (s : State) (f : RField) (i : Nat) (b : Bool) : (s.putBit f i b).rxrOld = s.rxrOld := rfl
@[simp] theorem State.putBit_bars (s : State) (f : RField) (i : Nat) (b : Bool) : (s.putBit f i b).bars = s.bars := rfl
@[simp] theorem State.putBit_fluxRuns (s : State) (f : RField) (i : Nat) (b : Bool) : (s.putBit f i b).fluxRuns = s.fluxRuns := rfl
@[simp] theorem State.putBit_fits (s : State) (f : RField) (i : Nat) (b : Bool) : (s.putBit f i b).fits = s.fits := rfl
@[simp] theorem State.putBit_biasOuts (s : State) (f : RField) (i : Nat) (b : Bool) : (s.putBit f i b).biasOuts = s.biasOuts := rfl
@[simp] theorem State.putBit_scrubPos (s : State) (f : RField) (i : Nat) (b : Bool) : (s.putBit f i b).scrubPos = s.scrubPos := rfl
@[simp] theorem State.putBit_tdcUnits (s : State) (f : RField) (i : Nat) (b : Bool) : (s.putBit f i b).tdcUnits = s.tdcUnits := rfl
@[simp] theorem State.putBit_tdcLast (s : State) (f : RField) (i : Nat) (b : Bool) : (s.putBit f i b).tdcLast = s.tdcLast := rfl
@[simp] theorem State.putBit_calHigh (s : State) (f : RField) (i : Nat) (b : Bool) : (s.putBit f i b).calHigh = s.calHigh := rfl
@[simp] theorem State.putBit_tdcEdges (s : State) (f : RField) (i : Nat) (b : Bool) : (s.putBit f i b).tdcEdges = s.tdcEdges := rfl
@[simp] theorem State.putBit_tdcResults (s : State) (f : RField) (i : Nat) (b : Bool) : (s.putBit f i b).tdcResults = s.tdcResults := rfl
@[simp] theorem State.putBit_mons (s : State) (f : RField) (i : Nat) (b : Bool) : (s.putBit f i b).mons = s.mons := rfl
@[simp] theorem State.putBit_monLine (s : State) (f : RField) (i : Nat) (b : Bool) : (s.putBit f i b).monLine = s.monLine := rfl
@[simp] theorem State.putBit_monLast (s : State) (f : RField) (i : Nat) (b : Bool) : (s.putBit f i b).monLast = s.monLast := rfl
@[simp] theorem State.putBit_evLog (s : State) (f : RField) (i : Nat) (b : Bool) : (s.putBit f i b).evLog = s.evLog := rfl
@[simp] theorem State.putBit_asyncNow (s : State) (f : RField) (i : Nat) (b : Bool) : (s.putBit f i b).asyncNow = s.asyncNow := rfl
@[simp] theorem State.putBit_tacks (s : State) (f : RField) (i : Nat) (b : Bool) : (s.putBit f i b).tacks = s.tacks := rfl
@[simp] theorem State.putBit_timers (s : State) (f : RField) (i : Nat) (b : Bool) : (s.putBit f i b).timers = s.timers := rfl
@[simp] theorem State.putBit_seamPipe (s : State) (f : RField) (i : Nat) (b : Bool) : (s.putBit f i b).seamPipe = s.seamPipe := rfl
@[simp] theorem State.putBit_seamNow (s : State) (f : RField) (i : Nat) (b : Bool) : (s.putBit f i b).seamNow = s.seamNow := rfl
@[simp] theorem State.putBit_seamOld (s : State) (f : RField) (i : Nat) (b : Bool) : (s.putBit f i b).seamOld = s.seamOld := rfl
@[simp] theorem State.putBit_seamLevels (s : State) (f : RField) (i : Nat) (b : Bool) : (s.putBit f i b).seamLevels = s.seamLevels := rfl
@[simp] theorem State.putBit_seamMarks (s : State) (f : RField) (i : Nat) (b : Bool) : (s.putBit f i b).seamMarks = s.seamMarks := rfl
@[simp] theorem State.putBit_wakeDue (s : State) (f : RField) (i : Nat) (b : Bool) : (s.putBit f i b).wakeDue = s.wakeDue := rfl
@[simp] theorem State.putBit_lostNow (s : State) (f : RField) (i : Nat) (b : Bool) : (s.putBit f i b).lostNow = s.lostNow := rfl
@[simp] theorem State.putBit_phase (s : State) (f : RField) (i : Nat) (b : Bool) : (s.putBit f i b).phase = s.phase := rfl
@[simp] theorem State.putBit_seamRaised (s : State) (f : RField) (i : Nat) (b : Bool) : (s.putBit f i b).seamRaised = s.seamRaised := rfl
@[simp] theorem State.putBit_kept (s : State) (f : RField) (i : Nat) (b : Bool) : (s.putBit f i b).kept = s.kept := rfl
@[simp] theorem State.putBit_mExec (s : State) (f : RField) (i : Nat) (b : Bool) : (s.putBit f i b).mExec = s.mExec := rfl
@[simp] theorem State.putBit_mWait (s : State) (f : RField) (i : Nat) (b : Bool) : (s.putBit f i b).mWait = s.mWait := rfl
@[simp] theorem State.putBit_qps (s : State) (f : RField) (i : Nat) (b : Bool) : (s.putBit f i b).qps = s.qps := rfl
@[simp] theorem State.putBit_outReqs (s : State) (f : RField) (i : Nat) (b : Bool) : (s.putBit f i b).outReqs = s.outReqs := rfl
@[simp] theorem State.putBit_fetched (s : State) (f : RField) (i : Nat) (b : Bool) : (s.putBit f i b).fetched = s.fetched := rfl
@[simp] theorem State.putBit_begun (s : State) (f : RField) (i : Nat) (b : Bool) : (s.putBit f i b).begun = s.begun := rfl
@[simp] theorem State.putBit_flying (s : State) (f : RField) (i : Nat) (b : Bool) : (s.putBit f i b).flying = s.flying := rfl
@[simp] theorem State.putBit_shadowWait (s : State) (f : RField) (i : Nat) (b : Bool) : (s.putBit f i b).shadowWait = s.shadowWait := rfl
@[simp] theorem State.putBit_cplWait (s : State) (f : RField) (i : Nat) (b : Bool) : (s.putBit f i b).cplWait = s.cplWait := rfl
@[simp] theorem State.putBit_transfers (s : State) (f : RField) (i : Nat) (b : Bool) : (s.putBit f i b).transfers = s.transfers := rfl
@[simp] theorem State.putBit_readWait (s : State) (f : RField) (i : Nat) (b : Bool) : (s.putBit f i b).readWait = s.readWait := rfl
@[simp] theorem State.putBit_extents (s : State) (f : RField) (i : Nat) (b : Bool) : (s.putBit f i b).extents = s.extents := rfl
@[simp] theorem State.putBit_feedEnd (s : State) (f : RField) (i : Nat) (b : Bool) : (s.putBit f i b).feedEnd = s.feedEnd := rfl
@[simp] theorem State.putBit_holding (s : State) (f : RField) (i : Nat) (b : Bool) : (s.putBit f i b).holding = s.holding := rfl
@[simp] theorem State.putBit_rqs (s : State) (f : RField) (i : Nat) (b : Bool) : (s.putBit f i b).rqs = s.rqs := rfl
@[simp] theorem State.putBit_kenRun (s : State) (f : RField) (i : Nat) (b : Bool) : (s.putBit f i b).kenRun = s.kenRun := rfl
@[simp] theorem State.putBit_heat (s : State) (f : RField) (i : Nat) (b : Bool) : (s.putBit f i b).heat = s.heat := rfl
@[simp] theorem State.putBit_synSq (s : State) (f : RField) (i : Nat) (b : Bool) : (s.putBit f i b).synSq = s.synSq := rfl
@[simp] theorem State.putBit_hw (s : State) (f : RField) (i : Nat) (b : Bool) : (s.putBit f i b).hw = s.hw := rfl
@[simp] theorem State.putBit_hwQueue (s : State) (f : RField) (i : Nat) (b : Bool) : (s.putBit f i b).hwQueue = s.hwQueue := rfl
@[simp] theorem State.putBit_hwWrite (s : State) (f : RField) (i : Nat) (b : Bool) : (s.putBit f i b).hwWrite = s.hwWrite := rfl
@[simp] theorem State.putBit_fuses (s : State) (f : RField) (i : Nat) (b : Bool) : (s.putBit f i b).fuses = s.fuses := rfl
@[simp] theorem State.putBit_boot (s : State) (f : RField) (i : Nat) (b : Bool) : (s.putBit f i b).boot = s.boot := rfl
@[simp] theorem State.putBit_out (s : State) (f : RField) (i : Nat) (b : Bool) : (s.putBit f i b).out = s.out := rfl
@[simp] theorem State.putBit_undef (s : State) (f : RField) (i : Nat) (b : Bool) : (s.putBit f i b).undef = s.undef := rfl

/-! `setMemWord`. -/

@[simp] theorem State.setMemWord_pending (s : State) (sp : Space) (t i : Nat) (w : Word) : (s.setMemWord sp t i w).pending = s.pending := rfl
@[simp] theorem State.setMemWord_tick (s : State) (sp : Space) (t i : Nat) (w : Word) : (s.setMemWord sp t i w).tick = s.tick := rfl
@[simp] theorem State.setMemWord_ft (s : State) (sp : Space) (t i : Nat) (w : Word) : (s.setMemWord sp t i w).ft = s.ft := rfl
@[simp] theorem State.setMemWord_ftWas (s : State) (sp : Space) (t i : Nat) (w : Word) : (s.setMemWord sp t i w).ftWas = s.ftWas := rfl
@[simp] theorem State.setMemWord_ptpNs (s : State) (sp : Space) (t i : Nat) (w : Word) : (s.setMemWord sp t i w).ptpNs = s.ptpNs := rfl
@[simp] theorem State.setMemWord_ptpFrac (s : State) (sp : Space) (t i : Nat) (w : Word) : (s.setMemWord sp t i w).ptpFrac = s.ptpFrac := rfl
@[simp] theorem State.setMemWord_ptpStepNext (s : State) (sp : Space) (t i : Nat) (w : Word) : (s.setMemWord sp t i w).ptpStepNext = s.ptpStepNext := rfl
@[simp] theorem State.setMemWord_ptpMarks (s : State) (sp : Space) (t i : Nat) (w : Word) : (s.setMemWord sp t i w).ptpMarks = s.ptpMarks := rfl
@[simp] theorem State.setMemWord_ptpGood (s : State) (sp : Space) (t i : Nat) (w : Word) : (s.setMemWord sp t i w).ptpGood = s.ptpGood := rfl
@[simp] theorem State.setMemWord_ptpBad (s : State) (sp : Space) (t i : Nat) (w : Word) : (s.setMemWord sp t i w).ptpBad = s.ptpBad := rfl
@[simp] theorem State.setMemWord_ptpRun (s : State) (sp : Space) (t i : Nat) (w : Word) : (s.setMemWord sp t i w).ptpRun = s.ptpRun := rfl
@[simp] theorem State.setMemWord_syncLoad (s : State) (sp : Space) (t i : Nat) (w : Word) : (s.setMemWord sp t i w).syncLoad = s.syncLoad := rfl
@[simp] theorem State.setMemWord_ftJump (s : State) (sp : Space) (t i : Nat) (w : Word) : (s.setMemWord sp t i w).ftJump = s.ftJump := rfl
@[simp] theorem State.setMemWord_skewRun (s : State) (sp : Space) (t i : Nat) (w : Word) : (s.setMemWord sp t i w).skewRun = s.skewRun := rfl
@[simp] theorem State.setMemWord_skewRem (s : State) (sp : Space) (t i : Nat) (w : Word) : (s.setMemWord sp t i w).skewRem = s.skewRem := rfl
@[simp] theorem State.setMemWord_xtal (s : State) (sp : Space) (t i : Nat) (w : Word) : (s.setMemWord sp t i w).xtal = s.xtal := rfl
@[simp] theorem State.setMemWord_latchTick (s : State) (sp : Space) (t i : Nat) (w : Word) : (s.setMemWord sp t i w).latchTick = s.latchTick := rfl
@[simp] theorem State.setMemWord_pwrRun (s : State) (sp : Space) (t i : Nat) (w : Word) : (s.setMemWord sp t i w).pwrRun = s.pwrRun := rfl
@[simp] theorem State.setMemWord_linkSeq (s : State) (sp : Space) (t i : Nat) (w : Word) : (s.setMemWord sp t i w).linkSeq = s.linkSeq := rfl
@[simp] theorem State.setMemWord_regs (s : State) (sp : Space) (t i : Nat) (w : Word) : (s.setMemWord sp t i w).regs = s.regs := rfl
@[simp] theorem State.setMemWord_shadows (s : State) (sp : Space) (t i : Nat) (w : Word) : (s.setMemWord sp t i w).shadows = s.shadows := rfl
@[simp] theorem State.setMemWord_dirStage (s : State) (sp : Space) (t i : Nat) (w : Word) : (s.setMemWord sp t i w).dirStage = s.dirStage := rfl
@[simp] theorem State.setMemWord_entries (s : State) (sp : Space) (t i : Nat) (w : Word) : (s.setMemWord sp t i w).entries = s.entries := rfl
@[simp] theorem State.setMemWord_entry0 (s : State) (sp : Space) (t i : Nat) (w : Word) : (s.setMemWord sp t i w).entry0 = s.entry0 := rfl
@[simp] theorem State.setMemWord_threads (s : State) (sp : Space) (t i : Nat) (w : Word) : (s.setMemWord sp t i w).threads = s.threads := rfl
@[simp] theorem State.setMemWord_ordSlot (s : State) (sp : Space) (t i : Nat) (w : Word) : (s.setMemWord sp t i w).ordSlot = s.ordSlot := rfl
@[simp] theorem State.setMemWord_priSlot (s : State) (sp : Space) (t i : Nat) (w : Word) : (s.setMemWord sp t i w).priSlot = s.priSlot := rfl
@[simp] theorem State.setMemWord_shots (s : State) (sp : Space) (t i : Nat) (w : Word) : (s.setMemWord sp t i w).shots = s.shots := rfl
@[simp] theorem State.setMemWord_nextShot (s : State) (sp : Space) (t i : Nat) (w : Word) : (s.setMemWord sp t i w).nextShot = s.nextShot := rfl
@[simp] theorem State.setMemWord_acts (s : State) (sp : Space) (t i : Nat) (w : Word) : (s.setMemWord sp t i w).acts = s.acts := rfl
@[simp] theorem State.setMemWord_plays (s : State) (sp : Space) (t i : Nat) (w : Word) : (s.setMemWord sp t i w).plays = s.plays := rfl
@[simp] theorem State.setMemWord_skirts (s : State) (sp : Space) (t i : Nat) (w : Word) : (s.setMemWord sp t i w).skirts = s.skirts := rfl
@[simp] theorem State.setMemWord_envRead (s : State) (sp : Space) (t i : Nat) (w : Word) : (s.setMemWord sp t i w).envRead = s.envRead := rfl
@[simp] theorem State.setMemWord_staged (s : State) (sp : Space) (t i : Nat) (w : Word) : (s.setMemWord sp t i w).staged = s.staged := rfl
@[simp] theorem State.setMemWord_pulses (s : State) (sp : Space) (t i : Nat) (w : Word) : (s.setMemWord sp t i w).pulses = s.pulses := rfl
@[simp] theorem State.setMemWord_marker (s : State) (sp : Space) (t i : Nat) (w : Word) : (s.setMemWord sp t i w).marker = s.marker := rfl
@[simp] theorem State.setMemWord_dacOut (s : State) (sp : Space) (t i : Nat) (w : Word) : (s.setMemWord sp t i w).dacOut = s.dacOut := rfl
@[simp] theorem State.setMemWord_bobs (s : State) (sp : Space) (t i : Nat) (w : Word) : (s.setMemWord sp t i w).bobs = s.bobs := rfl
@[simp] theorem State.setMemWord_slots (s : State) (sp : Space) (t i : Nat) (w : Word) : (s.setMemWord sp t i w).slots = s.slots := rfl
@[simp] theorem State.setMemWord_ledger (s : State) (sp : Space) (t i : Nat) (w : Word) : (s.setMemWord sp t i w).ledger = s.ledger := rfl
@[simp] theorem State.setMemWord_decTick (s : State) (sp : Space) (t i : Nat) (w : Word) : (s.setMemWord sp t i w).decTick = s.decTick := rfl
@[simp] theorem State.setMemWord_ledgerOld (s : State) (sp : Space) (t i : Nat) (w : Word) : (s.setMemWord sp t i w).ledgerOld = s.ledgerOld := rfl
@[simp] theorem State.setMemWord_ledgerTick (s : State) (sp : Space) (t i : Nat) (w : Word) : (s.setMemWord sp t i w).ledgerTick = s.ledgerTick := rfl
@[simp] theorem State.setMemWord_windows (s : State) (sp : Space) (t i : Nat) (w : Word) : (s.setMemWord sp t i w).windows = s.windows := rfl
@[simp] theorem State.setMemWord_acqReqs (s : State) (sp : Space) (t i : Nat) (w : Word) : (s.setMemWord sp t i w).acqReqs = s.acqReqs := rfl
@[simp] theorem State.setMemWord_demodPend (s : State) (sp : Space) (t i : Nat) (w : Word) : (s.setMemWord sp t i w).demodPend = s.demodPend := rfl
@[simp] theorem State.setMemWord_demodBank (s : State) (sp : Space) (t i : Nat) (w : Word) : (s.setMemWord sp t i w).demodBank = s.demodBank := rfl
@[simp] theorem State.setMemWord_corrPend (s : State) (sp : Space) (t i : Nat) (w : Word) : (s.setMemWord sp t i w).corrPend = s.corrPend := rfl
@[simp] theorem State.setMemWord_corrOnce (s : State) (sp : Space) (t i : Nat) (w : Word) : (s.setMemWord sp t i w).corrOnce = s.corrOnce := rfl
@[simp] theorem State.setMemWord_corrHist (s : State) (sp : Space) (t i : Nat) (w : Word) : (s.setMemWord sp t i w).corrHist = s.corrHist := rfl
@[simp] theorem State.setMemWord_adcHist (s : State) (sp : Space) (t i : Nat) (w : Word) : (s.setMemWord sp t i w).adcHist = s.adcHist := rfl
@[simp] theorem State.setMemWord_trains (s : State) (sp : Space) (t i : Nat) (w : Word) : (s.setMemWord sp t i w).trains = s.trains := rfl
@[simp] theorem State.setMemWord_traces (s : State) (sp : Space) (t i : Nat) (w : Word) : (s.setMemWord sp t i w).traces = s.traces := rfl
@[simp] theorem State.setMemWord_packs (s : State) (sp : Space) (t i : Nat) (w : Word) : (s.setMemWord sp t i w).packs = s.packs := rfl
@[simp] theorem State.setMemWord_ancs (s : State) (sp : Space) (t i : Nat) (w : Word) : (s.setMemWord sp t i w).ancs = s.ancs := rfl
@[simp] theorem State.setMemWord_patchMode (s : State) (sp : Space) (t i : Nat) (w : Word) : (s.setMemWord sp t i w).patchMode = s.patchMode := rfl
@[simp] theorem State.setMemWord_assemblies (s : State) (sp : Space) (t i : Nat) (w : Word) : (s.setMemWord sp t i w).assemblies = s.assemblies := rfl
@[simp] theorem State.setMemWord_patchTick (s : State) (sp : Space) (t i : Nat) (w : Word) : (s.setMemWord sp t i w).patchTick = s.patchTick := rfl
@[simp] theorem State.setMemWord_lanes (s : State) (sp : Space) (t i : Nat) (w : Word) : (s.setMemWord sp t i w).lanes = s.lanes := rfl
@[simp] theorem State.setMemWord_deliveries (s : State) (sp : Space) (t i : Nat) (w : Word) : (s.setMemWord sp t i w).deliveries = s.deliveries := rfl
@[simp] theorem State.setMemWord_delivered (s : State) (sp : Space) (t i : Nat) (w : Word) : (s.setMemWord sp t i w).delivered = s.delivered := rfl
@[simp] theorem State.setMemWord_exps (s : State) (sp : Space) (t i : Nat) (w : Word) : (s.setMemWord sp t i w).exps = s.exps := rfl
@[simp] theorem State.setMemWord_rxrStage (s : State) (sp : Space) (t i : Nat) (w : Word) : (s.setMemWord sp t i w).rxrStage = s.rxrStage := rfl
@[simp] theorem State.setMemWord_rxrOld (s : State) (sp : Space) (t i : Nat) (w : Word) : (s.setMemWord sp t i w).rxrOld = s.rxrOld := rfl
@[simp] theorem State.setMemWord_bars (s : State) (sp : Space) (t i : Nat) (w : Word) : (s.setMemWord sp t i w).bars = s.bars := rfl
@[simp] theorem State.setMemWord_fluxRuns (s : State) (sp : Space) (t i : Nat) (w : Word) : (s.setMemWord sp t i w).fluxRuns = s.fluxRuns := rfl
@[simp] theorem State.setMemWord_fits (s : State) (sp : Space) (t i : Nat) (w : Word) : (s.setMemWord sp t i w).fits = s.fits := rfl
@[simp] theorem State.setMemWord_biasOuts (s : State) (sp : Space) (t i : Nat) (w : Word) : (s.setMemWord sp t i w).biasOuts = s.biasOuts := rfl
@[simp] theorem State.setMemWord_scrubPos (s : State) (sp : Space) (t i : Nat) (w : Word) : (s.setMemWord sp t i w).scrubPos = s.scrubPos := rfl
@[simp] theorem State.setMemWord_tdcUnits (s : State) (sp : Space) (t i : Nat) (w : Word) : (s.setMemWord sp t i w).tdcUnits = s.tdcUnits := rfl
@[simp] theorem State.setMemWord_tdcLast (s : State) (sp : Space) (t i : Nat) (w : Word) : (s.setMemWord sp t i w).tdcLast = s.tdcLast := rfl
@[simp] theorem State.setMemWord_calHigh (s : State) (sp : Space) (t i : Nat) (w : Word) : (s.setMemWord sp t i w).calHigh = s.calHigh := rfl
@[simp] theorem State.setMemWord_tdcEdges (s : State) (sp : Space) (t i : Nat) (w : Word) : (s.setMemWord sp t i w).tdcEdges = s.tdcEdges := rfl
@[simp] theorem State.setMemWord_tdcResults (s : State) (sp : Space) (t i : Nat) (w : Word) : (s.setMemWord sp t i w).tdcResults = s.tdcResults := rfl
@[simp] theorem State.setMemWord_mons (s : State) (sp : Space) (t i : Nat) (w : Word) : (s.setMemWord sp t i w).mons = s.mons := rfl
@[simp] theorem State.setMemWord_monLine (s : State) (sp : Space) (t i : Nat) (w : Word) : (s.setMemWord sp t i w).monLine = s.monLine := rfl
@[simp] theorem State.setMemWord_monLast (s : State) (sp : Space) (t i : Nat) (w : Word) : (s.setMemWord sp t i w).monLast = s.monLast := rfl
@[simp] theorem State.setMemWord_evLog (s : State) (sp : Space) (t i : Nat) (w : Word) : (s.setMemWord sp t i w).evLog = s.evLog := rfl
@[simp] theorem State.setMemWord_asyncNow (s : State) (sp : Space) (t i : Nat) (w : Word) : (s.setMemWord sp t i w).asyncNow = s.asyncNow := rfl
@[simp] theorem State.setMemWord_tacks (s : State) (sp : Space) (t i : Nat) (w : Word) : (s.setMemWord sp t i w).tacks = s.tacks := rfl
@[simp] theorem State.setMemWord_timers (s : State) (sp : Space) (t i : Nat) (w : Word) : (s.setMemWord sp t i w).timers = s.timers := rfl
@[simp] theorem State.setMemWord_seamPipe (s : State) (sp : Space) (t i : Nat) (w : Word) : (s.setMemWord sp t i w).seamPipe = s.seamPipe := rfl
@[simp] theorem State.setMemWord_seamNow (s : State) (sp : Space) (t i : Nat) (w : Word) : (s.setMemWord sp t i w).seamNow = s.seamNow := rfl
@[simp] theorem State.setMemWord_seamOld (s : State) (sp : Space) (t i : Nat) (w : Word) : (s.setMemWord sp t i w).seamOld = s.seamOld := rfl
@[simp] theorem State.setMemWord_seamLevels (s : State) (sp : Space) (t i : Nat) (w : Word) : (s.setMemWord sp t i w).seamLevels = s.seamLevels := rfl
@[simp] theorem State.setMemWord_seamMarks (s : State) (sp : Space) (t i : Nat) (w : Word) : (s.setMemWord sp t i w).seamMarks = s.seamMarks := rfl
@[simp] theorem State.setMemWord_wakeDue (s : State) (sp : Space) (t i : Nat) (w : Word) : (s.setMemWord sp t i w).wakeDue = s.wakeDue := rfl
@[simp] theorem State.setMemWord_lostNow (s : State) (sp : Space) (t i : Nat) (w : Word) : (s.setMemWord sp t i w).lostNow = s.lostNow := rfl
@[simp] theorem State.setMemWord_phase (s : State) (sp : Space) (t i : Nat) (w : Word) : (s.setMemWord sp t i w).phase = s.phase := rfl
@[simp] theorem State.setMemWord_seamRaised (s : State) (sp : Space) (t i : Nat) (w : Word) : (s.setMemWord sp t i w).seamRaised = s.seamRaised := rfl
@[simp] theorem State.setMemWord_kept (s : State) (sp : Space) (t i : Nat) (w : Word) : (s.setMemWord sp t i w).kept = s.kept := rfl
@[simp] theorem State.setMemWord_mExec (s : State) (sp : Space) (t i : Nat) (w : Word) : (s.setMemWord sp t i w).mExec = s.mExec := rfl
@[simp] theorem State.setMemWord_mWait (s : State) (sp : Space) (t i : Nat) (w : Word) : (s.setMemWord sp t i w).mWait = s.mWait := rfl
@[simp] theorem State.setMemWord_qps (s : State) (sp : Space) (t i : Nat) (w : Word) : (s.setMemWord sp t i w).qps = s.qps := rfl
@[simp] theorem State.setMemWord_outReqs (s : State) (sp : Space) (t i : Nat) (w : Word) : (s.setMemWord sp t i w).outReqs = s.outReqs := rfl
@[simp] theorem State.setMemWord_fetched (s : State) (sp : Space) (t i : Nat) (w : Word) : (s.setMemWord sp t i w).fetched = s.fetched := rfl
@[simp] theorem State.setMemWord_begun (s : State) (sp : Space) (t i : Nat) (w : Word) : (s.setMemWord sp t i w).begun = s.begun := rfl
@[simp] theorem State.setMemWord_flying (s : State) (sp : Space) (t i : Nat) (w : Word) : (s.setMemWord sp t i w).flying = s.flying := rfl
@[simp] theorem State.setMemWord_shadowWait (s : State) (sp : Space) (t i : Nat) (w : Word) : (s.setMemWord sp t i w).shadowWait = s.shadowWait := rfl
@[simp] theorem State.setMemWord_cplWait (s : State) (sp : Space) (t i : Nat) (w : Word) : (s.setMemWord sp t i w).cplWait = s.cplWait := rfl
@[simp] theorem State.setMemWord_transfers (s : State) (sp : Space) (t i : Nat) (w : Word) : (s.setMemWord sp t i w).transfers = s.transfers := rfl
@[simp] theorem State.setMemWord_readWait (s : State) (sp : Space) (t i : Nat) (w : Word) : (s.setMemWord sp t i w).readWait = s.readWait := rfl
@[simp] theorem State.setMemWord_extents (s : State) (sp : Space) (t i : Nat) (w : Word) : (s.setMemWord sp t i w).extents = s.extents := rfl
@[simp] theorem State.setMemWord_feedEnd (s : State) (sp : Space) (t i : Nat) (w : Word) : (s.setMemWord sp t i w).feedEnd = s.feedEnd := rfl
@[simp] theorem State.setMemWord_holding (s : State) (sp : Space) (t i : Nat) (w : Word) : (s.setMemWord sp t i w).holding = s.holding := rfl
@[simp] theorem State.setMemWord_rqs (s : State) (sp : Space) (t i : Nat) (w : Word) : (s.setMemWord sp t i w).rqs = s.rqs := rfl
@[simp] theorem State.setMemWord_kenRun (s : State) (sp : Space) (t i : Nat) (w : Word) : (s.setMemWord sp t i w).kenRun = s.kenRun := rfl
@[simp] theorem State.setMemWord_heat (s : State) (sp : Space) (t i : Nat) (w : Word) : (s.setMemWord sp t i w).heat = s.heat := rfl
@[simp] theorem State.setMemWord_synSq (s : State) (sp : Space) (t i : Nat) (w : Word) : (s.setMemWord sp t i w).synSq = s.synSq := rfl
@[simp] theorem State.setMemWord_hw (s : State) (sp : Space) (t i : Nat) (w : Word) : (s.setMemWord sp t i w).hw = s.hw := rfl
@[simp] theorem State.setMemWord_hwQueue (s : State) (sp : Space) (t i : Nat) (w : Word) : (s.setMemWord sp t i w).hwQueue = s.hwQueue := rfl
@[simp] theorem State.setMemWord_hwWrite (s : State) (sp : Space) (t i : Nat) (w : Word) : (s.setMemWord sp t i w).hwWrite = s.hwWrite := rfl
@[simp] theorem State.setMemWord_fuses (s : State) (sp : Space) (t i : Nat) (w : Word) : (s.setMemWord sp t i w).fuses = s.fuses := rfl
@[simp] theorem State.setMemWord_boot (s : State) (sp : Space) (t i : Nat) (w : Word) : (s.setMemWord sp t i w).boot = s.boot := rfl
@[simp] theorem State.setMemWord_out (s : State) (sp : Space) (t i : Nat) (w : Word) : (s.setMemWord sp t i w).out = s.out := rfl
@[simp] theorem State.setMemWord_undef (s : State) (sp : Space) (t i : Nat) (w : Word) : (s.setMemWord sp t i w).undef = s.undef := rfl

/-! `setThread`. -/

@[simp] theorem State.setThread_pending (s : State) (q : Thr) (x : Thread) : (s.setThread q x).pending = s.pending := rfl
@[simp] theorem State.setThread_tick (s : State) (q : Thr) (x : Thread) : (s.setThread q x).tick = s.tick := rfl
@[simp] theorem State.setThread_ft (s : State) (q : Thr) (x : Thread) : (s.setThread q x).ft = s.ft := rfl
@[simp] theorem State.setThread_ftWas (s : State) (q : Thr) (x : Thread) : (s.setThread q x).ftWas = s.ftWas := rfl
@[simp] theorem State.setThread_ptpNs (s : State) (q : Thr) (x : Thread) : (s.setThread q x).ptpNs = s.ptpNs := rfl
@[simp] theorem State.setThread_ptpFrac (s : State) (q : Thr) (x : Thread) : (s.setThread q x).ptpFrac = s.ptpFrac := rfl
@[simp] theorem State.setThread_ptpStepNext (s : State) (q : Thr) (x : Thread) : (s.setThread q x).ptpStepNext = s.ptpStepNext := rfl
@[simp] theorem State.setThread_ptpMarks (s : State) (q : Thr) (x : Thread) : (s.setThread q x).ptpMarks = s.ptpMarks := rfl
@[simp] theorem State.setThread_ptpGood (s : State) (q : Thr) (x : Thread) : (s.setThread q x).ptpGood = s.ptpGood := rfl
@[simp] theorem State.setThread_ptpBad (s : State) (q : Thr) (x : Thread) : (s.setThread q x).ptpBad = s.ptpBad := rfl
@[simp] theorem State.setThread_ptpRun (s : State) (q : Thr) (x : Thread) : (s.setThread q x).ptpRun = s.ptpRun := rfl
@[simp] theorem State.setThread_syncLoad (s : State) (q : Thr) (x : Thread) : (s.setThread q x).syncLoad = s.syncLoad := rfl
@[simp] theorem State.setThread_ftJump (s : State) (q : Thr) (x : Thread) : (s.setThread q x).ftJump = s.ftJump := rfl
@[simp] theorem State.setThread_skewRun (s : State) (q : Thr) (x : Thread) : (s.setThread q x).skewRun = s.skewRun := rfl
@[simp] theorem State.setThread_skewRem (s : State) (q : Thr) (x : Thread) : (s.setThread q x).skewRem = s.skewRem := rfl
@[simp] theorem State.setThread_xtal (s : State) (q : Thr) (x : Thread) : (s.setThread q x).xtal = s.xtal := rfl
@[simp] theorem State.setThread_latchTick (s : State) (q : Thr) (x : Thread) : (s.setThread q x).latchTick = s.latchTick := rfl
@[simp] theorem State.setThread_pwrRun (s : State) (q : Thr) (x : Thread) : (s.setThread q x).pwrRun = s.pwrRun := rfl
@[simp] theorem State.setThread_linkSeq (s : State) (q : Thr) (x : Thread) : (s.setThread q x).linkSeq = s.linkSeq := rfl
@[simp] theorem State.setThread_regs (s : State) (q : Thr) (x : Thread) : (s.setThread q x).regs = s.regs := rfl
@[simp] theorem State.setThread_shadows (s : State) (q : Thr) (x : Thread) : (s.setThread q x).shadows = s.shadows := rfl
@[simp] theorem State.setThread_mem (s : State) (q : Thr) (x : Thread) : (s.setThread q x).mem = s.mem := rfl
@[simp] theorem State.setThread_poison (s : State) (q : Thr) (x : Thread) : (s.setThread q x).poison = s.poison := rfl
@[simp] theorem State.setThread_dirStage (s : State) (q : Thr) (x : Thread) : (s.setThread q x).dirStage = s.dirStage := rfl
@[simp] theorem State.setThread_entries (s : State) (q : Thr) (x : Thread) : (s.setThread q x).entries = s.entries := rfl
@[simp] theorem State.setThread_entry0 (s : State) (q : Thr) (x : Thread) : (s.setThread q x).entry0 = s.entry0 := rfl
@[simp] theorem State.setThread_ordSlot (s : State) (q : Thr) (x : Thread) : (s.setThread q x).ordSlot = s.ordSlot := rfl
@[simp] theorem State.setThread_priSlot (s : State) (q : Thr) (x : Thread) : (s.setThread q x).priSlot = s.priSlot := rfl
@[simp] theorem State.setThread_shots (s : State) (q : Thr) (x : Thread) : (s.setThread q x).shots = s.shots := rfl
@[simp] theorem State.setThread_nextShot (s : State) (q : Thr) (x : Thread) : (s.setThread q x).nextShot = s.nextShot := rfl
@[simp] theorem State.setThread_acts (s : State) (q : Thr) (x : Thread) : (s.setThread q x).acts = s.acts := rfl
@[simp] theorem State.setThread_plays (s : State) (q : Thr) (x : Thread) : (s.setThread q x).plays = s.plays := rfl
@[simp] theorem State.setThread_skirts (s : State) (q : Thr) (x : Thread) : (s.setThread q x).skirts = s.skirts := rfl
@[simp] theorem State.setThread_envRead (s : State) (q : Thr) (x : Thread) : (s.setThread q x).envRead = s.envRead := rfl
@[simp] theorem State.setThread_staged (s : State) (q : Thr) (x : Thread) : (s.setThread q x).staged = s.staged := rfl
@[simp] theorem State.setThread_pulses (s : State) (q : Thr) (x : Thread) : (s.setThread q x).pulses = s.pulses := rfl
@[simp] theorem State.setThread_marker (s : State) (q : Thr) (x : Thread) : (s.setThread q x).marker = s.marker := rfl
@[simp] theorem State.setThread_dacOut (s : State) (q : Thr) (x : Thread) : (s.setThread q x).dacOut = s.dacOut := rfl
@[simp] theorem State.setThread_bobs (s : State) (q : Thr) (x : Thread) : (s.setThread q x).bobs = s.bobs := rfl
@[simp] theorem State.setThread_slots (s : State) (q : Thr) (x : Thread) : (s.setThread q x).slots = s.slots := rfl
@[simp] theorem State.setThread_ledger (s : State) (q : Thr) (x : Thread) : (s.setThread q x).ledger = s.ledger := rfl
@[simp] theorem State.setThread_decTick (s : State) (q : Thr) (x : Thread) : (s.setThread q x).decTick = s.decTick := rfl
@[simp] theorem State.setThread_ledgerOld (s : State) (q : Thr) (x : Thread) : (s.setThread q x).ledgerOld = s.ledgerOld := rfl
@[simp] theorem State.setThread_ledgerTick (s : State) (q : Thr) (x : Thread) : (s.setThread q x).ledgerTick = s.ledgerTick := rfl
@[simp] theorem State.setThread_windows (s : State) (q : Thr) (x : Thread) : (s.setThread q x).windows = s.windows := rfl
@[simp] theorem State.setThread_acqReqs (s : State) (q : Thr) (x : Thread) : (s.setThread q x).acqReqs = s.acqReqs := rfl
@[simp] theorem State.setThread_demodPend (s : State) (q : Thr) (x : Thread) : (s.setThread q x).demodPend = s.demodPend := rfl
@[simp] theorem State.setThread_demodBank (s : State) (q : Thr) (x : Thread) : (s.setThread q x).demodBank = s.demodBank := rfl
@[simp] theorem State.setThread_corrPend (s : State) (q : Thr) (x : Thread) : (s.setThread q x).corrPend = s.corrPend := rfl
@[simp] theorem State.setThread_corrOnce (s : State) (q : Thr) (x : Thread) : (s.setThread q x).corrOnce = s.corrOnce := rfl
@[simp] theorem State.setThread_corrHist (s : State) (q : Thr) (x : Thread) : (s.setThread q x).corrHist = s.corrHist := rfl
@[simp] theorem State.setThread_adcHist (s : State) (q : Thr) (x : Thread) : (s.setThread q x).adcHist = s.adcHist := rfl
@[simp] theorem State.setThread_trains (s : State) (q : Thr) (x : Thread) : (s.setThread q x).trains = s.trains := rfl
@[simp] theorem State.setThread_traces (s : State) (q : Thr) (x : Thread) : (s.setThread q x).traces = s.traces := rfl
@[simp] theorem State.setThread_packs (s : State) (q : Thr) (x : Thread) : (s.setThread q x).packs = s.packs := rfl
@[simp] theorem State.setThread_ancs (s : State) (q : Thr) (x : Thread) : (s.setThread q x).ancs = s.ancs := rfl
@[simp] theorem State.setThread_patchMode (s : State) (q : Thr) (x : Thread) : (s.setThread q x).patchMode = s.patchMode := rfl
@[simp] theorem State.setThread_assemblies (s : State) (q : Thr) (x : Thread) : (s.setThread q x).assemblies = s.assemblies := rfl
@[simp] theorem State.setThread_patchTick (s : State) (q : Thr) (x : Thread) : (s.setThread q x).patchTick = s.patchTick := rfl
@[simp] theorem State.setThread_lanes (s : State) (q : Thr) (x : Thread) : (s.setThread q x).lanes = s.lanes := rfl
@[simp] theorem State.setThread_deliveries (s : State) (q : Thr) (x : Thread) : (s.setThread q x).deliveries = s.deliveries := rfl
@[simp] theorem State.setThread_delivered (s : State) (q : Thr) (x : Thread) : (s.setThread q x).delivered = s.delivered := rfl
@[simp] theorem State.setThread_exps (s : State) (q : Thr) (x : Thread) : (s.setThread q x).exps = s.exps := rfl
@[simp] theorem State.setThread_rxrStage (s : State) (q : Thr) (x : Thread) : (s.setThread q x).rxrStage = s.rxrStage := rfl
@[simp] theorem State.setThread_rxrOld (s : State) (q : Thr) (x : Thread) : (s.setThread q x).rxrOld = s.rxrOld := rfl
@[simp] theorem State.setThread_bars (s : State) (q : Thr) (x : Thread) : (s.setThread q x).bars = s.bars := rfl
@[simp] theorem State.setThread_fluxRuns (s : State) (q : Thr) (x : Thread) : (s.setThread q x).fluxRuns = s.fluxRuns := rfl
@[simp] theorem State.setThread_fits (s : State) (q : Thr) (x : Thread) : (s.setThread q x).fits = s.fits := rfl
@[simp] theorem State.setThread_biasOuts (s : State) (q : Thr) (x : Thread) : (s.setThread q x).biasOuts = s.biasOuts := rfl
@[simp] theorem State.setThread_scrubPos (s : State) (q : Thr) (x : Thread) : (s.setThread q x).scrubPos = s.scrubPos := rfl
@[simp] theorem State.setThread_tdcUnits (s : State) (q : Thr) (x : Thread) : (s.setThread q x).tdcUnits = s.tdcUnits := rfl
@[simp] theorem State.setThread_tdcLast (s : State) (q : Thr) (x : Thread) : (s.setThread q x).tdcLast = s.tdcLast := rfl
@[simp] theorem State.setThread_calHigh (s : State) (q : Thr) (x : Thread) : (s.setThread q x).calHigh = s.calHigh := rfl
@[simp] theorem State.setThread_tdcEdges (s : State) (q : Thr) (x : Thread) : (s.setThread q x).tdcEdges = s.tdcEdges := rfl
@[simp] theorem State.setThread_tdcResults (s : State) (q : Thr) (x : Thread) : (s.setThread q x).tdcResults = s.tdcResults := rfl
@[simp] theorem State.setThread_mons (s : State) (q : Thr) (x : Thread) : (s.setThread q x).mons = s.mons := rfl
@[simp] theorem State.setThread_monLine (s : State) (q : Thr) (x : Thread) : (s.setThread q x).monLine = s.monLine := rfl
@[simp] theorem State.setThread_monLast (s : State) (q : Thr) (x : Thread) : (s.setThread q x).monLast = s.monLast := rfl
@[simp] theorem State.setThread_evLog (s : State) (q : Thr) (x : Thread) : (s.setThread q x).evLog = s.evLog := rfl
@[simp] theorem State.setThread_asyncNow (s : State) (q : Thr) (x : Thread) : (s.setThread q x).asyncNow = s.asyncNow := rfl
@[simp] theorem State.setThread_tacks (s : State) (q : Thr) (x : Thread) : (s.setThread q x).tacks = s.tacks := rfl
@[simp] theorem State.setThread_timers (s : State) (q : Thr) (x : Thread) : (s.setThread q x).timers = s.timers := rfl
@[simp] theorem State.setThread_seamPipe (s : State) (q : Thr) (x : Thread) : (s.setThread q x).seamPipe = s.seamPipe := rfl
@[simp] theorem State.setThread_seamNow (s : State) (q : Thr) (x : Thread) : (s.setThread q x).seamNow = s.seamNow := rfl
@[simp] theorem State.setThread_seamOld (s : State) (q : Thr) (x : Thread) : (s.setThread q x).seamOld = s.seamOld := rfl
@[simp] theorem State.setThread_seamLevels (s : State) (q : Thr) (x : Thread) : (s.setThread q x).seamLevels = s.seamLevels := rfl
@[simp] theorem State.setThread_seamMarks (s : State) (q : Thr) (x : Thread) : (s.setThread q x).seamMarks = s.seamMarks := rfl
@[simp] theorem State.setThread_wakeDue (s : State) (q : Thr) (x : Thread) : (s.setThread q x).wakeDue = s.wakeDue := rfl
@[simp] theorem State.setThread_lostNow (s : State) (q : Thr) (x : Thread) : (s.setThread q x).lostNow = s.lostNow := rfl
@[simp] theorem State.setThread_phase (s : State) (q : Thr) (x : Thread) : (s.setThread q x).phase = s.phase := rfl
@[simp] theorem State.setThread_seamRaised (s : State) (q : Thr) (x : Thread) : (s.setThread q x).seamRaised = s.seamRaised := rfl
@[simp] theorem State.setThread_kept (s : State) (q : Thr) (x : Thread) : (s.setThread q x).kept = s.kept := rfl
@[simp] theorem State.setThread_mExec (s : State) (q : Thr) (x : Thread) : (s.setThread q x).mExec = s.mExec := rfl
@[simp] theorem State.setThread_mWait (s : State) (q : Thr) (x : Thread) : (s.setThread q x).mWait = s.mWait := rfl
@[simp] theorem State.setThread_qps (s : State) (q : Thr) (x : Thread) : (s.setThread q x).qps = s.qps := rfl
@[simp] theorem State.setThread_outReqs (s : State) (q : Thr) (x : Thread) : (s.setThread q x).outReqs = s.outReqs := rfl
@[simp] theorem State.setThread_fetched (s : State) (q : Thr) (x : Thread) : (s.setThread q x).fetched = s.fetched := rfl
@[simp] theorem State.setThread_begun (s : State) (q : Thr) (x : Thread) : (s.setThread q x).begun = s.begun := rfl
@[simp] theorem State.setThread_flying (s : State) (q : Thr) (x : Thread) : (s.setThread q x).flying = s.flying := rfl
@[simp] theorem State.setThread_shadowWait (s : State) (q : Thr) (x : Thread) : (s.setThread q x).shadowWait = s.shadowWait := rfl
@[simp] theorem State.setThread_cplWait (s : State) (q : Thr) (x : Thread) : (s.setThread q x).cplWait = s.cplWait := rfl
@[simp] theorem State.setThread_transfers (s : State) (q : Thr) (x : Thread) : (s.setThread q x).transfers = s.transfers := rfl
@[simp] theorem State.setThread_readWait (s : State) (q : Thr) (x : Thread) : (s.setThread q x).readWait = s.readWait := rfl
@[simp] theorem State.setThread_extents (s : State) (q : Thr) (x : Thread) : (s.setThread q x).extents = s.extents := rfl
@[simp] theorem State.setThread_feedEnd (s : State) (q : Thr) (x : Thread) : (s.setThread q x).feedEnd = s.feedEnd := rfl
@[simp] theorem State.setThread_holding (s : State) (q : Thr) (x : Thread) : (s.setThread q x).holding = s.holding := rfl
@[simp] theorem State.setThread_rqs (s : State) (q : Thr) (x : Thread) : (s.setThread q x).rqs = s.rqs := rfl
@[simp] theorem State.setThread_kenRun (s : State) (q : Thr) (x : Thread) : (s.setThread q x).kenRun = s.kenRun := rfl
@[simp] theorem State.setThread_heat (s : State) (q : Thr) (x : Thread) : (s.setThread q x).heat = s.heat := rfl
@[simp] theorem State.setThread_synSq (s : State) (q : Thr) (x : Thread) : (s.setThread q x).synSq = s.synSq := rfl
@[simp] theorem State.setThread_hw (s : State) (q : Thr) (x : Thread) : (s.setThread q x).hw = s.hw := rfl
@[simp] theorem State.setThread_hwQueue (s : State) (q : Thr) (x : Thread) : (s.setThread q x).hwQueue = s.hwQueue := rfl
@[simp] theorem State.setThread_hwWrite (s : State) (q : Thr) (x : Thread) : (s.setThread q x).hwWrite = s.hwWrite := rfl
@[simp] theorem State.setThread_fuses (s : State) (q : Thr) (x : Thread) : (s.setThread q x).fuses = s.fuses := rfl
@[simp] theorem State.setThread_boot (s : State) (q : Thr) (x : Thread) : (s.setThread q x).boot = s.boot := rfl
@[simp] theorem State.setThread_out (s : State) (q : Thr) (x : Thread) : (s.setThread q x).out = s.out := rfl
@[simp] theorem State.setThread_undef (s : State) (q : Thr) (x : Thread) : (s.setThread q x).undef = s.undef := rfl

/-! `modThread`. -/

@[simp] theorem State.modThread_pending (s : State) (q : Thr) (g : Thread → Thread) : (s.modThread q g).pending = s.pending := rfl
@[simp] theorem State.modThread_tick (s : State) (q : Thr) (g : Thread → Thread) : (s.modThread q g).tick = s.tick := rfl
@[simp] theorem State.modThread_ft (s : State) (q : Thr) (g : Thread → Thread) : (s.modThread q g).ft = s.ft := rfl
@[simp] theorem State.modThread_ftWas (s : State) (q : Thr) (g : Thread → Thread) : (s.modThread q g).ftWas = s.ftWas := rfl
@[simp] theorem State.modThread_ptpNs (s : State) (q : Thr) (g : Thread → Thread) : (s.modThread q g).ptpNs = s.ptpNs := rfl
@[simp] theorem State.modThread_ptpFrac (s : State) (q : Thr) (g : Thread → Thread) : (s.modThread q g).ptpFrac = s.ptpFrac := rfl
@[simp] theorem State.modThread_ptpStepNext (s : State) (q : Thr) (g : Thread → Thread) : (s.modThread q g).ptpStepNext = s.ptpStepNext := rfl
@[simp] theorem State.modThread_ptpMarks (s : State) (q : Thr) (g : Thread → Thread) : (s.modThread q g).ptpMarks = s.ptpMarks := rfl
@[simp] theorem State.modThread_ptpGood (s : State) (q : Thr) (g : Thread → Thread) : (s.modThread q g).ptpGood = s.ptpGood := rfl
@[simp] theorem State.modThread_ptpBad (s : State) (q : Thr) (g : Thread → Thread) : (s.modThread q g).ptpBad = s.ptpBad := rfl
@[simp] theorem State.modThread_ptpRun (s : State) (q : Thr) (g : Thread → Thread) : (s.modThread q g).ptpRun = s.ptpRun := rfl
@[simp] theorem State.modThread_syncLoad (s : State) (q : Thr) (g : Thread → Thread) : (s.modThread q g).syncLoad = s.syncLoad := rfl
@[simp] theorem State.modThread_ftJump (s : State) (q : Thr) (g : Thread → Thread) : (s.modThread q g).ftJump = s.ftJump := rfl
@[simp] theorem State.modThread_skewRun (s : State) (q : Thr) (g : Thread → Thread) : (s.modThread q g).skewRun = s.skewRun := rfl
@[simp] theorem State.modThread_skewRem (s : State) (q : Thr) (g : Thread → Thread) : (s.modThread q g).skewRem = s.skewRem := rfl
@[simp] theorem State.modThread_xtal (s : State) (q : Thr) (g : Thread → Thread) : (s.modThread q g).xtal = s.xtal := rfl
@[simp] theorem State.modThread_latchTick (s : State) (q : Thr) (g : Thread → Thread) : (s.modThread q g).latchTick = s.latchTick := rfl
@[simp] theorem State.modThread_pwrRun (s : State) (q : Thr) (g : Thread → Thread) : (s.modThread q g).pwrRun = s.pwrRun := rfl
@[simp] theorem State.modThread_linkSeq (s : State) (q : Thr) (g : Thread → Thread) : (s.modThread q g).linkSeq = s.linkSeq := rfl
@[simp] theorem State.modThread_regs (s : State) (q : Thr) (g : Thread → Thread) : (s.modThread q g).regs = s.regs := rfl
@[simp] theorem State.modThread_shadows (s : State) (q : Thr) (g : Thread → Thread) : (s.modThread q g).shadows = s.shadows := rfl
@[simp] theorem State.modThread_mem (s : State) (q : Thr) (g : Thread → Thread) : (s.modThread q g).mem = s.mem := rfl
@[simp] theorem State.modThread_poison (s : State) (q : Thr) (g : Thread → Thread) : (s.modThread q g).poison = s.poison := rfl
@[simp] theorem State.modThread_dirStage (s : State) (q : Thr) (g : Thread → Thread) : (s.modThread q g).dirStage = s.dirStage := rfl
@[simp] theorem State.modThread_entries (s : State) (q : Thr) (g : Thread → Thread) : (s.modThread q g).entries = s.entries := rfl
@[simp] theorem State.modThread_entry0 (s : State) (q : Thr) (g : Thread → Thread) : (s.modThread q g).entry0 = s.entry0 := rfl
@[simp] theorem State.modThread_ordSlot (s : State) (q : Thr) (g : Thread → Thread) : (s.modThread q g).ordSlot = s.ordSlot := rfl
@[simp] theorem State.modThread_priSlot (s : State) (q : Thr) (g : Thread → Thread) : (s.modThread q g).priSlot = s.priSlot := rfl
@[simp] theorem State.modThread_shots (s : State) (q : Thr) (g : Thread → Thread) : (s.modThread q g).shots = s.shots := rfl
@[simp] theorem State.modThread_nextShot (s : State) (q : Thr) (g : Thread → Thread) : (s.modThread q g).nextShot = s.nextShot := rfl
@[simp] theorem State.modThread_acts (s : State) (q : Thr) (g : Thread → Thread) : (s.modThread q g).acts = s.acts := rfl
@[simp] theorem State.modThread_plays (s : State) (q : Thr) (g : Thread → Thread) : (s.modThread q g).plays = s.plays := rfl
@[simp] theorem State.modThread_skirts (s : State) (q : Thr) (g : Thread → Thread) : (s.modThread q g).skirts = s.skirts := rfl
@[simp] theorem State.modThread_envRead (s : State) (q : Thr) (g : Thread → Thread) : (s.modThread q g).envRead = s.envRead := rfl
@[simp] theorem State.modThread_staged (s : State) (q : Thr) (g : Thread → Thread) : (s.modThread q g).staged = s.staged := rfl
@[simp] theorem State.modThread_pulses (s : State) (q : Thr) (g : Thread → Thread) : (s.modThread q g).pulses = s.pulses := rfl
@[simp] theorem State.modThread_marker (s : State) (q : Thr) (g : Thread → Thread) : (s.modThread q g).marker = s.marker := rfl
@[simp] theorem State.modThread_dacOut (s : State) (q : Thr) (g : Thread → Thread) : (s.modThread q g).dacOut = s.dacOut := rfl
@[simp] theorem State.modThread_bobs (s : State) (q : Thr) (g : Thread → Thread) : (s.modThread q g).bobs = s.bobs := rfl
@[simp] theorem State.modThread_slots (s : State) (q : Thr) (g : Thread → Thread) : (s.modThread q g).slots = s.slots := rfl
@[simp] theorem State.modThread_ledger (s : State) (q : Thr) (g : Thread → Thread) : (s.modThread q g).ledger = s.ledger := rfl
@[simp] theorem State.modThread_decTick (s : State) (q : Thr) (g : Thread → Thread) : (s.modThread q g).decTick = s.decTick := rfl
@[simp] theorem State.modThread_ledgerOld (s : State) (q : Thr) (g : Thread → Thread) : (s.modThread q g).ledgerOld = s.ledgerOld := rfl
@[simp] theorem State.modThread_ledgerTick (s : State) (q : Thr) (g : Thread → Thread) : (s.modThread q g).ledgerTick = s.ledgerTick := rfl
@[simp] theorem State.modThread_windows (s : State) (q : Thr) (g : Thread → Thread) : (s.modThread q g).windows = s.windows := rfl
@[simp] theorem State.modThread_acqReqs (s : State) (q : Thr) (g : Thread → Thread) : (s.modThread q g).acqReqs = s.acqReqs := rfl
@[simp] theorem State.modThread_demodPend (s : State) (q : Thr) (g : Thread → Thread) : (s.modThread q g).demodPend = s.demodPend := rfl
@[simp] theorem State.modThread_demodBank (s : State) (q : Thr) (g : Thread → Thread) : (s.modThread q g).demodBank = s.demodBank := rfl
@[simp] theorem State.modThread_corrPend (s : State) (q : Thr) (g : Thread → Thread) : (s.modThread q g).corrPend = s.corrPend := rfl
@[simp] theorem State.modThread_corrOnce (s : State) (q : Thr) (g : Thread → Thread) : (s.modThread q g).corrOnce = s.corrOnce := rfl
@[simp] theorem State.modThread_corrHist (s : State) (q : Thr) (g : Thread → Thread) : (s.modThread q g).corrHist = s.corrHist := rfl
@[simp] theorem State.modThread_adcHist (s : State) (q : Thr) (g : Thread → Thread) : (s.modThread q g).adcHist = s.adcHist := rfl
@[simp] theorem State.modThread_trains (s : State) (q : Thr) (g : Thread → Thread) : (s.modThread q g).trains = s.trains := rfl
@[simp] theorem State.modThread_traces (s : State) (q : Thr) (g : Thread → Thread) : (s.modThread q g).traces = s.traces := rfl
@[simp] theorem State.modThread_packs (s : State) (q : Thr) (g : Thread → Thread) : (s.modThread q g).packs = s.packs := rfl
@[simp] theorem State.modThread_ancs (s : State) (q : Thr) (g : Thread → Thread) : (s.modThread q g).ancs = s.ancs := rfl
@[simp] theorem State.modThread_patchMode (s : State) (q : Thr) (g : Thread → Thread) : (s.modThread q g).patchMode = s.patchMode := rfl
@[simp] theorem State.modThread_assemblies (s : State) (q : Thr) (g : Thread → Thread) : (s.modThread q g).assemblies = s.assemblies := rfl
@[simp] theorem State.modThread_patchTick (s : State) (q : Thr) (g : Thread → Thread) : (s.modThread q g).patchTick = s.patchTick := rfl
@[simp] theorem State.modThread_lanes (s : State) (q : Thr) (g : Thread → Thread) : (s.modThread q g).lanes = s.lanes := rfl
@[simp] theorem State.modThread_deliveries (s : State) (q : Thr) (g : Thread → Thread) : (s.modThread q g).deliveries = s.deliveries := rfl
@[simp] theorem State.modThread_delivered (s : State) (q : Thr) (g : Thread → Thread) : (s.modThread q g).delivered = s.delivered := rfl
@[simp] theorem State.modThread_exps (s : State) (q : Thr) (g : Thread → Thread) : (s.modThread q g).exps = s.exps := rfl
@[simp] theorem State.modThread_rxrStage (s : State) (q : Thr) (g : Thread → Thread) : (s.modThread q g).rxrStage = s.rxrStage := rfl
@[simp] theorem State.modThread_rxrOld (s : State) (q : Thr) (g : Thread → Thread) : (s.modThread q g).rxrOld = s.rxrOld := rfl
@[simp] theorem State.modThread_bars (s : State) (q : Thr) (g : Thread → Thread) : (s.modThread q g).bars = s.bars := rfl
@[simp] theorem State.modThread_fluxRuns (s : State) (q : Thr) (g : Thread → Thread) : (s.modThread q g).fluxRuns = s.fluxRuns := rfl
@[simp] theorem State.modThread_fits (s : State) (q : Thr) (g : Thread → Thread) : (s.modThread q g).fits = s.fits := rfl
@[simp] theorem State.modThread_biasOuts (s : State) (q : Thr) (g : Thread → Thread) : (s.modThread q g).biasOuts = s.biasOuts := rfl
@[simp] theorem State.modThread_scrubPos (s : State) (q : Thr) (g : Thread → Thread) : (s.modThread q g).scrubPos = s.scrubPos := rfl
@[simp] theorem State.modThread_tdcUnits (s : State) (q : Thr) (g : Thread → Thread) : (s.modThread q g).tdcUnits = s.tdcUnits := rfl
@[simp] theorem State.modThread_tdcLast (s : State) (q : Thr) (g : Thread → Thread) : (s.modThread q g).tdcLast = s.tdcLast := rfl
@[simp] theorem State.modThread_calHigh (s : State) (q : Thr) (g : Thread → Thread) : (s.modThread q g).calHigh = s.calHigh := rfl
@[simp] theorem State.modThread_tdcEdges (s : State) (q : Thr) (g : Thread → Thread) : (s.modThread q g).tdcEdges = s.tdcEdges := rfl
@[simp] theorem State.modThread_tdcResults (s : State) (q : Thr) (g : Thread → Thread) : (s.modThread q g).tdcResults = s.tdcResults := rfl
@[simp] theorem State.modThread_mons (s : State) (q : Thr) (g : Thread → Thread) : (s.modThread q g).mons = s.mons := rfl
@[simp] theorem State.modThread_monLine (s : State) (q : Thr) (g : Thread → Thread) : (s.modThread q g).monLine = s.monLine := rfl
@[simp] theorem State.modThread_monLast (s : State) (q : Thr) (g : Thread → Thread) : (s.modThread q g).monLast = s.monLast := rfl
@[simp] theorem State.modThread_evLog (s : State) (q : Thr) (g : Thread → Thread) : (s.modThread q g).evLog = s.evLog := rfl
@[simp] theorem State.modThread_asyncNow (s : State) (q : Thr) (g : Thread → Thread) : (s.modThread q g).asyncNow = s.asyncNow := rfl
@[simp] theorem State.modThread_tacks (s : State) (q : Thr) (g : Thread → Thread) : (s.modThread q g).tacks = s.tacks := rfl
@[simp] theorem State.modThread_timers (s : State) (q : Thr) (g : Thread → Thread) : (s.modThread q g).timers = s.timers := rfl
@[simp] theorem State.modThread_seamPipe (s : State) (q : Thr) (g : Thread → Thread) : (s.modThread q g).seamPipe = s.seamPipe := rfl
@[simp] theorem State.modThread_seamNow (s : State) (q : Thr) (g : Thread → Thread) : (s.modThread q g).seamNow = s.seamNow := rfl
@[simp] theorem State.modThread_seamOld (s : State) (q : Thr) (g : Thread → Thread) : (s.modThread q g).seamOld = s.seamOld := rfl
@[simp] theorem State.modThread_seamLevels (s : State) (q : Thr) (g : Thread → Thread) : (s.modThread q g).seamLevels = s.seamLevels := rfl
@[simp] theorem State.modThread_seamMarks (s : State) (q : Thr) (g : Thread → Thread) : (s.modThread q g).seamMarks = s.seamMarks := rfl
@[simp] theorem State.modThread_wakeDue (s : State) (q : Thr) (g : Thread → Thread) : (s.modThread q g).wakeDue = s.wakeDue := rfl
@[simp] theorem State.modThread_lostNow (s : State) (q : Thr) (g : Thread → Thread) : (s.modThread q g).lostNow = s.lostNow := rfl
@[simp] theorem State.modThread_phase (s : State) (q : Thr) (g : Thread → Thread) : (s.modThread q g).phase = s.phase := rfl
@[simp] theorem State.modThread_seamRaised (s : State) (q : Thr) (g : Thread → Thread) : (s.modThread q g).seamRaised = s.seamRaised := rfl
@[simp] theorem State.modThread_kept (s : State) (q : Thr) (g : Thread → Thread) : (s.modThread q g).kept = s.kept := rfl
@[simp] theorem State.modThread_mExec (s : State) (q : Thr) (g : Thread → Thread) : (s.modThread q g).mExec = s.mExec := rfl
@[simp] theorem State.modThread_mWait (s : State) (q : Thr) (g : Thread → Thread) : (s.modThread q g).mWait = s.mWait := rfl
@[simp] theorem State.modThread_qps (s : State) (q : Thr) (g : Thread → Thread) : (s.modThread q g).qps = s.qps := rfl
@[simp] theorem State.modThread_outReqs (s : State) (q : Thr) (g : Thread → Thread) : (s.modThread q g).outReqs = s.outReqs := rfl
@[simp] theorem State.modThread_fetched (s : State) (q : Thr) (g : Thread → Thread) : (s.modThread q g).fetched = s.fetched := rfl
@[simp] theorem State.modThread_begun (s : State) (q : Thr) (g : Thread → Thread) : (s.modThread q g).begun = s.begun := rfl
@[simp] theorem State.modThread_flying (s : State) (q : Thr) (g : Thread → Thread) : (s.modThread q g).flying = s.flying := rfl
@[simp] theorem State.modThread_shadowWait (s : State) (q : Thr) (g : Thread → Thread) : (s.modThread q g).shadowWait = s.shadowWait := rfl
@[simp] theorem State.modThread_cplWait (s : State) (q : Thr) (g : Thread → Thread) : (s.modThread q g).cplWait = s.cplWait := rfl
@[simp] theorem State.modThread_transfers (s : State) (q : Thr) (g : Thread → Thread) : (s.modThread q g).transfers = s.transfers := rfl
@[simp] theorem State.modThread_readWait (s : State) (q : Thr) (g : Thread → Thread) : (s.modThread q g).readWait = s.readWait := rfl
@[simp] theorem State.modThread_extents (s : State) (q : Thr) (g : Thread → Thread) : (s.modThread q g).extents = s.extents := rfl
@[simp] theorem State.modThread_feedEnd (s : State) (q : Thr) (g : Thread → Thread) : (s.modThread q g).feedEnd = s.feedEnd := rfl
@[simp] theorem State.modThread_holding (s : State) (q : Thr) (g : Thread → Thread) : (s.modThread q g).holding = s.holding := rfl
@[simp] theorem State.modThread_rqs (s : State) (q : Thr) (g : Thread → Thread) : (s.modThread q g).rqs = s.rqs := rfl
@[simp] theorem State.modThread_kenRun (s : State) (q : Thr) (g : Thread → Thread) : (s.modThread q g).kenRun = s.kenRun := rfl
@[simp] theorem State.modThread_heat (s : State) (q : Thr) (g : Thread → Thread) : (s.modThread q g).heat = s.heat := rfl
@[simp] theorem State.modThread_synSq (s : State) (q : Thr) (g : Thread → Thread) : (s.modThread q g).synSq = s.synSq := rfl
@[simp] theorem State.modThread_hw (s : State) (q : Thr) (g : Thread → Thread) : (s.modThread q g).hw = s.hw := rfl
@[simp] theorem State.modThread_hwQueue (s : State) (q : Thr) (g : Thread → Thread) : (s.modThread q g).hwQueue = s.hwQueue := rfl
@[simp] theorem State.modThread_hwWrite (s : State) (q : Thr) (g : Thread → Thread) : (s.modThread q g).hwWrite = s.hwWrite := rfl
@[simp] theorem State.modThread_fuses (s : State) (q : Thr) (g : Thread → Thread) : (s.modThread q g).fuses = s.fuses := rfl
@[simp] theorem State.modThread_boot (s : State) (q : Thr) (g : Thread → Thread) : (s.modThread q g).boot = s.boot := rfl
@[simp] theorem State.modThread_out (s : State) (q : Thr) (g : Thread → Thread) : (s.modThread q g).out = s.out := rfl
@[simp] theorem State.modThread_undef (s : State) (q : Thr) (g : Thread → Thread) : (s.modThread q g).undef = s.undef := rfl

/-! `pulse`. -/

@[simp] theorem State.pulse_pending (s : State) (n : Nat) : (s.pulse n).pending = s.pending := rfl
@[simp] theorem State.pulse_tick (s : State) (n : Nat) : (s.pulse n).tick = s.tick := rfl
@[simp] theorem State.pulse_ft (s : State) (n : Nat) : (s.pulse n).ft = s.ft := rfl
@[simp] theorem State.pulse_ftWas (s : State) (n : Nat) : (s.pulse n).ftWas = s.ftWas := rfl
@[simp] theorem State.pulse_ptpNs (s : State) (n : Nat) : (s.pulse n).ptpNs = s.ptpNs := rfl
@[simp] theorem State.pulse_ptpFrac (s : State) (n : Nat) : (s.pulse n).ptpFrac = s.ptpFrac := rfl
@[simp] theorem State.pulse_ptpStepNext (s : State) (n : Nat) : (s.pulse n).ptpStepNext = s.ptpStepNext := rfl
@[simp] theorem State.pulse_ptpMarks (s : State) (n : Nat) : (s.pulse n).ptpMarks = s.ptpMarks := rfl
@[simp] theorem State.pulse_ptpGood (s : State) (n : Nat) : (s.pulse n).ptpGood = s.ptpGood := rfl
@[simp] theorem State.pulse_ptpBad (s : State) (n : Nat) : (s.pulse n).ptpBad = s.ptpBad := rfl
@[simp] theorem State.pulse_ptpRun (s : State) (n : Nat) : (s.pulse n).ptpRun = s.ptpRun := rfl
@[simp] theorem State.pulse_syncLoad (s : State) (n : Nat) : (s.pulse n).syncLoad = s.syncLoad := rfl
@[simp] theorem State.pulse_ftJump (s : State) (n : Nat) : (s.pulse n).ftJump = s.ftJump := rfl
@[simp] theorem State.pulse_skewRun (s : State) (n : Nat) : (s.pulse n).skewRun = s.skewRun := rfl
@[simp] theorem State.pulse_skewRem (s : State) (n : Nat) : (s.pulse n).skewRem = s.skewRem := rfl
@[simp] theorem State.pulse_xtal (s : State) (n : Nat) : (s.pulse n).xtal = s.xtal := rfl
@[simp] theorem State.pulse_latchTick (s : State) (n : Nat) : (s.pulse n).latchTick = s.latchTick := rfl
@[simp] theorem State.pulse_pwrRun (s : State) (n : Nat) : (s.pulse n).pwrRun = s.pwrRun := rfl
@[simp] theorem State.pulse_linkSeq (s : State) (n : Nat) : (s.pulse n).linkSeq = s.linkSeq := rfl
@[simp] theorem State.pulse_regs (s : State) (n : Nat) : (s.pulse n).regs = s.regs := rfl
@[simp] theorem State.pulse_shadows (s : State) (n : Nat) : (s.pulse n).shadows = s.shadows := rfl
@[simp] theorem State.pulse_mem (s : State) (n : Nat) : (s.pulse n).mem = s.mem := rfl
@[simp] theorem State.pulse_poison (s : State) (n : Nat) : (s.pulse n).poison = s.poison := rfl
@[simp] theorem State.pulse_dirStage (s : State) (n : Nat) : (s.pulse n).dirStage = s.dirStage := rfl
@[simp] theorem State.pulse_entries (s : State) (n : Nat) : (s.pulse n).entries = s.entries := rfl
@[simp] theorem State.pulse_entry0 (s : State) (n : Nat) : (s.pulse n).entry0 = s.entry0 := rfl
@[simp] theorem State.pulse_threads (s : State) (n : Nat) : (s.pulse n).threads = s.threads := rfl
@[simp] theorem State.pulse_ordSlot (s : State) (n : Nat) : (s.pulse n).ordSlot = s.ordSlot := rfl
@[simp] theorem State.pulse_priSlot (s : State) (n : Nat) : (s.pulse n).priSlot = s.priSlot := rfl
@[simp] theorem State.pulse_shots (s : State) (n : Nat) : (s.pulse n).shots = s.shots := rfl
@[simp] theorem State.pulse_nextShot (s : State) (n : Nat) : (s.pulse n).nextShot = s.nextShot := rfl
@[simp] theorem State.pulse_acts (s : State) (n : Nat) : (s.pulse n).acts = s.acts := rfl
@[simp] theorem State.pulse_plays (s : State) (n : Nat) : (s.pulse n).plays = s.plays := rfl
@[simp] theorem State.pulse_skirts (s : State) (n : Nat) : (s.pulse n).skirts = s.skirts := rfl
@[simp] theorem State.pulse_envRead (s : State) (n : Nat) : (s.pulse n).envRead = s.envRead := rfl
@[simp] theorem State.pulse_staged (s : State) (n : Nat) : (s.pulse n).staged = s.staged := rfl
@[simp] theorem State.pulse_pulses (s : State) (n : Nat) : (s.pulse n).pulses = s.pulses := rfl
@[simp] theorem State.pulse_marker (s : State) (n : Nat) : (s.pulse n).marker = s.marker := rfl
@[simp] theorem State.pulse_dacOut (s : State) (n : Nat) : (s.pulse n).dacOut = s.dacOut := rfl
@[simp] theorem State.pulse_bobs (s : State) (n : Nat) : (s.pulse n).bobs = s.bobs := rfl
@[simp] theorem State.pulse_slots (s : State) (n : Nat) : (s.pulse n).slots = s.slots := rfl
@[simp] theorem State.pulse_ledger (s : State) (n : Nat) : (s.pulse n).ledger = s.ledger := rfl
@[simp] theorem State.pulse_decTick (s : State) (n : Nat) : (s.pulse n).decTick = s.decTick := rfl
@[simp] theorem State.pulse_ledgerOld (s : State) (n : Nat) : (s.pulse n).ledgerOld = s.ledgerOld := rfl
@[simp] theorem State.pulse_ledgerTick (s : State) (n : Nat) : (s.pulse n).ledgerTick = s.ledgerTick := rfl
@[simp] theorem State.pulse_windows (s : State) (n : Nat) : (s.pulse n).windows = s.windows := rfl
@[simp] theorem State.pulse_acqReqs (s : State) (n : Nat) : (s.pulse n).acqReqs = s.acqReqs := rfl
@[simp] theorem State.pulse_demodPend (s : State) (n : Nat) : (s.pulse n).demodPend = s.demodPend := rfl
@[simp] theorem State.pulse_demodBank (s : State) (n : Nat) : (s.pulse n).demodBank = s.demodBank := rfl
@[simp] theorem State.pulse_corrPend (s : State) (n : Nat) : (s.pulse n).corrPend = s.corrPend := rfl
@[simp] theorem State.pulse_corrOnce (s : State) (n : Nat) : (s.pulse n).corrOnce = s.corrOnce := rfl
@[simp] theorem State.pulse_corrHist (s : State) (n : Nat) : (s.pulse n).corrHist = s.corrHist := rfl
@[simp] theorem State.pulse_adcHist (s : State) (n : Nat) : (s.pulse n).adcHist = s.adcHist := rfl
@[simp] theorem State.pulse_trains (s : State) (n : Nat) : (s.pulse n).trains = s.trains := rfl
@[simp] theorem State.pulse_traces (s : State) (n : Nat) : (s.pulse n).traces = s.traces := rfl
@[simp] theorem State.pulse_packs (s : State) (n : Nat) : (s.pulse n).packs = s.packs := rfl
@[simp] theorem State.pulse_ancs (s : State) (n : Nat) : (s.pulse n).ancs = s.ancs := rfl
@[simp] theorem State.pulse_patchMode (s : State) (n : Nat) : (s.pulse n).patchMode = s.patchMode := rfl
@[simp] theorem State.pulse_assemblies (s : State) (n : Nat) : (s.pulse n).assemblies = s.assemblies := rfl
@[simp] theorem State.pulse_patchTick (s : State) (n : Nat) : (s.pulse n).patchTick = s.patchTick := rfl
@[simp] theorem State.pulse_lanes (s : State) (n : Nat) : (s.pulse n).lanes = s.lanes := rfl
@[simp] theorem State.pulse_deliveries (s : State) (n : Nat) : (s.pulse n).deliveries = s.deliveries := rfl
@[simp] theorem State.pulse_delivered (s : State) (n : Nat) : (s.pulse n).delivered = s.delivered := rfl
@[simp] theorem State.pulse_exps (s : State) (n : Nat) : (s.pulse n).exps = s.exps := rfl
@[simp] theorem State.pulse_rxrStage (s : State) (n : Nat) : (s.pulse n).rxrStage = s.rxrStage := rfl
@[simp] theorem State.pulse_rxrOld (s : State) (n : Nat) : (s.pulse n).rxrOld = s.rxrOld := rfl
@[simp] theorem State.pulse_bars (s : State) (n : Nat) : (s.pulse n).bars = s.bars := rfl
@[simp] theorem State.pulse_fluxRuns (s : State) (n : Nat) : (s.pulse n).fluxRuns = s.fluxRuns := rfl
@[simp] theorem State.pulse_fits (s : State) (n : Nat) : (s.pulse n).fits = s.fits := rfl
@[simp] theorem State.pulse_biasOuts (s : State) (n : Nat) : (s.pulse n).biasOuts = s.biasOuts := rfl
@[simp] theorem State.pulse_scrubPos (s : State) (n : Nat) : (s.pulse n).scrubPos = s.scrubPos := rfl
@[simp] theorem State.pulse_tdcUnits (s : State) (n : Nat) : (s.pulse n).tdcUnits = s.tdcUnits := rfl
@[simp] theorem State.pulse_tdcLast (s : State) (n : Nat) : (s.pulse n).tdcLast = s.tdcLast := rfl
@[simp] theorem State.pulse_calHigh (s : State) (n : Nat) : (s.pulse n).calHigh = s.calHigh := rfl
@[simp] theorem State.pulse_tdcEdges (s : State) (n : Nat) : (s.pulse n).tdcEdges = s.tdcEdges := rfl
@[simp] theorem State.pulse_tdcResults (s : State) (n : Nat) : (s.pulse n).tdcResults = s.tdcResults := rfl
@[simp] theorem State.pulse_mons (s : State) (n : Nat) : (s.pulse n).mons = s.mons := rfl
@[simp] theorem State.pulse_monLine (s : State) (n : Nat) : (s.pulse n).monLine = s.monLine := rfl
@[simp] theorem State.pulse_monLast (s : State) (n : Nat) : (s.pulse n).monLast = s.monLast := rfl
@[simp] theorem State.pulse_evLog (s : State) (n : Nat) : (s.pulse n).evLog = s.evLog := rfl
@[simp] theorem State.pulse_asyncNow (s : State) (n : Nat) : (s.pulse n).asyncNow = s.asyncNow := rfl
@[simp] theorem State.pulse_tacks (s : State) (n : Nat) : (s.pulse n).tacks = s.tacks := rfl
@[simp] theorem State.pulse_timers (s : State) (n : Nat) : (s.pulse n).timers = s.timers := rfl
@[simp] theorem State.pulse_seamPipe (s : State) (n : Nat) : (s.pulse n).seamPipe = s.seamPipe := rfl
@[simp] theorem State.pulse_seamNow (s : State) (n : Nat) : (s.pulse n).seamNow = s.seamNow := rfl
@[simp] theorem State.pulse_seamOld (s : State) (n : Nat) : (s.pulse n).seamOld = s.seamOld := rfl
@[simp] theorem State.pulse_seamLevels (s : State) (n : Nat) : (s.pulse n).seamLevels = s.seamLevels := rfl
@[simp] theorem State.pulse_seamMarks (s : State) (n : Nat) : (s.pulse n).seamMarks = s.seamMarks := rfl
@[simp] theorem State.pulse_wakeDue (s : State) (n : Nat) : (s.pulse n).wakeDue = s.wakeDue := rfl
@[simp] theorem State.pulse_lostNow (s : State) (n : Nat) : (s.pulse n).lostNow = s.lostNow := rfl
@[simp] theorem State.pulse_phase (s : State) (n : Nat) : (s.pulse n).phase = s.phase := rfl
@[simp] theorem State.pulse_kept (s : State) (n : Nat) : (s.pulse n).kept = s.kept := rfl
@[simp] theorem State.pulse_mExec (s : State) (n : Nat) : (s.pulse n).mExec = s.mExec := rfl
@[simp] theorem State.pulse_mWait (s : State) (n : Nat) : (s.pulse n).mWait = s.mWait := rfl
@[simp] theorem State.pulse_qps (s : State) (n : Nat) : (s.pulse n).qps = s.qps := rfl
@[simp] theorem State.pulse_outReqs (s : State) (n : Nat) : (s.pulse n).outReqs = s.outReqs := rfl
@[simp] theorem State.pulse_fetched (s : State) (n : Nat) : (s.pulse n).fetched = s.fetched := rfl
@[simp] theorem State.pulse_begun (s : State) (n : Nat) : (s.pulse n).begun = s.begun := rfl
@[simp] theorem State.pulse_flying (s : State) (n : Nat) : (s.pulse n).flying = s.flying := rfl
@[simp] theorem State.pulse_shadowWait (s : State) (n : Nat) : (s.pulse n).shadowWait = s.shadowWait := rfl
@[simp] theorem State.pulse_cplWait (s : State) (n : Nat) : (s.pulse n).cplWait = s.cplWait := rfl
@[simp] theorem State.pulse_transfers (s : State) (n : Nat) : (s.pulse n).transfers = s.transfers := rfl
@[simp] theorem State.pulse_readWait (s : State) (n : Nat) : (s.pulse n).readWait = s.readWait := rfl
@[simp] theorem State.pulse_extents (s : State) (n : Nat) : (s.pulse n).extents = s.extents := rfl
@[simp] theorem State.pulse_feedEnd (s : State) (n : Nat) : (s.pulse n).feedEnd = s.feedEnd := rfl
@[simp] theorem State.pulse_holding (s : State) (n : Nat) : (s.pulse n).holding = s.holding := rfl
@[simp] theorem State.pulse_rqs (s : State) (n : Nat) : (s.pulse n).rqs = s.rqs := rfl
@[simp] theorem State.pulse_kenRun (s : State) (n : Nat) : (s.pulse n).kenRun = s.kenRun := rfl
@[simp] theorem State.pulse_heat (s : State) (n : Nat) : (s.pulse n).heat = s.heat := rfl
@[simp] theorem State.pulse_synSq (s : State) (n : Nat) : (s.pulse n).synSq = s.synSq := rfl
@[simp] theorem State.pulse_hw (s : State) (n : Nat) : (s.pulse n).hw = s.hw := rfl
@[simp] theorem State.pulse_hwQueue (s : State) (n : Nat) : (s.pulse n).hwQueue = s.hwQueue := rfl
@[simp] theorem State.pulse_hwWrite (s : State) (n : Nat) : (s.pulse n).hwWrite = s.hwWrite := rfl
@[simp] theorem State.pulse_fuses (s : State) (n : Nat) : (s.pulse n).fuses = s.fuses := rfl
@[simp] theorem State.pulse_boot (s : State) (n : Nat) : (s.pulse n).boot = s.boot := rfl
@[simp] theorem State.pulse_out (s : State) (n : Nat) : (s.pulse n).out = s.out := rfl
@[simp] theorem State.pulse_undef (s : State) (n : Nat) : (s.pulse n).undef = s.undef := rfl

/-! `send`. -/

@[simp] theorem State.send_pending (s : State) (o : Out) : (s.send o).pending = s.pending := rfl
@[simp] theorem State.send_tick (s : State) (o : Out) : (s.send o).tick = s.tick := rfl
@[simp] theorem State.send_ft (s : State) (o : Out) : (s.send o).ft = s.ft := rfl
@[simp] theorem State.send_ftWas (s : State) (o : Out) : (s.send o).ftWas = s.ftWas := rfl
@[simp] theorem State.send_ptpNs (s : State) (o : Out) : (s.send o).ptpNs = s.ptpNs := rfl
@[simp] theorem State.send_ptpFrac (s : State) (o : Out) : (s.send o).ptpFrac = s.ptpFrac := rfl
@[simp] theorem State.send_ptpStepNext (s : State) (o : Out) : (s.send o).ptpStepNext = s.ptpStepNext := rfl
@[simp] theorem State.send_ptpMarks (s : State) (o : Out) : (s.send o).ptpMarks = s.ptpMarks := rfl
@[simp] theorem State.send_ptpGood (s : State) (o : Out) : (s.send o).ptpGood = s.ptpGood := rfl
@[simp] theorem State.send_ptpBad (s : State) (o : Out) : (s.send o).ptpBad = s.ptpBad := rfl
@[simp] theorem State.send_ptpRun (s : State) (o : Out) : (s.send o).ptpRun = s.ptpRun := rfl
@[simp] theorem State.send_syncLoad (s : State) (o : Out) : (s.send o).syncLoad = s.syncLoad := rfl
@[simp] theorem State.send_ftJump (s : State) (o : Out) : (s.send o).ftJump = s.ftJump := rfl
@[simp] theorem State.send_skewRun (s : State) (o : Out) : (s.send o).skewRun = s.skewRun := rfl
@[simp] theorem State.send_skewRem (s : State) (o : Out) : (s.send o).skewRem = s.skewRem := rfl
@[simp] theorem State.send_xtal (s : State) (o : Out) : (s.send o).xtal = s.xtal := rfl
@[simp] theorem State.send_latchTick (s : State) (o : Out) : (s.send o).latchTick = s.latchTick := rfl
@[simp] theorem State.send_pwrRun (s : State) (o : Out) : (s.send o).pwrRun = s.pwrRun := rfl
@[simp] theorem State.send_linkSeq (s : State) (o : Out) : (s.send o).linkSeq = s.linkSeq := rfl
@[simp] theorem State.send_regs (s : State) (o : Out) : (s.send o).regs = s.regs := rfl
@[simp] theorem State.send_shadows (s : State) (o : Out) : (s.send o).shadows = s.shadows := rfl
@[simp] theorem State.send_mem (s : State) (o : Out) : (s.send o).mem = s.mem := rfl
@[simp] theorem State.send_poison (s : State) (o : Out) : (s.send o).poison = s.poison := rfl
@[simp] theorem State.send_dirStage (s : State) (o : Out) : (s.send o).dirStage = s.dirStage := rfl
@[simp] theorem State.send_entries (s : State) (o : Out) : (s.send o).entries = s.entries := rfl
@[simp] theorem State.send_entry0 (s : State) (o : Out) : (s.send o).entry0 = s.entry0 := rfl
@[simp] theorem State.send_threads (s : State) (o : Out) : (s.send o).threads = s.threads := rfl
@[simp] theorem State.send_ordSlot (s : State) (o : Out) : (s.send o).ordSlot = s.ordSlot := rfl
@[simp] theorem State.send_priSlot (s : State) (o : Out) : (s.send o).priSlot = s.priSlot := rfl
@[simp] theorem State.send_shots (s : State) (o : Out) : (s.send o).shots = s.shots := rfl
@[simp] theorem State.send_nextShot (s : State) (o : Out) : (s.send o).nextShot = s.nextShot := rfl
@[simp] theorem State.send_acts (s : State) (o : Out) : (s.send o).acts = s.acts := rfl
@[simp] theorem State.send_plays (s : State) (o : Out) : (s.send o).plays = s.plays := rfl
@[simp] theorem State.send_skirts (s : State) (o : Out) : (s.send o).skirts = s.skirts := rfl
@[simp] theorem State.send_envRead (s : State) (o : Out) : (s.send o).envRead = s.envRead := rfl
@[simp] theorem State.send_staged (s : State) (o : Out) : (s.send o).staged = s.staged := rfl
@[simp] theorem State.send_pulses (s : State) (o : Out) : (s.send o).pulses = s.pulses := rfl
@[simp] theorem State.send_marker (s : State) (o : Out) : (s.send o).marker = s.marker := rfl
@[simp] theorem State.send_dacOut (s : State) (o : Out) : (s.send o).dacOut = s.dacOut := rfl
@[simp] theorem State.send_bobs (s : State) (o : Out) : (s.send o).bobs = s.bobs := rfl
@[simp] theorem State.send_slots (s : State) (o : Out) : (s.send o).slots = s.slots := rfl
@[simp] theorem State.send_ledger (s : State) (o : Out) : (s.send o).ledger = s.ledger := rfl
@[simp] theorem State.send_decTick (s : State) (o : Out) : (s.send o).decTick = s.decTick := rfl
@[simp] theorem State.send_ledgerOld (s : State) (o : Out) : (s.send o).ledgerOld = s.ledgerOld := rfl
@[simp] theorem State.send_ledgerTick (s : State) (o : Out) : (s.send o).ledgerTick = s.ledgerTick := rfl
@[simp] theorem State.send_windows (s : State) (o : Out) : (s.send o).windows = s.windows := rfl
@[simp] theorem State.send_acqReqs (s : State) (o : Out) : (s.send o).acqReqs = s.acqReqs := rfl
@[simp] theorem State.send_demodPend (s : State) (o : Out) : (s.send o).demodPend = s.demodPend := rfl
@[simp] theorem State.send_demodBank (s : State) (o : Out) : (s.send o).demodBank = s.demodBank := rfl
@[simp] theorem State.send_corrPend (s : State) (o : Out) : (s.send o).corrPend = s.corrPend := rfl
@[simp] theorem State.send_corrOnce (s : State) (o : Out) : (s.send o).corrOnce = s.corrOnce := rfl
@[simp] theorem State.send_corrHist (s : State) (o : Out) : (s.send o).corrHist = s.corrHist := rfl
@[simp] theorem State.send_adcHist (s : State) (o : Out) : (s.send o).adcHist = s.adcHist := rfl
@[simp] theorem State.send_trains (s : State) (o : Out) : (s.send o).trains = s.trains := rfl
@[simp] theorem State.send_traces (s : State) (o : Out) : (s.send o).traces = s.traces := rfl
@[simp] theorem State.send_packs (s : State) (o : Out) : (s.send o).packs = s.packs := rfl
@[simp] theorem State.send_ancs (s : State) (o : Out) : (s.send o).ancs = s.ancs := rfl
@[simp] theorem State.send_patchMode (s : State) (o : Out) : (s.send o).patchMode = s.patchMode := rfl
@[simp] theorem State.send_assemblies (s : State) (o : Out) : (s.send o).assemblies = s.assemblies := rfl
@[simp] theorem State.send_patchTick (s : State) (o : Out) : (s.send o).patchTick = s.patchTick := rfl
@[simp] theorem State.send_lanes (s : State) (o : Out) : (s.send o).lanes = s.lanes := rfl
@[simp] theorem State.send_deliveries (s : State) (o : Out) : (s.send o).deliveries = s.deliveries := rfl
@[simp] theorem State.send_delivered (s : State) (o : Out) : (s.send o).delivered = s.delivered := rfl
@[simp] theorem State.send_exps (s : State) (o : Out) : (s.send o).exps = s.exps := rfl
@[simp] theorem State.send_rxrStage (s : State) (o : Out) : (s.send o).rxrStage = s.rxrStage := rfl
@[simp] theorem State.send_rxrOld (s : State) (o : Out) : (s.send o).rxrOld = s.rxrOld := rfl
@[simp] theorem State.send_bars (s : State) (o : Out) : (s.send o).bars = s.bars := rfl
@[simp] theorem State.send_fluxRuns (s : State) (o : Out) : (s.send o).fluxRuns = s.fluxRuns := rfl
@[simp] theorem State.send_fits (s : State) (o : Out) : (s.send o).fits = s.fits := rfl
@[simp] theorem State.send_biasOuts (s : State) (o : Out) : (s.send o).biasOuts = s.biasOuts := rfl
@[simp] theorem State.send_scrubPos (s : State) (o : Out) : (s.send o).scrubPos = s.scrubPos := rfl
@[simp] theorem State.send_tdcUnits (s : State) (o : Out) : (s.send o).tdcUnits = s.tdcUnits := rfl
@[simp] theorem State.send_tdcLast (s : State) (o : Out) : (s.send o).tdcLast = s.tdcLast := rfl
@[simp] theorem State.send_calHigh (s : State) (o : Out) : (s.send o).calHigh = s.calHigh := rfl
@[simp] theorem State.send_tdcEdges (s : State) (o : Out) : (s.send o).tdcEdges = s.tdcEdges := rfl
@[simp] theorem State.send_tdcResults (s : State) (o : Out) : (s.send o).tdcResults = s.tdcResults := rfl
@[simp] theorem State.send_mons (s : State) (o : Out) : (s.send o).mons = s.mons := rfl
@[simp] theorem State.send_monLine (s : State) (o : Out) : (s.send o).monLine = s.monLine := rfl
@[simp] theorem State.send_monLast (s : State) (o : Out) : (s.send o).monLast = s.monLast := rfl
@[simp] theorem State.send_evLog (s : State) (o : Out) : (s.send o).evLog = s.evLog := rfl
@[simp] theorem State.send_asyncNow (s : State) (o : Out) : (s.send o).asyncNow = s.asyncNow := rfl
@[simp] theorem State.send_tacks (s : State) (o : Out) : (s.send o).tacks = s.tacks := rfl
@[simp] theorem State.send_timers (s : State) (o : Out) : (s.send o).timers = s.timers := rfl
@[simp] theorem State.send_seamPipe (s : State) (o : Out) : (s.send o).seamPipe = s.seamPipe := rfl
@[simp] theorem State.send_seamNow (s : State) (o : Out) : (s.send o).seamNow = s.seamNow := rfl
@[simp] theorem State.send_seamOld (s : State) (o : Out) : (s.send o).seamOld = s.seamOld := rfl
@[simp] theorem State.send_seamLevels (s : State) (o : Out) : (s.send o).seamLevels = s.seamLevels := rfl
@[simp] theorem State.send_seamMarks (s : State) (o : Out) : (s.send o).seamMarks = s.seamMarks := rfl
@[simp] theorem State.send_wakeDue (s : State) (o : Out) : (s.send o).wakeDue = s.wakeDue := rfl
@[simp] theorem State.send_lostNow (s : State) (o : Out) : (s.send o).lostNow = s.lostNow := rfl
@[simp] theorem State.send_phase (s : State) (o : Out) : (s.send o).phase = s.phase := rfl
@[simp] theorem State.send_seamRaised (s : State) (o : Out) : (s.send o).seamRaised = s.seamRaised := rfl
@[simp] theorem State.send_kept (s : State) (o : Out) : (s.send o).kept = s.kept := rfl
@[simp] theorem State.send_mExec (s : State) (o : Out) : (s.send o).mExec = s.mExec := rfl
@[simp] theorem State.send_mWait (s : State) (o : Out) : (s.send o).mWait = s.mWait := rfl
@[simp] theorem State.send_qps (s : State) (o : Out) : (s.send o).qps = s.qps := rfl
@[simp] theorem State.send_outReqs (s : State) (o : Out) : (s.send o).outReqs = s.outReqs := rfl
@[simp] theorem State.send_fetched (s : State) (o : Out) : (s.send o).fetched = s.fetched := rfl
@[simp] theorem State.send_begun (s : State) (o : Out) : (s.send o).begun = s.begun := rfl
@[simp] theorem State.send_flying (s : State) (o : Out) : (s.send o).flying = s.flying := rfl
@[simp] theorem State.send_shadowWait (s : State) (o : Out) : (s.send o).shadowWait = s.shadowWait := rfl
@[simp] theorem State.send_cplWait (s : State) (o : Out) : (s.send o).cplWait = s.cplWait := rfl
@[simp] theorem State.send_transfers (s : State) (o : Out) : (s.send o).transfers = s.transfers := rfl
@[simp] theorem State.send_readWait (s : State) (o : Out) : (s.send o).readWait = s.readWait := rfl
@[simp] theorem State.send_extents (s : State) (o : Out) : (s.send o).extents = s.extents := rfl
@[simp] theorem State.send_feedEnd (s : State) (o : Out) : (s.send o).feedEnd = s.feedEnd := rfl
@[simp] theorem State.send_holding (s : State) (o : Out) : (s.send o).holding = s.holding := rfl
@[simp] theorem State.send_rqs (s : State) (o : Out) : (s.send o).rqs = s.rqs := rfl
@[simp] theorem State.send_kenRun (s : State) (o : Out) : (s.send o).kenRun = s.kenRun := rfl
@[simp] theorem State.send_heat (s : State) (o : Out) : (s.send o).heat = s.heat := rfl
@[simp] theorem State.send_synSq (s : State) (o : Out) : (s.send o).synSq = s.synSq := rfl
@[simp] theorem State.send_hw (s : State) (o : Out) : (s.send o).hw = s.hw := rfl
@[simp] theorem State.send_hwQueue (s : State) (o : Out) : (s.send o).hwQueue = s.hwQueue := rfl
@[simp] theorem State.send_hwWrite (s : State) (o : Out) : (s.send o).hwWrite = s.hwWrite := rfl
@[simp] theorem State.send_fuses (s : State) (o : Out) : (s.send o).fuses = s.fuses := rfl
@[simp] theorem State.send_boot (s : State) (o : Out) : (s.send o).boot = s.boot := rfl
@[simp] theorem State.send_undef (s : State) (o : Out) : (s.send o).undef = s.undef := rfl

/-! `undefined`. -/

@[simp] theorem State.undefined_pending (s : State) (u : Nat) : (s.undefined u).pending = s.pending := rfl
@[simp] theorem State.undefined_tick (s : State) (u : Nat) : (s.undefined u).tick = s.tick := rfl
@[simp] theorem State.undefined_ft (s : State) (u : Nat) : (s.undefined u).ft = s.ft := rfl
@[simp] theorem State.undefined_ftWas (s : State) (u : Nat) : (s.undefined u).ftWas = s.ftWas := rfl
@[simp] theorem State.undefined_ptpNs (s : State) (u : Nat) : (s.undefined u).ptpNs = s.ptpNs := rfl
@[simp] theorem State.undefined_ptpFrac (s : State) (u : Nat) : (s.undefined u).ptpFrac = s.ptpFrac := rfl
@[simp] theorem State.undefined_ptpStepNext (s : State) (u : Nat) : (s.undefined u).ptpStepNext = s.ptpStepNext := rfl
@[simp] theorem State.undefined_ptpMarks (s : State) (u : Nat) : (s.undefined u).ptpMarks = s.ptpMarks := rfl
@[simp] theorem State.undefined_ptpGood (s : State) (u : Nat) : (s.undefined u).ptpGood = s.ptpGood := rfl
@[simp] theorem State.undefined_ptpBad (s : State) (u : Nat) : (s.undefined u).ptpBad = s.ptpBad := rfl
@[simp] theorem State.undefined_ptpRun (s : State) (u : Nat) : (s.undefined u).ptpRun = s.ptpRun := rfl
@[simp] theorem State.undefined_syncLoad (s : State) (u : Nat) : (s.undefined u).syncLoad = s.syncLoad := rfl
@[simp] theorem State.undefined_ftJump (s : State) (u : Nat) : (s.undefined u).ftJump = s.ftJump := rfl
@[simp] theorem State.undefined_skewRun (s : State) (u : Nat) : (s.undefined u).skewRun = s.skewRun := rfl
@[simp] theorem State.undefined_skewRem (s : State) (u : Nat) : (s.undefined u).skewRem = s.skewRem := rfl
@[simp] theorem State.undefined_xtal (s : State) (u : Nat) : (s.undefined u).xtal = s.xtal := rfl
@[simp] theorem State.undefined_latchTick (s : State) (u : Nat) : (s.undefined u).latchTick = s.latchTick := rfl
@[simp] theorem State.undefined_pwrRun (s : State) (u : Nat) : (s.undefined u).pwrRun = s.pwrRun := rfl
@[simp] theorem State.undefined_linkSeq (s : State) (u : Nat) : (s.undefined u).linkSeq = s.linkSeq := rfl
@[simp] theorem State.undefined_regs (s : State) (u : Nat) : (s.undefined u).regs = s.regs := rfl
@[simp] theorem State.undefined_shadows (s : State) (u : Nat) : (s.undefined u).shadows = s.shadows := rfl
@[simp] theorem State.undefined_mem (s : State) (u : Nat) : (s.undefined u).mem = s.mem := rfl
@[simp] theorem State.undefined_poison (s : State) (u : Nat) : (s.undefined u).poison = s.poison := rfl
@[simp] theorem State.undefined_dirStage (s : State) (u : Nat) : (s.undefined u).dirStage = s.dirStage := rfl
@[simp] theorem State.undefined_entries (s : State) (u : Nat) : (s.undefined u).entries = s.entries := rfl
@[simp] theorem State.undefined_entry0 (s : State) (u : Nat) : (s.undefined u).entry0 = s.entry0 := rfl
@[simp] theorem State.undefined_threads (s : State) (u : Nat) : (s.undefined u).threads = s.threads := rfl
@[simp] theorem State.undefined_ordSlot (s : State) (u : Nat) : (s.undefined u).ordSlot = s.ordSlot := rfl
@[simp] theorem State.undefined_priSlot (s : State) (u : Nat) : (s.undefined u).priSlot = s.priSlot := rfl
@[simp] theorem State.undefined_shots (s : State) (u : Nat) : (s.undefined u).shots = s.shots := rfl
@[simp] theorem State.undefined_nextShot (s : State) (u : Nat) : (s.undefined u).nextShot = s.nextShot := rfl
@[simp] theorem State.undefined_acts (s : State) (u : Nat) : (s.undefined u).acts = s.acts := rfl
@[simp] theorem State.undefined_plays (s : State) (u : Nat) : (s.undefined u).plays = s.plays := rfl
@[simp] theorem State.undefined_skirts (s : State) (u : Nat) : (s.undefined u).skirts = s.skirts := rfl
@[simp] theorem State.undefined_envRead (s : State) (u : Nat) : (s.undefined u).envRead = s.envRead := rfl
@[simp] theorem State.undefined_staged (s : State) (u : Nat) : (s.undefined u).staged = s.staged := rfl
@[simp] theorem State.undefined_pulses (s : State) (u : Nat) : (s.undefined u).pulses = s.pulses := rfl
@[simp] theorem State.undefined_marker (s : State) (u : Nat) : (s.undefined u).marker = s.marker := rfl
@[simp] theorem State.undefined_dacOut (s : State) (u : Nat) : (s.undefined u).dacOut = s.dacOut := rfl
@[simp] theorem State.undefined_bobs (s : State) (u : Nat) : (s.undefined u).bobs = s.bobs := rfl
@[simp] theorem State.undefined_slots (s : State) (u : Nat) : (s.undefined u).slots = s.slots := rfl
@[simp] theorem State.undefined_ledger (s : State) (u : Nat) : (s.undefined u).ledger = s.ledger := rfl
@[simp] theorem State.undefined_decTick (s : State) (u : Nat) : (s.undefined u).decTick = s.decTick := rfl
@[simp] theorem State.undefined_ledgerOld (s : State) (u : Nat) : (s.undefined u).ledgerOld = s.ledgerOld := rfl
@[simp] theorem State.undefined_ledgerTick (s : State) (u : Nat) : (s.undefined u).ledgerTick = s.ledgerTick := rfl
@[simp] theorem State.undefined_windows (s : State) (u : Nat) : (s.undefined u).windows = s.windows := rfl
@[simp] theorem State.undefined_acqReqs (s : State) (u : Nat) : (s.undefined u).acqReqs = s.acqReqs := rfl
@[simp] theorem State.undefined_demodPend (s : State) (u : Nat) : (s.undefined u).demodPend = s.demodPend := rfl
@[simp] theorem State.undefined_demodBank (s : State) (u : Nat) : (s.undefined u).demodBank = s.demodBank := rfl
@[simp] theorem State.undefined_corrPend (s : State) (u : Nat) : (s.undefined u).corrPend = s.corrPend := rfl
@[simp] theorem State.undefined_corrOnce (s : State) (u : Nat) : (s.undefined u).corrOnce = s.corrOnce := rfl
@[simp] theorem State.undefined_corrHist (s : State) (u : Nat) : (s.undefined u).corrHist = s.corrHist := rfl
@[simp] theorem State.undefined_adcHist (s : State) (u : Nat) : (s.undefined u).adcHist = s.adcHist := rfl
@[simp] theorem State.undefined_trains (s : State) (u : Nat) : (s.undefined u).trains = s.trains := rfl
@[simp] theorem State.undefined_traces (s : State) (u : Nat) : (s.undefined u).traces = s.traces := rfl
@[simp] theorem State.undefined_packs (s : State) (u : Nat) : (s.undefined u).packs = s.packs := rfl
@[simp] theorem State.undefined_ancs (s : State) (u : Nat) : (s.undefined u).ancs = s.ancs := rfl
@[simp] theorem State.undefined_patchMode (s : State) (u : Nat) : (s.undefined u).patchMode = s.patchMode := rfl
@[simp] theorem State.undefined_assemblies (s : State) (u : Nat) : (s.undefined u).assemblies = s.assemblies := rfl
@[simp] theorem State.undefined_patchTick (s : State) (u : Nat) : (s.undefined u).patchTick = s.patchTick := rfl
@[simp] theorem State.undefined_lanes (s : State) (u : Nat) : (s.undefined u).lanes = s.lanes := rfl
@[simp] theorem State.undefined_deliveries (s : State) (u : Nat) : (s.undefined u).deliveries = s.deliveries := rfl
@[simp] theorem State.undefined_delivered (s : State) (u : Nat) : (s.undefined u).delivered = s.delivered := rfl
@[simp] theorem State.undefined_exps (s : State) (u : Nat) : (s.undefined u).exps = s.exps := rfl
@[simp] theorem State.undefined_rxrStage (s : State) (u : Nat) : (s.undefined u).rxrStage = s.rxrStage := rfl
@[simp] theorem State.undefined_rxrOld (s : State) (u : Nat) : (s.undefined u).rxrOld = s.rxrOld := rfl
@[simp] theorem State.undefined_bars (s : State) (u : Nat) : (s.undefined u).bars = s.bars := rfl
@[simp] theorem State.undefined_fluxRuns (s : State) (u : Nat) : (s.undefined u).fluxRuns = s.fluxRuns := rfl
@[simp] theorem State.undefined_fits (s : State) (u : Nat) : (s.undefined u).fits = s.fits := rfl
@[simp] theorem State.undefined_biasOuts (s : State) (u : Nat) : (s.undefined u).biasOuts = s.biasOuts := rfl
@[simp] theorem State.undefined_scrubPos (s : State) (u : Nat) : (s.undefined u).scrubPos = s.scrubPos := rfl
@[simp] theorem State.undefined_tdcUnits (s : State) (u : Nat) : (s.undefined u).tdcUnits = s.tdcUnits := rfl
@[simp] theorem State.undefined_tdcLast (s : State) (u : Nat) : (s.undefined u).tdcLast = s.tdcLast := rfl
@[simp] theorem State.undefined_calHigh (s : State) (u : Nat) : (s.undefined u).calHigh = s.calHigh := rfl
@[simp] theorem State.undefined_tdcEdges (s : State) (u : Nat) : (s.undefined u).tdcEdges = s.tdcEdges := rfl
@[simp] theorem State.undefined_tdcResults (s : State) (u : Nat) : (s.undefined u).tdcResults = s.tdcResults := rfl
@[simp] theorem State.undefined_mons (s : State) (u : Nat) : (s.undefined u).mons = s.mons := rfl
@[simp] theorem State.undefined_monLine (s : State) (u : Nat) : (s.undefined u).monLine = s.monLine := rfl
@[simp] theorem State.undefined_monLast (s : State) (u : Nat) : (s.undefined u).monLast = s.monLast := rfl
@[simp] theorem State.undefined_evLog (s : State) (u : Nat) : (s.undefined u).evLog = s.evLog := rfl
@[simp] theorem State.undefined_asyncNow (s : State) (u : Nat) : (s.undefined u).asyncNow = s.asyncNow := rfl
@[simp] theorem State.undefined_tacks (s : State) (u : Nat) : (s.undefined u).tacks = s.tacks := rfl
@[simp] theorem State.undefined_timers (s : State) (u : Nat) : (s.undefined u).timers = s.timers := rfl
@[simp] theorem State.undefined_seamPipe (s : State) (u : Nat) : (s.undefined u).seamPipe = s.seamPipe := rfl
@[simp] theorem State.undefined_seamNow (s : State) (u : Nat) : (s.undefined u).seamNow = s.seamNow := rfl
@[simp] theorem State.undefined_seamOld (s : State) (u : Nat) : (s.undefined u).seamOld = s.seamOld := rfl
@[simp] theorem State.undefined_seamLevels (s : State) (u : Nat) : (s.undefined u).seamLevels = s.seamLevels := rfl
@[simp] theorem State.undefined_seamMarks (s : State) (u : Nat) : (s.undefined u).seamMarks = s.seamMarks := rfl
@[simp] theorem State.undefined_wakeDue (s : State) (u : Nat) : (s.undefined u).wakeDue = s.wakeDue := rfl
@[simp] theorem State.undefined_lostNow (s : State) (u : Nat) : (s.undefined u).lostNow = s.lostNow := rfl
@[simp] theorem State.undefined_phase (s : State) (u : Nat) : (s.undefined u).phase = s.phase := rfl
@[simp] theorem State.undefined_seamRaised (s : State) (u : Nat) : (s.undefined u).seamRaised = s.seamRaised := rfl
@[simp] theorem State.undefined_kept (s : State) (u : Nat) : (s.undefined u).kept = s.kept := rfl
@[simp] theorem State.undefined_mExec (s : State) (u : Nat) : (s.undefined u).mExec = s.mExec := rfl
@[simp] theorem State.undefined_mWait (s : State) (u : Nat) : (s.undefined u).mWait = s.mWait := rfl
@[simp] theorem State.undefined_qps (s : State) (u : Nat) : (s.undefined u).qps = s.qps := rfl
@[simp] theorem State.undefined_outReqs (s : State) (u : Nat) : (s.undefined u).outReqs = s.outReqs := rfl
@[simp] theorem State.undefined_fetched (s : State) (u : Nat) : (s.undefined u).fetched = s.fetched := rfl
@[simp] theorem State.undefined_begun (s : State) (u : Nat) : (s.undefined u).begun = s.begun := rfl
@[simp] theorem State.undefined_flying (s : State) (u : Nat) : (s.undefined u).flying = s.flying := rfl
@[simp] theorem State.undefined_shadowWait (s : State) (u : Nat) : (s.undefined u).shadowWait = s.shadowWait := rfl
@[simp] theorem State.undefined_cplWait (s : State) (u : Nat) : (s.undefined u).cplWait = s.cplWait := rfl
@[simp] theorem State.undefined_transfers (s : State) (u : Nat) : (s.undefined u).transfers = s.transfers := rfl
@[simp] theorem State.undefined_readWait (s : State) (u : Nat) : (s.undefined u).readWait = s.readWait := rfl
@[simp] theorem State.undefined_extents (s : State) (u : Nat) : (s.undefined u).extents = s.extents := rfl
@[simp] theorem State.undefined_feedEnd (s : State) (u : Nat) : (s.undefined u).feedEnd = s.feedEnd := rfl
@[simp] theorem State.undefined_holding (s : State) (u : Nat) : (s.undefined u).holding = s.holding := rfl
@[simp] theorem State.undefined_rqs (s : State) (u : Nat) : (s.undefined u).rqs = s.rqs := rfl
@[simp] theorem State.undefined_kenRun (s : State) (u : Nat) : (s.undefined u).kenRun = s.kenRun := rfl
@[simp] theorem State.undefined_heat (s : State) (u : Nat) : (s.undefined u).heat = s.heat := rfl
@[simp] theorem State.undefined_synSq (s : State) (u : Nat) : (s.undefined u).synSq = s.synSq := rfl
@[simp] theorem State.undefined_hw (s : State) (u : Nat) : (s.undefined u).hw = s.hw := rfl
@[simp] theorem State.undefined_hwQueue (s : State) (u : Nat) : (s.undefined u).hwQueue = s.hwQueue := rfl
@[simp] theorem State.undefined_hwWrite (s : State) (u : Nat) : (s.undefined u).hwWrite = s.hwWrite := rfl
@[simp] theorem State.undefined_fuses (s : State) (u : Nat) : (s.undefined u).fuses = s.fuses := rfl
@[simp] theorem State.undefined_boot (s : State) (u : Nat) : (s.undefined u).boot = s.boot := rfl
@[simp] theorem State.undefined_out (s : State) (u : Nat) : (s.undefined u).out = s.out := rfl

end Sys2Proof.Machine
end

