-- ==== Sys2Proof/Laws/Mem.lean ====
section
/-! SUPPORT. The laws of the keyed tables, of the memories and of the register fields: what a read
after a write gives, and that every memory operation keeps the canonical form. -/

namespace Sys2Proof.Machine

/-! Keyed tables. -/

theorem Tab.erase_cons {κ α : Type} [DecidableEq κ] (p : κ × α) (rest : List (κ × α)) (k : κ) :
    Tab.erase (p :: rest) k = if p.1 = k then Tab.erase rest k else p :: Tab.erase rest k := by
  unfold Tab.erase
  by_cases hp : p.1 = k <;> simp [hp]

@[simp] theorem Tab.get_erase_ne {κ α : Type} [DecidableEq κ] (m : List (κ × α)) (k j : κ) (d : α)
    (h : j ≠ k) : Tab.get (Tab.erase m k) j d = Tab.get m j d := by
  induction m with
  | nil => rfl
  | cons p rest ih =>
      rw [Tab.erase_cons]
      by_cases hp : p.1 = k
      · simp [hp, Tab.get, ih, Ne.symm h]
      · simp [hp, Tab.get, ih]

@[simp] theorem Tab.get_set_same {κ α : Type} [DecidableEq κ] (m : List (κ × α)) (k : κ) (v d : α) :
    Tab.get (Tab.set m k v) k d = v := by
  simp [Tab.set, Tab.get]

@[simp] theorem Tab.get_set_ne {κ α : Type} [DecidableEq κ] (m : List (κ × α)) (k j : κ) (v d : α)
    (h : j ≠ k) : Tab.get (Tab.set m k v) j d = Tab.get m j d := by
  simp [Tab.set, Tab.get, Ne.symm h, h]

@[simp] theorem Tab.find_erase_ne {κ α : Type} [DecidableEq κ] (m : List (κ × α)) (k j : κ)
    (h : j ≠ k) : Tab.find (Tab.erase m k) j = Tab.find m j := by
  induction m with
  | nil => rfl
  | cons p rest ih =>
      rw [Tab.erase_cons]
      by_cases hp : p.1 = k
      · simp [hp, Tab.find, ih, Ne.symm h]
      · simp [hp, Tab.find, ih]

@[simp] theorem Tab.find_set_same {κ α : Type} [DecidableEq κ] (m : List (κ × α)) (k : κ) (v : α) :
    Tab.find (Tab.set m k v) k = some v := by
  simp [Tab.set, Tab.find]

@[simp] theorem Tab.find_set_ne {κ α : Type} [DecidableEq κ] (m : List (κ × α)) (k j : κ) (v : α)
    (h : j ≠ k) : Tab.find (Tab.set m k v) j = Tab.find m j := by
  simp [Tab.set, Tab.find, Ne.symm h, h]

/-! Threads. -/

@[simp] theorem State.thread_setThread_same (s : State) (q : Thr) (x : Thread) :
    (s.setThread q x).thread q = x := by
  simp [State.thread, State.setThread]

@[simp] theorem State.thread_setThread_ne (s : State) (q p : Thr) (x : Thread) (h : p ≠ q) :
    (s.setThread q x).thread p = s.thread p := by
  simp [State.thread, State.setThread, h]

@[simp] theorem State.thread_modThread_same (s : State) (q : Thr) (f : Thread → Thread) :
    (s.modThread q f).thread q = f (s.thread q) := by
  simp [State.modThread]

@[simp] theorem State.thread_modThread_ne (s : State) (q p : Thr) (f : Thread → Thread) (h : p ≠ q) :
    (s.modThread q f).thread p = s.thread p := by
  simp [State.modThread, h]

/-! Registers and fields. -/

@[simp] theorem State.reg_setReg_same (s : State) (r : Reg) (w : Word) : (s.setReg r w).reg r = w := by
  simp [State.reg, State.setReg]

@[simp] theorem State.reg_setReg_ne (s : State) (r o : Reg) (w : Word) (h : o ≠ r) :
    (s.setReg r w).reg o = s.reg o := by
  simp [State.reg, State.setReg, h]

theorem getLsbD_ofNat64 (n i : Nat) (hi : i < 64) : (BitVec.ofNat 64 n).getLsbD i = n.testBit i := by
  have h := Nat.testBit_mod_two_pow n 64 i
  simp only [hi, decide_true, Bool.true_and] at h
  simpa [BitVec.getLsbD] using h

/-- Bits of a word with a field replaced. -/
theorem getLsbD_withBits (w : Word) (lo width v i : Nat) (hi : i < 64) :
    (withBits w lo width v).getLsbD i
      = if lo ≤ i ∧ i < lo + width then v.testBit (i - lo) else w.getLsbD i := by
  simp only [withBits, BitVec.getLsbD_or, BitVec.getLsbD_and, BitVec.getLsbD_not, hi, decide_true,
    Bool.true_and, getLsbD_ofNat64 _ _ hi, Nat.testBit_shiftLeft, Nat.testBit_two_pow_sub_one,
    Nat.testBit_mod_two_pow]
  by_cases hl : lo ≤ i
  · by_cases hu : i < lo + width
    · have : i - lo < width := by omega
      simp [hl, hu, this]
    · have : ¬ i - lo < width := by omega
      simp [hl, hu, this]
  · simp [hl]

/-- A field reads as the value written to it, modulo its width. -/
theorem bitsOf_withBits_same (w : Word) (lo width v : Nat) (h : lo + width ≤ 64) :
    bitsOf (withBits w lo width v) lo width = v % 2 ^ width := by
  apply Nat.eq_of_testBit_eq
  intro i
  simp only [bitsOf, Nat.testBit_mod_two_pow, Nat.testBit_shiftRight]
  by_cases hi : i < width
  · have hb := getLsbD_withBits w lo width v (lo + i) (by omega)
    simp only [BitVec.getLsbD] at hb
    rw [hb]
    simp [hi]
  · simp [hi]

/-- A field that lies outside the bits written keeps its value. -/
theorem bitsOf_withBits_apart (w : Word) (lo width v lo' width' : Nat) (h' : lo' + width' ≤ 64)
    (h : lo' + width' ≤ lo ∨ lo + width ≤ lo') :
    bitsOf (withBits w lo width v) lo' width' = bitsOf w lo' width' := by
  apply Nat.eq_of_testBit_eq
  intro i
  simp only [bitsOf, Nat.testBit_mod_two_pow, Nat.testBit_shiftRight]
  by_cases hi : i < width'
  · have hb := getLsbD_withBits w lo width v (lo' + i) (by omega)
    simp only [BitVec.getLsbD] at hb
    rw [hb]
    have : ¬ (lo ≤ lo' + i ∧ lo' + i < lo + width) := by omega
    simp [hi, this]
  · simp [hi]

/-- A field reads back as written. -/
theorem State.rd_wr_same (s : State) (f : RField) (v : Nat) (h : f.lo + f.width ≤ 64) :
    (s.wr f v).rd f = v % 2 ^ f.width := by
  simp [State.rd, State.wr, bitsOf_withBits_same _ _ _ _ h]

/-- A write of a field leaves every field of another register. -/
theorem State.rd_wr_other (s : State) (f g : RField) (v : Nat) (h : g.reg ≠ f.reg) :
    (s.wr f v).rd g = s.rd g := by
  simp [State.rd, State.wr, h]

/-- A write of a field leaves the fields of its register that lie outside it. -/
theorem State.rd_wr_apart (s : State) (f g : RField) (v : Nat) (hg : g.lo + g.width ≤ 64)
    (hr : g.reg = f.reg) (h : g.lo + g.width ≤ f.lo ∨ f.lo + f.width ≤ g.lo) :
    (s.wr f v).rd g = s.rd g := by
  simp [State.rd, State.wr, hr, bitsOf_withBits_apart _ _ _ _ _ _ hg h]

/-- A write of a field leaves every other register. -/
theorem State.reg_wr_other (s : State) (f : RField) (r : Reg) (v : Nat) (h : r ≠ f.reg) :
    (s.wr f v).reg r = s.reg r := by
  simp [State.wr, h]

/-! Memory. -/

/-- Every address listed behind the first entry of a canonical memory lies above it. -/
theorem Mem.wf_above {x : Nat} {b : Byte} {rest : List Host.Cell} (h : Mem.wf ((x, b) :: rest) = true) :
    ∀ p ∈ rest, x < p.1 := by
  induction rest generalizing x b with
  | nil => simp
  | cons p tail ih =>
      obtain ⟨y, c⟩ := p
      simp only [Mem.wf, Bool.and_eq_true, decide_eq_true_eq] at h
      intro q hq
      rcases List.mem_cons.mp hq with rfl | hq
      · exact h.1.2
      · exact Nat.lt_trans h.1.2 (ih h.2 q hq)

theorem Mem.wf_tail {x : Nat} {b : Byte} {rest : List Host.Cell} (h : Mem.wf ((x, b) :: rest) = true) :
    Mem.wf rest = true := by
  cases rest with
  | nil => rfl
  | cons p tail => obtain ⟨y, c⟩ := p; simp only [Mem.wf, Bool.and_eq_true] at h; exact h.2

theorem Mem.wf_head {x : Nat} {b : Byte} {rest : List Host.Cell} (h : Mem.wf ((x, b) :: rest) = true) :
    b ≠ Mem.blank := by
  cases rest with
  | nil => simpa [Mem.wf] using h
  | cons p tail => obtain ⟨y, c⟩ := p; simp only [Mem.wf, Bool.and_eq_true] at h; simpa using h.1.1

/-- The canonical form of a list from that of its tail. -/
theorem Mem.wf_cons {x : Nat} {b : Byte} {rest : List Host.Cell} (hb : b ≠ Mem.blank)
    (ha : ∀ p ∈ rest, x < p.1) (h : Mem.wf rest = true) : Mem.wf ((x, b) :: rest) = true := by
  cases rest with
  | nil => simpa [Mem.wf] using hb
  | cons p tail =>
      obtain ⟨y, c⟩ := p
      have : x < y := ha (y, c) (by simp)
      simp [Mem.wf, hb, this, h]

/-- An address below every listed one reads as an unlisted byte. -/
theorem Mem.read_unlisted {m : List Host.Cell} {a : Nat} (h : ∀ p ∈ m, a < p.1) :
    Mem.read m a = Mem.blank := by
  induction m with
  | nil => rfl
  | cons p rest ih =>
      obtain ⟨y, c⟩ := p
      have : a < y := h (y, c) (by simp)
      rw [Mem.read, if_neg (by omega)]
      exact ih (fun q hq => h q (by simp [hq]))

/-- An entry after a write is the one written or was listed before. -/
theorem Mem.mem_write {m : List Host.Cell} {a : Nat} {b : Byte} {p : Host.Cell}
    (h : p ∈ Mem.write m a b) : p = (a, b) ∨ p ∈ m := by
  induction m with
  | nil => by_cases hb : b = Mem.blank <;> simp_all [Mem.write]
  | cons q rest ih =>
      obtain ⟨y, c⟩ := q
      simp only [Mem.write] at h
      split at h
      · split at h <;> simp_all
      · split at h
        · split at h
          · simp_all
          · rcases List.mem_cons.mp h with h | h <;> simp_all
        · rcases List.mem_cons.mp h with h | h
          · simp_all
          · rcases ih h with h | h <;> simp_all

/-- A write keeps the canonical form. -/
theorem Mem.wf_write {m : List Host.Cell} (a : Nat) (b : Byte) (h : Mem.wf m = true) :
    Mem.wf (Mem.write m a b) = true := by
  induction m with
  | nil => by_cases hb : b = Mem.blank <;> simp [Mem.write, Mem.wf, hb]
  | cons q rest ih =>
      obtain ⟨x, c⟩ := q
      have above := Mem.wf_above h
      have hc := Mem.wf_head h
      have ht := Mem.wf_tail h
      rw [Mem.write]
      split
      · rename_i hx
        split
        · exact h
        · rename_i hb
          refine Mem.wf_cons hb (fun p hp => ?_) h
          rcases List.mem_cons.mp hp with rfl | hp
          · exact hx
          · exact Nat.lt_trans hx (above p hp)
      · split
        · rename_i hx
          split
          · exact ht
          · rename_i hb
            exact Mem.wf_cons hb (fun p hp => hx ▸ above p hp) ht
        · rename_i h1 h2
          refine Mem.wf_cons hc (fun p hp => ?_) (ih ht)
          rcases Mem.mem_write hp with rfl | hp
          · show x < a
            omega
          · exact above p hp

/-- A byte reads as last written; every other byte reads as before. -/
theorem Mem.read_write {m : List Host.Cell} (a : Nat) (b : Byte) (x : Nat) (h : Mem.wf m = true) :
    Mem.read (Mem.write m a b) x = if x = a then b else Mem.read m x := by
  induction m with
  | nil =>
      by_cases hx : x = a
      · by_cases hb : b = Mem.blank <;> simp [Mem.write, Mem.read, hb, hx]
      · by_cases hb : b = Mem.blank <;> simp [Mem.write, Mem.read, hb, hx, Ne.symm hx]
  | cons q rest ih =>
      obtain ⟨y, c⟩ := q
      have above := Mem.wf_above h
      have ht := Mem.wf_tail h
      rw [Mem.write]
      split
      · rename_i hy
        split
        · rename_i hb
          by_cases hx : x = a
          · subst hx
            rw [if_pos rfl, hb]
            refine Mem.read_unlisted (fun p hp => ?_)
            rcases List.mem_cons.mp hp with rfl | hp
            · exact hy
            · exact Nat.lt_trans hy (above p hp)
          · rw [if_neg hx]
        · by_cases hx : x = a
          · simp [Mem.read, hx]
          · rw [if_neg hx, Mem.read, if_neg (Ne.symm hx)]
      · split
        · rename_i hy
          subst hy
          split
          · rename_i hb
            by_cases hx : x = a
            · subst hx
              rw [if_pos rfl, hb]
              exact Mem.read_unlisted above
            · rw [if_neg hx, Mem.read, if_neg (Ne.symm hx)]
          · by_cases hx : x = a
            · simp [Mem.read, hx]
            · rw [if_neg hx, Mem.read, if_neg (Ne.symm hx), Mem.read, if_neg (Ne.symm hx)]
        · rename_i h1 h2
          rw [Mem.read, Mem.read]
          by_cases hx : y = x
          · rw [if_pos hx, if_pos hx, if_neg (by omega)]
          · rw [if_neg hx, if_neg hx, ih ht]

/-- A store keeps the canonical form. -/
theorem Mem.wf_store {m : List Host.Cell} (a n v : Nat) (h : Mem.wf m = true) :
    Mem.wf (Mem.store m a n v) = true := by
  induction n generalizing m a v with
  | zero => exact h
  | succ n ih => exact ih _ _ (Mem.wf_write _ _ h)

/-- The bytes of a store, little end first; every byte outside it reads as before (R7). -/
theorem Mem.read_store {m : List Host.Cell} (a n v x : Nat) (h : Mem.wf m = true) :
    Mem.read (Mem.store m a n v) x
      = if a ≤ x ∧ x < a + n then BitVec.ofNat 8 (v / 256 ^ (x - a)) else Mem.read m x := by
  induction n generalizing m a v with
  | zero => rw [if_neg (by omega)]; rfl
  | succ n ih =>
      rw [Mem.store, ih _ _ (Mem.wf_write _ _ h), Mem.read_write _ _ _ h]
      by_cases hx : x = a
      · subst hx
        rw [if_neg (by omega), if_pos rfl, if_pos (by omega)]
        simp
      · by_cases hin : a + 1 ≤ x ∧ x < a + 1 + n
        · rw [if_pos hin, if_pos (by omega)]
          have : x - a = (x - (a + 1)) + 1 := by omega
          rw [this, Nat.pow_succ, Nat.mul_comm, Nat.div_div_eq_div_mul]
        · rw [if_neg hin, if_neg hx, if_neg (by omega)]

/-- A load of bytes that all read as those of a value is that value, modulo its width. -/
theorem Mem.load_of_bytes {m : List Host.Cell} (a n v : Nat)
    (h : ∀ i, i < n → Mem.read m (a + i) = BitVec.ofNat 8 (v / 256 ^ i)) :
    Mem.load m a n = v % 256 ^ n := by
  induction n generalizing a v with
  | zero => simp [Mem.load, Nat.mod_one]
  | succ n ih =>
      rw [Mem.load, ih (a + 1) (v / 256)]
      · have h0 := h 0 (by omega)
        simp only [Nat.add_zero, Nat.pow_zero, Nat.div_one] at h0
        rw [h0, BitVec.toNat_ofNat, Nat.pow_succ 256, Nat.mul_comm (256 ^ n) 256]
        exact (Nat.mod_mul (x := v) (a := 256) (b := 256 ^ n)).symm
      · intro i hi
        have := h (i + 1) (by omega)
        rw [Nat.div_div_eq_div_mul, Nat.mul_comm, ← Nat.pow_succ, ← this]
        congr 1
        omega

/-- A load of what was just stored there. -/
theorem Mem.load_store {m : List Host.Cell} (a n v : Nat) (h : Mem.wf m = true) :
    Mem.load (Mem.store m a n v) a n = v % 256 ^ n := by
  apply Mem.load_of_bytes
  intro i hi
  rw [Mem.read_store _ _ _ _ h, if_pos (by omega)]
  congr 3
  omega

/-- A memory word reads back as written. -/
theorem State.memWord_setMemWord_same (s : State) (sp : Space) (t i : Nat) (w : Word)
    (h : Mem.wf s.mem = true) : (s.setMemWord sp t i w).memWord sp t i = w := by
  simp only [State.memWord, State.setMemWord, Mem.load_store _ _ _ h]
  apply BitVec.eq_of_toNat_eq
  have := w.isLt
  simp only [BitVec.toNat_ofNat]
  omega

/-- A write of a memory word leaves every byte outside it. -/
theorem State.read_setMemWord (s : State) (sp : Space) (t i x : Nat) (w : Word)
    (h : Mem.wf s.mem = true) (hx : x < sp.base t + 8 * i ∨ sp.base t + 8 * i + 8 ≤ x) :
    Mem.read (s.setMemWord sp t i w).mem x = Mem.read s.mem x := by
  rw [State.setMemWord]
  exact (Mem.read_store _ _ _ _ h).trans (if_neg (by omega))

/-- A write of a memory word keeps the canonical form. -/
theorem State.wf_setMemWord (s : State) (sp : Space) (t i : Nat) (w : Word)
    (h : Mem.wf s.mem = true) : Mem.wf (s.setMemWord sp t i w).mem = true :=
  Mem.wf_store _ _ _ h

end Sys2Proof.Machine
end

