-- ==== Sys2Proof/Laws/Issue.lean ====
section
/-! SUPPORT. What an issue does: the shared operations of the needle's instructions, said once. -/

namespace Sys2Proof.Machine

/-- An issue in a tick in which the thread can issue runs the instruction on the issued state. -/
theorem State.issueThen_of_ready {s : State} {q : Thr} (h : s.canIssue q = true)
    (hp : s.poisoned 0x01 q.tile (s.thread q).pc = false) (c : Nat)
    (k : State → Host.Outcome State Fault Refusal) : s.issueThen q c k = k (s.issued q c) := by
  simp [State.issueThen, h, hp]

/-- A thread that cannot issue issues nothing (DESIGN CHOICE, log entry 2). -/
theorem State.issueThen_of_not_ready {s : State} {q : Thr} (h : s.canIssue q = false) (c : Nat)
    (k : State → Host.Outcome State Fault Refusal) : s.issueThen q c k = .next s := by
  simp [State.issueThen, h]

theorem State.run_of_ready {s : State} {q : Thr} (h : s.canIssue q = true)
    (hp : s.poisoned 0x01 q.tile (s.thread q).pc = false) (c : Nat) (f : Thread → Thread) :
    s.run q c f = .next ((s.issued q c).modThread q f) := by
  simp [State.run, State.issueThen, h, hp]

/-- The issuing thread, and every other. -/
@[simp] theorem State.issued_thread_same (s : State) (q : Thr) (c : Nat) :
    (s.issued q c).thread q = (s.thread q).stepped s.tick c := by
  unfold State.issued
  split <;> exact State.thread_modThread_same _ _ _

@[simp] theorem State.issued_thread_ne (s : State) (q p : Thr) (c : Nat) (h : p ≠ q) :
    (s.issued q c).thread p = s.thread p := by
  unfold State.issued
  split <;> exact State.thread_modThread_ne _ _ _ _ h

/-- An issue changes the threads and the issue slots only. -/
theorem State.issued_frame (s : State) (q : Thr) (c : Nat) :
    s.issued q c = { s with threads := (s.issued q c).threads, ordSlot := (s.issued q c).ordSlot,
                            priSlot := (s.issued q c).priSlot } := by
  unfold State.issued
  split <;> rfl

/-- A general register after a write of one. -/
theorem Thread.reg_setReg (t : Thread) (rd r : BitVec 5) (w : Word) :
    (t.setReg rd w).reg r = if r = rd then w else t.reg r := by
  by_cases h : r = rd
  · subst h
    simp [Thread.reg, Thread.setReg]
  · have : rd.toNat ≠ r.toNat := fun e => h (BitVec.eq_of_toNat_eq e.symm)
    simp [Thread.reg, Thread.setReg, this, h]

end Sys2Proof.Machine
end

