-- ==== Sys2Proof/Machine/Ratings.lean ====
section
/-! DEFINITION. The ratings of the package (15 R395-R413) as data: absolute maximum ratings, operating
conditions, supply currents, levels and links at the balls, thermal and mechanical limits, marking.
They have no state; no command reports a stress, so none of them enters a step. -/

namespace Sys2Proof.Machine

/-- The limits of a quantity: a bound the tables leave out is `none`. -/
structure Limits where
  lo : Option Int
  hi : Option Int
  deriving DecidableEq, Repr

/-- Whether a value lies within limits. -/
def Limits.allow (l : Limits) (v : Int) : Bool :=
  l.lo.all (fun a => decide (a ≤ v)) && l.hi.all (fun b => decide (v ≤ b))

/-- Both limits. -/
def from_ (lo hi : Int) : Limits := ⟨some lo, some hi⟩
/-- A maximum alone. -/
def atMost (hi : Int) : Limits := ⟨none, some hi⟩
/-- A minimum alone. -/
def atLeast (lo : Int) : Limits := ⟨some lo, none⟩

/-! Absolute maximum ratings (R395). -/

/-- The quantities of R395, with the unit of their limits. -/
inductive Stress
  /-- mV -/
  | rail (r : Rail)
  /-- mV, the device powered -/
  | biasPowered
  /-- mV at 10 mA -/
  | biasUnpowered
  /-- mV, applied from outside -/
  | fluxBall
  /-- mV, applied from outside -/
  | dacPair
  /-- dBm -/
  | adcPower
  /-- mV: TIn and PTk -/
  | triggerInput
  /-- mV: each ball of REF_IN, SYNC_IN and ETH_REFCLK -/
  | clockBall
  /-- mV -/
  | serialReceive
  /-- mV: 3.3 V CMOS -/
  | cmos33
  /-- mV: 1.8 V CMOS -/
  | cmos18
  /-- mA, one unpowered ball -/
  | clampBall
  /-- mA, all unpowered balls -/
  | clampTotal
  /-- degrees C -/
  | junction
  /-- degrees C -/
  | storage
  /-- V, human-body model: RF, ADC and Eswen balls, or the others -/
  | esdBody (rf : Bool)
  /-- V -/
  | esdCharged
  /-- N -/
  | lidLoad
  deriving DecidableEq, Repr

/-- The absolute maximum ratings, with the rails as they stand (R395). -/
def Stress.limits (v : Rails) : Stress → Limits
  | .rail .core => from_ (-300) 850
  | .rail .conv => from_ (-300) 1050
  | .rail .an => from_ (-300) 2000
  | .rail .io => from_ (-300) 2000
  | .rail .v33 => from_ (-300) 3600
  | .rail .biasP => from_ (-300) 6600
  | .rail .biasN => from_ (-6600) 300
  | .biasPowered => from_ (v.biasN - 300) (v.biasP + 300)
  | .biasUnpowered => from_ (-500) 500
  | .fluxBall => from_ (-1500) 1500
  | .dacPair => from_ (-500) 1500
  | .adcPower => atMost 13
  | .triggerInput => from_ (-3500) 3500
  | .clockBall => from_ (-300) 2000
  | .serialReceive => from_ (-300) 1200
  | .cmos33 => from_ (-300) (min (v.v33 + 300) 3600)
  | .cmos18 => from_ (-300) (min (v.io + 300) 2000)
  | .clampBall => atMost 10
  | .clampTotal => atMost 200
  | .junction => from_ (-55) 125
  | .storage => from_ (-55) 125
  | .esdBody rf => if rf then from_ (-500) 500 else from_ (-1000) 1000
  | .esdCharged => from_ (-250) 250
  | .lidLoad => atMost 400

/-! Operating conditions and supply currents (R396, R397). -/

/-- The operating limits of a rail, in mV; ripple is included in them (R396). -/
def Rail.operating : Rail → Limits
  | .core => from_ 728 772
  | .conv => from_ 922 978
  | .an => from_ 1746 1854
  | .io => from_ 1710 1890
  | .v33 => from_ 3200 3400
  | .biasP => from_ 5820 6180
  | .biasN => from_ (-6180) (-5820)

/-- The largest ripple of a rail, mV peak to peak (R396). -/
def Rail.ripple : Rail → Nat
  | .core => 10
  | .conv => 5
  | .an => 3
  | .io => 30
  | .v33 => 50
  | .biasP => 2
  | .biasN => 2

/-- The junction temperature, in degrees C (R396). -/
def junctionLimits : Limits := from_ (-40) 105

/-- The conditions a device is in: rails, their ripple in mV, TJ_MIN and TJ_MAX in degrees C. -/
structure Conditions where
  rails : Rails := {}
  ripple : Rails := { core := 0, conv := 0, an := 0, io := 0, v33 := 0, biasP := 0, biasN := 0 }
  tjMin : Int := 25
  tjMax : Int := 25
  deriving DecidableEq, Repr

/-- The seven rails of R371. -/
def allRails : List Rail := [.core, .conv, .an, .io, .v33, .biasP, .biasN]

/-- Whether the device meets its specification there (R396). -/
def Conditions.operating (c : Conditions) : Bool :=
  allRails.all (fun r => r.operating.allow (c.rails.at_ r) && decide (c.ripple.at_ r ≤ r.ripple))
    && junctionLimits.allow c.tjMin && junctionLimits.allow c.tjMax

/-- Whether the rails and the junction keep to the absolute maximum ratings (R395). -/
def Conditions.endured (c : Conditions) : Bool :=
  allRails.all (fun r => ((Stress.rail r).limits c.rails).allow (c.rails.at_ r))
    && (Stress.junction.limits c.rails).allow c.tjMin && (Stress.junction.limits c.rails).allow c.tjMax

/-- Operation outside the operating conditions is undefined case U8 (12 R353; R390, R395). -/
def Conditions.undefinedCase (c : Conditions) : Option Nat := if c.operating then none else some 8

/-- The sensors of R354 that a rail feeds; VDD_BIAS_P and VDD_BIAS_N share theirs. -/
def Rail.sensors : Rail → List Nat
  | .core => List.range 10
  | .conv => [10, 11, 12, 13, 19]
  | .an => [14, 15, 16, 17, 18]
  | .io => [20]
  | .v33 => [21]
  | .biasP | .biasN => [22, 23]

/-- The nominal voltage of a rail, mV, without its sign (R396). -/
def Rail.nominal (r : Rail) : Nat := ((({} : Rails).at_ r).natAbs)

/-- The greatest mean power of a rail, in mW (R397): its sensors' PMAX, half of it for a bias rail. -/
def Rail.maxPower (r : Rail) : Nat :=
  let sum := (r.sensors.map pmaxOf).sum
  match r with
  | .biasP | .biasN => sum / 2
  | .core | .conv | .an | .io | .v33 => sum

/-- The greatest mean current of a rail, in mA (R397). -/
def Rail.maxCurrent (r : Rail) : Nat := r.maxPower * 1000 / r.nominal

/-- The typical power of a rail, in mW (R397): never a limit. -/
def Rail.typicalPower : Rail → Nat
  | .core => 52000
  | .conv => 62000
  | .an => 50000
  | .io => 1800
  | .v33 => 1200
  | .biasP | .biasN => 4000

/-! Electrical characteristics (R398-R407). -/

/-- The characteristics with limits, and their units (R398, R399, R401, R402, R404, R405). -/
inductive Characteristic
  /-- dBm into 100 ohm at 100 MHz -/
  | dacFullScale
  /-- mV, no load -/
  | dacCommonMode
  /-- mV peak to peak, into 100 ohm -/
  | adcFullScale
  /-- mV -/
  | adcCommonMode
  /-- MHz, -3 dB -/
  | adcBandwidth
  /-- ohm -/
  | triggerResistance
  /-- mV -/
  | triggerRange
  /-- MHz, -3 dB -/
  | triggerBandwidth
  /-- mV per ns, for the stated resolution -/
  | triggerSlew
  /-- mV into 10 kohm -/
  | markerHigh
  /-- mV into 10 kohm -/
  | markerLow
  /-- mV into 50 ohm -/
  | markerHigh50
  /-- ps, 20 to 80 %, into 50 ohm -/
  | markerEdge
  /-- mA in one BRTN ball -/
  | biasReturn
  /-- mV peak to peak: REF_IN -/
  | refSwing
  /-- mV: SYNC_IN -/
  | syncSwing
  /-- mV: SYNC_IN -/
  | syncCommonMode
  /-- mV peak to peak: ETH_REFCLK -/
  | ethRefSwing
  /-- percent: REF_IN and ETH_REFCLK -/
  | clockDuty
  /-- ps, 20 to 80 %: REF_IN and SYNC_IN -/
  | refEdge
  /-- ps, 20 to 80 %: ETH_REFCLK -/
  | ethRefEdge
  /-- dBc per Hz: REF_IN -/
  | refNoise
  /-- mV peak to peak, preset 0 -/
  | laneSwing
  /-- dB at 16 GHz, ball to ball -/
  | laneLoss
  /-- mV peak to peak at the balls -/
  | laneSensitivity
  /-- bit errors in 10^12 bits before correction -/
  | laneErrors
  /-- ns within a bonded group -/
  | laneSkew
  deriving DecidableEq, Repr

/-- The limits over the operating conditions (R398-R405). -/
def Characteristic.limits : Characteristic → Limits
  | .dacFullScale => from_ 0 2
  | .dacCommonMode => from_ 450 750
  | .adcFullScale => from_ 950 1050
  | .adcCommonMode => from_ 500 700
  | .adcBandwidth => atLeast 8000
  | .triggerResistance => from_ 49 51
  | .triggerRange => from_ (-2500) 2500
  | .triggerBandwidth => atLeast 4000
  | .triggerSlew => atLeast 1000
  | .markerHigh => atLeast 3100
  | .markerLow => atMost 200
  | .markerHigh50 => atLeast 1500
  | .markerEdge => atMost 300
  | .biasReturn => atMost 12
  | .refSwing => from_ 400 1600
  | .syncSwing => from_ 250 800
  | .syncCommonMode => from_ 800 1600
  | .ethRefSwing => from_ 400 1600
  | .clockDuty => from_ 40 60
  | .refEdge => atMost 500
  | .ethRefEdge => atMost 1000
  | .refNoise => atMost (-150)
  | .laneSwing => from_ 700 900
  | .laneLoss => atMost 28
  | .laneSensitivity => atLeast 30
  | .laneErrors => atMost 1
  | .laneSkew => atMost 16

/-- What RST_N or BIAS_CLR_N reads at a voltage in mV: between the two levels nothing is said (R403). -/
def cmosLevel (mv : Int) : Option Bool :=
  if mv ≤ 800 then some false else if 2000 ≤ mv then some true else none

/-- Whether a frequency in Hz lies within so many ppm of its nominal value. -/
def nearHz (nominal ppm f : Nat) : Bool :=
  decide (nominal * (1000000 - ppm) ≤ f * 1000000) && decide (f * 1000000 ≤ nominal * (1000000 + ppm))

/-- The frequencies of REF_IN (R404): FREQ 0 is 100 MHz, 1 is 250 MHz (R36). -/
def refInput (freq : Bool) (f : Nat) : Bool := nearHz (if freq then 250000000 else 100000000) 50 f

/-- The frequency of ETH_REFCLK (R404). -/
def ethRefInput (f : Nat) : Bool := nearHz 156250000 100 f

/-- The flash: at least 32 MiB, read at 50 MHz (R403). -/
def flashBytes : Limits := atLeast 0x2000000

/-- The modes of an Ethernet lane's PMD, and the clause of IEEE 802.3 each meets (R406). -/
inductive Pmd
  | cr4 | kr4 | cr25 | kr25 | kr10
  deriving DecidableEq, Repr

def Pmd.clause : Pmd → Nat
  | .cr4 => 92
  | .kr4 => 93
  | .cr25 => 110
  | .kr25 => 111
  | .kr10 => 72

/-! Thermal and mechanical limits (R408-R411). -/

/-- The greatest junction temperature with the lid at a temperature, in millidegrees C, at a power in
mW: 0.07 degrees per watt (R408, R409). -/
def junctionAt (lid : Int) (mw : Nat) : Int := lid + mw * 7 / 100

/-- What a cold plate gives: the lid it covers in mm, the temperature at which it holds the lid at 235 W
in degrees C, the force in N, its flatness in um and its interface in mdegrees per watt. -/
structure ColdPlate where
  cover : Nat
  lid : Int
  force : Nat
  flat : Nat
  interface : Nat
  deriving DecidableEq, Repr

/-- Whether a cold plate meets R409. -/
def ColdPlate.meets (p : ColdPlate) : Bool :=
  decide (64 ≤ p.cover) && decide (p.lid ≤ 80) && (from_ 250 350).allow p.force && decide (p.flat ≤ 25)
    && decide (p.interface ≤ 30)

/-- The dimensions of R410 that have limits, in micrometres. -/
inductive Outline
  | body | ballDiameter | standOff | coplanarity | seatedHeight | lidFlatness
  deriving DecidableEq, Repr

def Outline.limits : Outline → Limits
  | .body => from_ 67350 67650
  | .ballDiameter => from_ 550 650
  | .standOff => from_ 400 550
  | .coplanarity => atMost 200
  | .seatedHeight => from_ 4900 5500
  | .lidFlatness => atMost 30

/-- The centre of a ball, in micrometres from the two body edges next to A1: rows run along the first,
columns along the second (R388, R410). -/
def Ball.centre (b : Ball) : Nat × Nat := (2250 + b.row * 1000, 2250 + (b.col - 1) * 1000)

/-- A reflow: its peak in degrees C, the seconds above 240 and which one it is (R411). -/
def reflowAllowed (peak seconds nth : Nat) : Bool :=
  decide (peak ≤ 245) && decide (seconds ≤ 30) && decide (nth ≤ 3)

/-! Ordering and marking (R412, R413). -/

/-- The one ordering code (R412). -/
def orderingCode : String := "TVX-384-FA"

/-- A hexadecimal digit. -/
def hexDigit (n : Nat) : Char := ("0123456789ABCDEF".toList).getD (n % 16) '0'

/-- So many hexadecimal digits of a number. -/
def hexDigits : Nat → Nat → String
  | 0, _ => ""
  | k + 1, n => hexDigits k (n / 16) ++ (hexDigit n).toString

/-- The lines of the lid: the lot, the date code, and the revision and serial number of GLOBAL.ID (R413). -/
def lidMarking (s : State) (lot date : String) : List String :=
  ["PALGORA", orderingCode, lot, date ++ hexDigits 2 (s.rd Fld.globalId_REV),
    hexDigits 8 (s.rd Fld.globalId_SERIAL)]

end Sys2Proof.Machine
end

