-- ==== Sys2Proof/Tests/Slice0.lean ====
section
/-! SUPPORT. Tests: ill-formed terms, decoding of words written out from the formats, single steps on
small states, and for each statement with hypotheses a state and operands that meet them. -/

namespace Sys2Proof.Tests

set_option Elab.async false

open Machine Fld Claim

/-- Thread 0 of tile 0. -/
def q0 : Thr := ⟨0, 0⟩

/-- The command is carried out, and the next state passes a check. -/
def answers (o : Host.Outcome State Fault Refusal) (p : State → Bool) : Bool :=
  match o with
  | .next t => p t
  | _ => false

/-- A device in Active at tick 100, its clocks locked and its quadrants ready. -/
def live : State :=
  let s := (((State.reset.wr globalBoot_STAGE 4).wr pwr_CUR 0).wr dieStatus_QREADY 15).put timeStatus_PLL_LOCK true
  let s := (s.put timeStatus_FT_VALID true).wr (ndlStatus_IMG_STATE 0) 2
  { s with tick := 100, ft := 100, ptpNs := 100 }

/-- The same with thread 0 of tile 0 as a function leaves it. -/
def with0 (f : Thread → Thread) : State := live.modThread q0 f

/-- The same with that thread Running, G1 = 5 and G2 = 7. -/
def running : State := with0 (fun x => ({ x with st := .running }.setReg 1 5).setReg 2 7)

/-- The same Running thread with a change. -/
def run0 (f : Thread → Thread) : State := running.modThread q0 f

/-- A write of a whole register by the secure requester of domain 0. -/
def wr0 (v : Word) : WriteOp := ⟨⟨0, true⟩, .whole, v⟩

/-- Completion ring 0 of 8 entries, empty, whose pair is in RTS. -/
def cplRing : State := ((live.put (cplCfg_EN 0) true).wr (cplCfg_LOG2SIZE 0) 8).wr (qpCtrl_STATE 0) 3

/-- An open shot of that thread. -/
def shot0 : Shot :=
  { id := 0
    parts := [{ thr := q0
                ck := { g := Vector.replicate 32 0, pc := 0, tc := 0, tcf := 0, wt := 0, ws := 0,
                        lc := Vector.replicate 4 0, stack := [], trigs := [], barGen := [] }
                args := { rep := true, joint := false, blk := false, bar := 0, reset := 0 } }]
    joint := false, bar := 0, gen := 0, k := 0, kFt := 0, replays := 0, replayable := true }

/-- Where a descriptor of command ring 0 came from. -/
def ref0 (op : Nat) : DescRef := { ring := 0, index := 0, tag := 7, cpl := true, inl := false, opcode := op }

/-- A launch of entry 0 of thread 0's image. -/
def launch0 : Launch := { desc := ref0 0x20, entry := 0, mode := .now, args := [1, 2, 3, 4] }

/-- A queued `emit` with a stamp. -/
def emitAt (stamp : Word) : TimedCmd := { kind := .emit 2, stamp := stamp, fine := 0, issued := 50, shot := none }

/-- Thread 0 inside a shot. -/
def inShot0 : State := { run0 (fun x => { x with shot := some 0 }) with shots := [shot0], nextShot := 1 }

/-! Ill-formed terms, one for each check. -/

theorem test_wf_thread : Instr.wf (.nop ⟨0, 8⟩) = false ∧ Instr.wf (.nop ⟨16, 0⟩) = false ∧ Instr.wf (.nop q0) = true := by
  decide
theorem test_wf_target : Instr.wf (.patternEnd (.tone 0 4 0)) = false ∧ Instr.wf (.patternEnd (.flux 0 12)) = false := by decide
theorem test_wf_requester : Instr.wf (.rqPop 0 ⟨5, true⟩) = false := by decide
theorem test_wf_half : Instr.wf (.powerRequest ⟨⟨0, true⟩, .low, 0x100000000⟩) = false := by decide
theorem test_wf_descriptor : Instr.wf (.load ⟨ref0 0x11, false, List.replicate 8 0⟩) = false
    ∧ Instr.wf (.load ⟨ref0 0x10, false, []⟩) = false
    ∧ Instr.wf (.load ⟨{ ref0 0x10 with ring := 64 }, false, List.replicate 8 0⟩) = false
    ∧ Instr.wf (.load ⟨ref0 0x10, false, List.replicate 8 0⟩) = true
    ∧ Instr.wf (.badDescriptor ⟨ref0 0, false, []⟩) = false := by decide
theorem test_wf_numbers : Instr.wf (.markerPulseEnd 16 0) = false ∧ Instr.wf (.markerPulseEnd 0 32) = false
    ∧ Instr.wf (.barrierRelease 64) = false ∧ Instr.wf (.faultDetected ⟨9, 1, 0, 0, .nowhere⟩) = false
    ∧ Instr.wf (.faultDetected ⟨2, 1, 16, 0, .nowhere⟩) = false ∧ Instr.wf (.scrubRead 1 16 0 .clean) = false
    ∧ Instr.wf (.syncEdge ⟨false, false, true, true, 0, 65536⟩) = false
    ∧ Instr.wf (.skewCalDone ⟨false, 0, 0, 0, 0⟩) = false := by decide
theorem test_wf_channels : Instr.wf (.windowOpen 0 24) = false ∧ Instr.wf (.windowEnd 0 24 []) = false
    ∧ Instr.wf (.demodBankApply 0 24) = false ∧ Instr.wf (.demodCommit 0 24 (wr0 0)) = false
    ∧ Instr.wf (.fluxBankApply 0 12) = false ∧ Instr.wf (.fluxLvlWrite 0 12 (wr0 0)) = false
    ∧ Instr.wf (.fluxEnableWrite 0 12 (wr0 0)) = false ∧ Instr.wf (.fluxCommit 0 12 (wr0 0)) = false
    ∧ Instr.wf (.biasDriftTrack 0 192) = false ∧ Instr.wf (.biasOutputWrite 0 192 true (wr0 0)) = false := by decide
theorem test_wf_units : Instr.wf (.tdcEdge 20 0) = false ∧ Instr.wf (.tdcWindowExpiry 12) = false
    ∧ Instr.wf (.tdcHeldStopExpiry 12) = false ∧ Instr.wf (.tdcRecoveryEnd 12) = false
    ∧ Instr.wf (.tdcRecalibrate 12) = false ∧ Instr.wf (.tdcQueuePop 12 ⟨0, true⟩) = false
    ∧ Instr.wf (.tdcUnitCfgWrite 12 (wr0 0)) = false ∧ Instr.wf (.tdcQueueFlush 12 (wr0 0)) = false
    ∧ Instr.wf (.statGo 12 (wr0 0)) = false ∧ Instr.wf (.kenperMDatagram 8 ⟨false, 0, 0⟩ 0 []) = false := by decide
theorem test_wf_lists : Instr.wf (.corrPeriodCopy 0 (some [])) = false ∧ Instr.wf (.traceDone 0 []) = false
    ∧ Instr.wf (.bobbinRefillData 0 0 []) = false ∧ Instr.wf (.parkTableRx 0 []) = false
    ∧ Instr.wf (.biasUpdate 0 [⟨192, 0, 0⟩]) = false
    ∧ Instr.wf (.loadData 0 0 []) = false ∧ Instr.wf (.modelUpdate []) = false
    ∧ Instr.wf (.diodeRead []) = false ∧ Instr.wf (.eqGuardPeriod 0 65537 0 0 (Vector.replicate 12 0)) = false := by decide
theorem test_wf_addresses : Instr.wf (.counterLowRead ⟨0, true⟩ 4) = false ∧ Instr.wf (.registerWrite 2 (wr0 0)) = false
    ∧ Instr.wf (.counterClear 2 (wr0 0)) = false ∧ Instr.wf (.seamChWrite 2 (wr0 0)) = false
    ∧ Instr.wf (.claimWrite 2 (wr0 0)) = false ∧ Instr.wf (.biasLinkCommand 0 2 (wr0 0) 0) = false := by decide

/-! Words written out from the formats of 03 R76: opcode, then the format's fields. -/

theorem test_decode_alu : decodeNeedle q0 0x0118440000000000 = .add q0 3 1 2
    ∧ decodeNeedle q0 0x11FF8000FFFFFFFE = .addi q0 31 30 0xFFFFFFFE
    ∧ decodeNeedle q0 0x1E20000000000009 = .ldi q0 4 9 := by decide
theorem test_decode_memory : decodeNeedle q0 0x2029800000001FFF = .ld q0 5 6 0x1FFF
    ∧ decodeNeedle q0 0x21018E0000000001 = .st q0 6 7 1
    ∧ decodeNeedle q0 0x2443800000000000 = .mfs q0 8 14 := by decide
theorem test_decode_branch : decodeNeedle q0 0x314A80000001FFFF = .beq q0 9 10 0x1FFFF
    ∧ decodeNeedle q0 0x3748210000000005 = .bbs q0 9 33 5
    ∧ decodeNeedle q0 0x3F02C00000000000 = .jr q0 11
    ∧ decodeNeedle q0 0x2803000000000000 = .opAt q0 12 := by decide
theorem test_decode_timed : decodeNeedle q0 0x4092528004000000 = .play q0 2 false true 4 0xA5 0x400 0
    ∧ decodeNeedle q0 0x4591908000000006 = .setp q0 2 true 3 0x21 6
    ∧ decodeNeedle q0 0x4840800001010000 = .acq q0 1 0x800001 0x10000
    ∧ decodeNeedle q0 0x4C00011F0000000A = .mark q0 0 1 31 10
    ∧ decodeNeedle q0 0x5080000300000000 = .emit q0 2 3 := by decide
theorem test_decode_waits_and_shots : decodeNeedle q0 0x626D5E4000000064 = .wdec q0 13 0xABC true 100
    ∧ decodeNeedle q0 0x63001F8000000001 = .wbar q0 63 1
    ∧ decodeNeedle q0 0x70D500000000004D = .shotBegin q0 true true false 42 77
    ∧ decodeNeedle q0 0x7100000000000000 = .shotEnd q0
    ∧ decodeNeedle q0 0x7F00000000000000 = .opEnd q0
    ∧ decodeNeedle q0 0x7E00000000000000 = .illegalInstruction q0 := by decide
theorem test_decode_reserved_bits_ignored : decodeNeedle q0 0x0118440000000001 = .add q0 3 1 2 := by decide
theorem test_table_word : decodeTableWord 0 0 = none := by decide

/-! The block. -/

theorem witness_idle_phases : State.reset.pending = [] ∧ State.reset.phase = 0
    ∧ ({ State.reset with phase := 1 } : State).pending = [] := by decide
theorem test_step_takes_the_front : answers (step { running with pending := [.add q0 3 1 2, .nop q0] })
    (fun t => (t.thread q0).reg 3 == 12 && t.pending == [.nop q0]) = true := by
  all_goals decide +kernel
theorem test_forest_time_counts : live.on timeStatus_PLL_LOCK = true ∧ live.clocks.ft = 101
    ∧ State.reset.on timeStatus_PLL_LOCK = false ∧ State.reset.clocks.ft = 0 ∧ State.reset.clocks.tick = 1 := by
  and_intros
  all_goals decide +kernel
theorem test_encode_nop : encodeNeedle (.nop q0) = some (q0, 0) ∧ encodeNeedle (.timedDispatch q0) = none := by decide
theorem witness_memory_step : Inv running ∧ answers (step { running with pending := [.st q0 1 2 0] })
    (fun t => t.mem == [(0x100028, 7)]) = true := by
  and_intros
  all_goals first | decide +kernel | (unfold Inv; decide +kernel)

/-! The needles. -/

theorem witness_ready : Ready running q0 ∧ (running.thread q0).st = .running ∧ running.shotOf q0 = none
    ∧ (running.thread q0).queue.length < 64 ∧ (running.thread q0).trigs.length = 8 ∧ Inv running := by
  and_intros
  all_goals first | decide +kernel | (unfold Inv; decide +kernel)
theorem test_add : answers (exec (.add q0 3 1 2) running)
    (fun t => (t.thread q0).reg 3 == 12 && (t.thread q0).pc == 1 && (t.thread q0).readyAt == 101) = true := by
  all_goals decide +kernel
theorem test_sub_wraps : answers (exec (.sub q0 1 1 2) running)
    (fun t => (t.thread q0).reg 1 == 0xFFFFFFFFFFFFFFFE) = true := by
  all_goals decide +kernel
theorem test_mul_cost : answers (exec (.mul q0 3 1 2) running)
    (fun t => (t.thread q0).reg 3 == 35 && (t.thread q0).readyAt == 103) = true := by
  all_goals decide +kernel
theorem test_sari : answers (exec (.sari q0 3 1 65) (run0 (fun x => x.setReg 1 0x8000000000000000)))
    (fun t => (t.thread q0).reg 3 == 0xC000000000000000) = true := by
  all_goals decide +kernel
theorem test_slt_sltu : answers (exec (.slt q0 3 1 2) (run0 (fun x => x.setReg 1 0xFFFFFFFFFFFFFFFF)))
      (fun t => (t.thread q0).reg 3 == 1) = true
    ∧ answers (exec (.sltu q0 3 1 2) (run0 (fun x => x.setReg 1 0xFFFFFFFFFFFFFFFF)))
      (fun t => (t.thread q0).reg 3 == 0) = true := by
  and_intros
  all_goals decide +kernel
theorem test_ldih : answers (exec (.ldih q0 1 0x80000000) running)
    (fun t => (t.thread q0).reg 1 == 0x8000000000000005) = true := by
  all_goals decide +kernel
theorem test_store_then_load : answers (exec (.st q0 1 2 8190) running) (fun t => t.mem == [(0x100018, 7)]) = true
    ∧ running.poisoned 0x02 0 5 = false ∧ (running.slot 5).bad = false := by
  and_intros
  all_goals decide +kernel
theorem witness_poisoned_load : Ready { running with poison := [(2, 0, 5)] } q0
    ∧ ({ running with poison := [(2, 0, 5)] } : State).poisoned 0x02 0 5 = true
    ∧ answers (exec (.ld q0 3 1 0) { running with poison := [(2, 0, 5)] })
        (fun t => (t.thread q0).st == .faulted && (t.thread q0).reg 3 == 0) = true := by
  and_intros
  all_goals decide +kernel
/-- Slot 5 uncorrectable, and the X of qubit slot 5 set. -/
def marred : State :=
  { running with slots := [(5, { word := 3, wrote := some 50, old := emptyWord, bad := true })], ledger := 1 <<< 11 }
theorem witness_ldf_ldd : Ready marred q0
    ∧ (marred.slot 5).bad = true
    ∧ marred.shotOf q0 = none
    ∧ marred.poisoned 0x06 0 0 = false
    ∧ answers (exec (.ldf q0 3 1 0) marred) (fun t => (t.thread q0).reg 3 == 2) = true
    ∧ answers (exec (.ldf q0 3 1 379) marred) (fun t => (t.thread q0).reg 3 == 0) = true
    ∧ answers (exec (.ldd q0 3 1 0) marred)
        (fun t => (t.thread q0).reg 3 == blanked (marred.slotSeen 5) 2 && t.seamRaised == [501]) = true := by
  and_intros
  all_goals decide +kernel
theorem test_mts_mfs : answers (exec (.mts q0 1 1) running) (fun t => (t.thread q0).tc == 5) = true
    ∧ answers (exec (.mfs q0 4 14) running) (fun t => (t.thread q0).reg 4 == 100) = true
    ∧ answers (exec (.mts q0 1 0) running) (fun t => (t.thread q0).st == .faulted) = true := by
  and_intros
  all_goals decide +kernel
theorem test_adv_crosses_zero : answers (exec (.adv q0 0xFFFFFFFF) running)
    (fun t => (t.thread q0).tc == 0xFFFFFFFFFFFFFFFF && (t.thread q0).tcf == 15) = true := by
  all_goals decide +kernel
theorem test_branches : answers (exec (.blt q0 1 2 9) running) (fun t => (t.thread q0).pc == 9) = true
    ∧ answers (exec (.bge q0 1 2 9) running) (fun t => (t.thread q0).pc == 1) = true
    ∧ answers (exec (.bdn q0 1 32 9) running) (fun t => (t.thread q0).pc == 9) = true
    ∧ answers (exec (.bws q0 1 9) running) (fun t => (t.thread q0).pc == 9) = true := by
  and_intros
  all_goals decide +kernel
theorem test_loop_at_zero_wraps : answers (exec (.loop q0 1 9) running)
    (fun t => (t.thread q0).pc == 9 && (t.thread q0).lc == #v[0, 0xFFFFFFFF, 0, 0]) = true := by
  all_goals decide +kernel
theorem witness_stack : answers (exec (.call q0 9) running) (fun t => (t.thread q0).stack == [1]) = true
    ∧ answers (exec (.call q0 9) (run0 (fun x => { x with stack := List.replicate 16 0 })))
        (fun t => (t.thread q0).faultDue == some (0x03, 2100)) = true
    ∧ answers (exec (.ret q0) (run0 (fun x => { x with stack := [33] }))) (fun t => (t.thread q0).pc == 33) = true
    ∧ answers (exec (.ret q0) running) (fun t => (t.thread q0).faultDue == some (0x04, 2100)) = true := by
  and_intros
  all_goals decide +kernel
theorem witness_last_word : (run0 (fun x => { x with pc := 131072 })).nextInstr q0 = .illegalInstruction q0
    ∧ Ready (run0 (fun x => { x with pc := 131072 })) q0 := by
  and_intros
  all_goals decide +kernel
theorem test_illegal : answers (exec (.illegalInstruction q0) running)
    (fun t => (t.thread q0).faultDue == some (0x02, 2100) && (t.thread q0).st == .faulted) = true := by
  all_goals decide +kernel
theorem test_program_errors : answers (exec (.mfs q0 4 15) running) (fun t => (t.thread q0).faultDue == some (0x02, 2100)) = true
    ∧ answers (exec (.mts q0 1 9) inShot0) (fun t => (t.thread q0).faultDue == some (0x02, 2100)) = true
    ∧ answers (exec (.play q0 3 false false 0 0 0 0) running) (fun t => (t.thread q0).faultDue == some (0x02, 2100)) = true
    ∧ playTarget 0xFF = false
    ∧ answers (exec (.jseg q0 0 false false 0 0xFF 0 0) running)
        (fun t => (t.thread q0).faultDue == some (0x06, 2100) && (t.thread q0).queue == []) = true := by
  and_intros
  all_goals decide +kernel

/-! Triggers and waits. -/

theorem test_arm : answers (exec (.arm q0 2) running)
    (fun t => ((t.thread q0).trig 2).armed == some 100 && ((t.thread q0).trig 1).armed == none) = true := by
  all_goals decide +kernel
theorem witness_wtrig_ends : answers (exec (.wtrig q0 2 0) (run0 (fun x => x.setTrig 2 { pending := some 90 })))
      (fun t => (t.thread q0).ws == 0 && (t.thread q0).wt == 90 && (t.thread q0).readyAt == 103) = true
    ∧ ((run0 (fun x => x.setTrig 2 { pending := some 90 })).thread q0).trig 2 = { pending := some 90 } := by
  and_intros
  all_goals decide +kernel
theorem witness_wtrig_latched : answers (exec (.wtrig q0 2 0) (run0 (fun x => { x with trigMode := 4 }.setTrig 2 { latch := some 80 })))
      (fun t => (t.thread q0).ws == 0 && (t.thread q0).wt == 80 && ((t.thread q0).trig 2).latch == none) = true
    ∧ answers (exec (.arm q0 2) (run0 (fun x => { x with trigMode := 4 }.setTrig 2 { latch := some 80 })))
      (fun t => (t.thread q0).trig 2 == {}) = true := by
  and_intros
  all_goals decide +kernel
theorem witness_wtrig_times_out : running.passed (timeoutTick (running.thread q0) 50) = true
    ∧ answers (exec (.wtrig q0 2 50) running) (fun t => (t.thread q0).ws == 3 && (t.thread q0).wt == 50) = true := by
  and_intros
  all_goals decide +kernel
theorem witness_wtrig_waits : running.passed (timeoutTick (running.thread q0) 100) = false
    ∧ answers (exec (.wtrig q0 2 100) running)
        (fun t => (t.thread q0).st == .waiting && ((t.thread q0).trig 2).armed.isSome) = true := by
  and_intros
  all_goals decide +kernel
/-- A slot written at forest time 50. -/
def slotted : State := { running with slots := [(7, { word := 3, wrote := some 50, old := emptyWord })] }
theorem witness_wdec_ends : (slotted.slot 7).wrote = some 50 ∧ 0 ≤ dist64 50 (slotted.thread q0).tc
    ∧ (slotted.slot 7).bad = false ∧ (slotted.thread q0).shot = none
    ∧ answers (exec (.wdec q0 3 7 false 0) slotted) (fun t => (t.thread q0).reg 3 == 3 && (t.thread q0).wt == 50) = true := by
  and_intros
  all_goals decide +kernel
theorem witness_wdec_waits : (running.slot 7).wrote = none
    ∧ answers (exec (.wdec q0 3 7 false 50) running) (fun t => (t.thread q0).ws == 3) = true
    ∧ answers (exec (.wdec q0 3 7 false 0) running) (fun t => (t.thread q0).st == .waiting) = true := by
  and_intros
  all_goals decide +kernel
/-- Thread 0 takes part in barrier 0. -/
def partaking : State := running.setReg ⟨.barMap, 0, 0, 0⟩ 1
theorem witness_wbar : partaking.takesPart q0 0 = true ∧ running.takesPart q0 0 = false
    ∧ partaking.passed (timeoutTick (partaking.thread q0) 0) = false
    ∧ answers (exec (.wbar q0 0 0) partaking)
        (fun t => (t.thread q0).st == .waiting && ((t.bar 0).at_ 0).came == [q0]) = true := by
  and_intros
  all_goals decide +kernel
theorem witness_wbar_passed : partaking.passed (timeoutTick (partaking.thread q0) 50) = true
    ∧ answers (exec (.wbar q0 0 50) partaking) (fun t => (t.thread q0).ws == 3 && (t.thread q0).wt == 50
        && Tab.get (t.thread q0).barGen 0 0 == 1 && ((t.bar 0).at_ 0).came == [q0]) = true
    ∧ answers (exec (.wbar q0 0 0) running) (fun t => (t.thread q0).st == .waiting && t.bars == []) = true
    ∧ (partaking.put (eswBar_EN 0) true).on (eswBar_EN 0) = true
    ∧ answers (exec (.wbar q0 0 50) (partaking.put (eswBar_EN 0) true))
        (fun t => (t.thread q0).wait.map Wait.timeout == some (some 513)) = true := by
  and_intros
  all_goals decide +kernel
theorem witness_wptp : timeDue ((running.thread q0).reg 1) running.ptpNs = true
    ∧ timeDue ((run0 (fun x => x.setReg 1 101)).thread q0 |>.reg 1) running.ptpNs = false
    ∧ answers (exec (.wptp q0 1) running) (fun t => (t.thread q0).wt == 100 && (t.thread q0).st == .running) = true
    ∧ answers (exec (.wptp q0 1) (run0 (fun x => x.setReg 1 101))) (fun t => (t.thread q0).st == .waiting) = true := by
  and_intros
  all_goals decide +kernel
theorem witness_wq : answers (exec (.wq q0) running) (fun t => (t.thread q0).wt == 100 && (t.thread q0).st == .running) = true
    ∧ answers (exec (.wq q0) (run0 (fun x => { x with queue := [emitAt 900] }))) (fun t => (t.thread q0).st == .waiting) = true := by
  and_intros
  all_goals decide +kernel

/-! Timed commands. -/

theorem witness_timed : Ready running q0 ∧ playTarget 0 = true ∧ toneTarget 0 = true ∧ fluxTarget 0x80 = true
    ∧ (2 : BitVec 2) ≠ 3 := by
  and_intros
  all_goals decide +kernel
theorem test_emit_queues : answers (exec (.emit q0 1 2) running)
    (fun t => (t.thread q0).queue == [{ kind := .emit 2, stamp := 139, fine := 0, issued := 100, shot := none }]) = true := by
  all_goals decide +kernel
theorem test_mark_reserved_action : answers (exec (.mark q0 0 3 0 1) running)
    (fun t => (t.thread q0).faultDue == some (0x02, 2100)) = true := by
  all_goals decide +kernel
theorem witness_full_queue : (run0 (fun x => { x with queue := List.replicate 64 (emitAt 900) })).canIssue q0 = true
    ∧ answers (exec (.emit q0 0 0) (run0 (fun x => { x with queue := List.replicate 64 (emitAt 900) })))
        (fun t => (t.thread q0).st == .full && (t.thread q0).pc == 0) = true := by
  and_intros
  all_goals decide +kernel
theorem witness_dispatch : answers (exec (.timedDispatch q0) (run0 (fun x => { x with queue := [emitAt 138] })))
      (fun t => (t.thread q0).queue == [] && t.acts.map Act.at_ == [16 * 138]) = true
    ∧ running.shotOf q0 = none ∧ (run0 (fun x => { x with queue := [emitAt 137] })).ft = 100
    ∧ timeDue (137 - 38) 100 = true
    ∧ answers (exec (.timedDispatch q0) (run0 (fun x => { x with queue := [emitAt 137] })))
      (fun t => (t.thread q0).faultDue == some (0x01, 2100)) = true := by
  and_intros
  all_goals decide +kernel

/-! Shots and launches. -/

theorem witness_shot_begin : running.leavePending = false ∧ running.undef = none ∧ (running.thread q0).params = []
    ∧ running.rd canopyStatus_CANOPY_LEVEL = 0 ∧ running.rd canopyStatus_CRYO_LEVEL = 0
    ∧ running.on modeThrottle_HOST = false ∧ (running.thread q0).prevShot = none
    ∧ answers (exec (.shotBegin q0 true false false 0 0) running)
        (fun t => (t.thread q0).shot == some 0 && t.shots.length == 1 && (t.thread q0).readyAt == 106) = true := by
  and_intros
  all_goals decide +kernel
theorem witness_shot_begin_held : answers (exec (.shotBegin q0 true false false 0 0) inShot0)
      (fun t => (t.thread q0).faultDue == some (0x05, 2100)) = true
    ∧ answers (exec (.shotBegin q0 true false false 0 0) (run0 (fun x => { x with prevShot := some 0 })))
      (fun t => (t.thread q0).hold == some .commit) = true
    ∧ (running.put pwr_BUSY true).leavePending = true
    ∧ answers (exec (.shotBegin q0 true false false 0 0) (running.put pwr_BUSY true))
      (fun t => (t.thread q0).hold == some .leave) = true
    ∧ partaking.passed (some (100000)) = false
    ∧ answers (exec (.shotBegin q0 true true false 0 0) partaking) (fun t => (t.thread q0).st == .waiting) = true := by
  and_intros
  all_goals decide +kernel
theorem witness_shot_end : inShot0.shotById 0 = some shot0 ∧ shot0.joint = false
    ∧ answers (exec (.shotEnd q0) inShot0) (fun t => (t.thread q0).prevShot == some 0 && (t.thread q0).shot == none) = true
    ∧ answers (exec (.shotEnd q0) running) (fun t => (t.thread q0).faultDue == some (0x05, 2100)) = true
    ∧ answers (exec (.opEnd q0) inShot0) (fun t => (t.thread q0).faultDue == some (0x05, 2100)) = true
    ∧ answers (exec (.opEnd q0) running) (fun t => (t.thread q0).st == .draining) = true
    ∧ answers (exec (.shotEnd q0) { partaking.modThread q0 (fun x => { x with shot := some 0 }) with
        shots := [{ shot0 with joint := true }] }) (fun t => (t.thread q0).st == .waiting) = true := by
  and_intros
  all_goals decide +kernel
/-- The shot of thread 0 after its end. -/
def ended0 : Shot := { shot0 with parts := shot0.parts.map (fun p => { p with ended := some 90 }) }
theorem witness_commit : ({ live with shots := [ended0] } : State).commits ended0 = true
    ∧ inShot0.commits shot0 = false ∧ inShot0.undef = none
    ∧ answers (exec (.shotCommit 0) { live with shots := [ended0] }) (fun t => t.shots == []) = true := by
  and_intros
  all_goals decide +kernel
/-- Thread 0 at the end of a pause of 20 ticks. -/
def paused : State := with0 (fun x => { x with
  st := .held, hold := some .pause, pause := some (100, 20)
  opening := some { rep := true, joint := false, blk := false, bar := 0, reset := 0 } })
theorem witness_pause : paused.leavePending = false ∧ paused.undef = none ∧ (paused.thread q0).wait = none
    ∧ answers (exec (.pauseEnd q0) paused) (fun t => (t.thread q0).tc == 20 && (t.thread q0).shot == some 0) = true := by
  and_intros
  all_goals decide +kernel
theorem witness_pause_then_leave : (paused.put pwr_BUSY true).leavePending = true ∧ (paused.thread q0).inBlock = false
    ∧ answers (exec (.pauseEnd q0) (paused.put pwr_BUSY true)) (fun t => (t.thread q0).hold == some .leave
        && (t.thread q0).pause == none && (t.thread q0).tc == 0) = true := by
  and_intros
  all_goals decide +kernel
/-- Thread 0 with its launch at the front of its queue. -/
def launching : State := with0 (fun x => { x with lq := [launch0] })
theorem witness_launch_starts : launching.launchRefused q0 launch0 = none ∧ launching.entryAddr 0 0 = some 0
    ∧ answers (exec (.launchStart q0) launching)
        (fun t => (t.thread q0).st == .running && (t.thread q0).reg 3 == 4 && (t.thread q0).tc == 1100) = true := by
  and_intros
  all_goals decide +kernel
/-- That launch in a start mode, its thread with a change. -/
def launchIn (m : StartMode) (f : Thread → Thread) : State :=
  with0 (fun x => f { x with lq := [{ launch0 with mode := m }] })
theorem witness_launch_modes : (launchIn (.trig 2) id).launchRefused q0 { launch0 with mode := .trig 2 } = none
    ∧ ((launchIn (.trig 2) id).thread q0).trigs.length = 8
    ∧ timeDue 100 live.ptpNs = true ∧ timeDue 101 live.ptpNs = false
    ∧ answers (exec (.launchStart q0) (launchIn (.at 7777) id)) (fun t => (t.thread q0).st == .running && (t.thread q0).tc == 7777) = true
    ∧ answers (exec (.launchStart q0) (launchIn (.ptp 100) id)) (fun t => (t.thread q0).st == .running && (t.thread q0).tc == 1100) = true
    ∧ answers (exec (.launchStart q0) (launchIn (.ptp 101) id)) (fun t => (t.thread q0).st == .starting && (t.thread q0).pc == 0) = true
    ∧ answers (exec (.launchStart q0) (launchIn (.trig 2) id))
        (fun t => (t.thread q0).st == .starting && ((t.thread q0).trig 2).armed == some 100) = true
    ∧ ((launchIn (.trig 2) id).reg ⟨.thrCfg, 0, 0, 0⟩).getLsbD 2 = false
    ∧ answers (exec (.launchStart q0) ((launchIn (.trig 2) (fun x => x.setTrig 2 { latch := some 90 })).wr (thrCfg_TRIG_MODE 0 0) 4))
        (fun t => (t.thread q0).st == .running && (t.thread q0).tc == 1100) = true
    ∧ answers (exec (.launchStart q0) ((launchIn (.trig 2) id).wr (thrCfg_TRIG_MODE 0 0) 4))
        (fun t => (t.thread q0).st == .starting && ((t.thread q0).trig 2).armed == none) = true := by
  and_intros
  all_goals decide +kernel
theorem witness_launch_refused : (launching.wr (ndlStatus_IMG_STATE 0) 0).launchRefused q0 launch0 = some 0x11
    ∧ answers (exec (.launchStart q0) (launching.wr (ndlStatus_IMG_STATE 0) 0))
        (fun t => (t.thread q0).st == .idle && (t.thread q0).lq == []) = true
    ∧ (cplRing.wr (ndlStatus_IMG_STATE 0) 0).cplDiscards ((cplRing.wr (ndlStatus_IMG_STATE 0) 0).rd (cmdCfg_CRING 0)) = false
    ∧ answers (exec (.launchStart q0) ((cplRing.modThread q0 (fun x => { x with lq := [launch0] })).wr (ndlStatus_IMG_STATE 0) 0))
        (fun t => t.cplWait.map (fun e => (e.1, e.2.status, e.2.tag)) == [(0, 0x11, 7)]) = true := by
  and_intros
  all_goals decide +kernel
theorem witness_launch_ends : answers (exec (.drainComplete q0) (with0 (fun x => { x with st := .draining, launch := some launch0 })))
      (fun t => (t.thread q0).st == .idle && (t.thread q0).launch == none) = true
    ∧ answers (exec (.faultCompletion q0) (with0 (fun x => { x with st := .faulted, faultDue := some (9, 2000) })))
      (fun t => (t.thread q0).st == .idle && t.rd (thrState_FAULT_CODE 0 0) == 9) = true := by
  and_intros
  all_goals decide +kernel
theorem witness_replay : answers (exec (.replayResume q0) (with0 (fun x => { x with
        st := .rewinding, rewind := some { resume := 100, block := none, beginPc := 3 } })))
      (fun t => (t.thread q0).st == .running && (t.thread q0).readyAt == 100) = true
    ∧ answers (exec (.replayResume q0) (with0 (fun x => { x with
        st := .rewinding, rewind := some { resume := 100, block := some 8, beginPc := 3 } })))
      (fun t => (t.thread q0).pc == 8 && (t.thread q0).stack == [3]) = true := by
  and_intros
  all_goals decide +kernel
theorem witness_replay_block : answers (exec (.replayResume q0) (with0 (fun x => { x with
        stack := List.replicate 16 0, st := .rewinding, rewind := some { resume := 100, block := some 8, beginPc := 3 } })))
      (fun t => (t.thread q0).faultDue == some (0x03, 2100)) = true
    ∧ answers (exec (.replayResume q0) (with0 (fun x => { x with
        st := .rewinding, rewind := some { resume := 101, block := none, beginPc := 3 } })))
      (fun t => (t.thread q0).st == .rewinding) = true := by
  and_intros
  all_goals decide +kernel
/-- Thread 0 waiting for a condition. -/
def waits (c : WaitCond) (timeout : Option Word) (wake : Option Nat) : State :=
  with0 (fun x => { x with st := .waiting, wait := some { cond := c, timeout := timeout, wake := wake } })
/-- Barrier 0 released at tick 100. -/
def released : State := { waits (.bar 0 0 true .wbar) none none with
  bars := [(0, { gens := [(0, { rel := some (100, 100) })] })] }
theorem witness_release : ((released.bar 0).at_ (released.bar 0).gen).rel = some (100, 100)
    ∧ (∀ e ∈ released.waitersAt 0, e.2.1 = (released.bar 0).gen → e.2.2.2 = .wbar)
    ∧ answers (exec (.barrierRelease 0) released)
        (fun t => (t.bar 0).gen == 1 && ((t.thread q0).wait.bind Wait.wake) == some 103) = true := by
  and_intros
  all_goals decide +kernel
theorem witness_time_ends_waits :
    answers (exec (.ptpTimeDue q0) (waits (.ptp 100) none none)) (fun t => (t.thread q0).wt == 100) = true
    ∧ answers (exec (.waitTimeout q0) (waits (.trig 0) (some 100) none)) (fun t => (t.thread q0).ws == 3) = true
    ∧ answers (exec (.waitTimeout q0) (waits (.bar 0 0 true .wbar) (some 100) none))
        (fun t => (t.thread q0).ws == 3 && Tab.get (t.thread q0).barGen 0 0 == 1) = true
    ∧ answers (exec (.threadWake q0) (waits (.dec 3 7 false 0) none (some 100)))
        (fun t => (t.thread q0).st == .running && (t.thread q0).prio == 3) = true := by
  and_intros
  all_goals decide +kernel
theorem witness_time_ends_more :
    ((waits (.dec 3 7 false 0) (some 100) none).slot 7).since 0 = none
    ∧ answers (exec (.waitTimeout q0) (waits (.dec 3 7 false 0) (some 100) none))
        (fun t => (t.thread q0).ws == 3 && (t.thread q0).reg 3 == 0) = true
    ∧ answers (exec (.waitTimeout q0) (waits (.bar 0 0 true .shotEnd) (some 100) none))
        (fun t => (t.thread q0).faultDue == some (0x07, 2100)) = true
    ∧ answers (exec (.ptpTimeDue q0) (with0 (fun x => { x with
        st := .starting, launch := some { launch0 with mode := .ptp 100 } })))
        (fun t => (t.thread q0).st == .running && (t.thread q0).tc == 1100) = true
    ∧ answers (exec (.threadWake q0) ((waits (.ptp 90) none (some 100)).modThread q0 (fun x => { x with prio := 2 })))
        (fun t => (t.thread q0).st == .running && (t.thread q0).prio == 2) = true := by
  and_intros
  all_goals decide +kernel
theorem witness_release_of_an_outsider : answers (exec (.barrierRelease 0)
      { waits (.bar 0 7 false .shotEnd) none none with bars := [(0, { gens := [(0, { rel := some (100, 100) })] })] })
    (fun t => ((t.thread q0).wait.bind Wait.wake) == some 103 && (t.bar 0).gen == 1) = true := by
  all_goals decide +kernel
/-- Thread 0 with its trigger input 2 enabled, and its condition, mode and input. -/
def trig2 (s : State) (mode : BitVec 8) (y : TrigInput) : State :=
  s.modThread q0 (fun x => ({ x with trigEn := 4, trigMode := mode }).setTrig 2 y)
theorem witness_trigger :
    answers (exec (.triggerArrival q0 2) (trig2 (waits (.trig 2) none none) 0 { armed := some 50 }))
        (fun t => (t.thread q0).wt == 100 && (t.thread q0).ws == 0) = true
    ∧ answers (exec (.triggerArrival q0 2) (trig2 running 4 {})) (fun t => ((t.thread q0).trig 2).latch == some 100) = true
    ∧ answers (exec (.triggerArrival q0 2) (trig2 running 0 { armed := some 50 }))
        (fun t => ((t.thread q0).trig 2).pending == some 100) = true
    ∧ answers (exec (.triggerArrival q0 2) (trig2 running 4 { latch := some 50 })) (fun t => t.rd (thrCounts_TRIG_OVF 0 0) == 1) = true
    ∧ answers (exec (.triggerArrival q0 2) (trig2 running 0 {})) (fun t => t.rd (thrCounts_TRIG_IGN 0 0) == 1) = true := by
  and_intros
  all_goals decide +kernel
theorem witness_trigger_launch : answers (exec (.triggerArrival q0 2) (trig2 (with0 (fun x => { x with
        st := .starting, launch := some { launch0 with mode := .trig 2 } })) 0 { armed := some 50 }))
      (fun t => (t.thread q0).st == .running && (t.thread q0).tc == 1100) = true := by
  all_goals decide +kernel
theorem witness_params : (live.thread q0).st = .idle ∧ (live.thread q0).lq = [] ∧ (live.applyParams q0).undef = none := by
  and_intros
  all_goals decide +kernel
/-- One held PARAM without a write, whose completion ring takes entries. -/
def param0 : HeldParam := { desc := ref0 0x21, domain := 0, secure := true, writes := [] }
theorem witness_param_completes : (cplRing.modThread q0 (fun x => { x with params := [param0] })).undef = none
    ∧ cplRing.cplDiscards (cplRing.rd (cmdCfg_CRING 0)) = false
    ∧ answers (exec (.paramApply q0) (cplRing.modThread q0 (fun x => { x with params := [param0] })))
        (fun t => (t.thread q0).params == [] && t.cplWait.map (fun e => (e.2.status, e.2.tag)) == [(0, 7)]) = true := by
  and_intros
  all_goals decide +kernel
theorem witness_stop : Strikes (launching.modThread q0 (fun x => { x with st := .running })) (thrCtrl_STOP 0 0) (wr0 1)
    ∧ strobe (wr0 1).bits (thrCtrl_FLUSH_LQ 0 0) = false
    ∧ answers (exec (.threadStop q0 (wr0 1)) (launching.modThread q0 (fun x => { x with st := .running })))
        (fun t => (t.thread q0).st == .idle && t.rd (thrState_FAULT_CODE 0 0) == 0x0A) = true
    ∧ answers (exec (.flushLq q0 (wr0 2)) launching) (fun t => (t.thread q0).lq == []) = true := by
  and_intros
  all_goals decide +kernel
theorem witness_stop_cases : answers (exec (.threadStop q0 (wr0 1)) launching) (fun t => (t.thread q0).lq.length == 1) = true
    ∧ answers (exec (.threadStop q0 (wr0 3)) (launching.modThread q0 (fun x => { x with st := .running })))
        (fun t => (t.thread q0).lq == []) = true
    ∧ answers (exec (.flushLq q0 (wr0 3)) (launching.modThread q0 (fun x => { x with st := .running })))
        (fun t => (t.thread q0).lq == [] && (t.thread q0).st == .idle) = true := by
  and_intros
  all_goals decide +kernel

/-! Synthesis, readout, decisions, results, integrity. -/

/-- A pattern of 4 samples at its end, with or without FLUX_HOLD. -/
def played (g : Tgt) (hold : Bool) : Playing :=
  { tgt := g, thr := q0, shot := none, start := 0, last := 64
    body := { pat := 1, typ := 2, base := 0, len := 4, scale := 0x7FFF, mkEn := false, marker := 0, fluxHold := hold, bob := none } }
theorem witness_pattern_ends :
    answers (exec (.patternEnd (.tone 0 0 0)) { live with plays := [played (.tone 0 0 0) false] }) (fun t => t.plays == []) = true
    ∧ answers (exec (.patternEnd (.flux 0 1))
          { live with plays := [played (.flux 0 1) true], mem := Mem.store [] (Space.env.base 0 + 6) 2 0x4000 })
        (fun t => t.plays == [] && t.rd (fluxLvl_LVL 0 1) == 0x4000) = true := by
  and_intros
  all_goals decide +kernel
/-- A pulse of marker 3 by tile 0, which claims it, up to fine step 1,600. -/
def pulsing : State := { live.wr (claimMk_HOLDER 3) 1 with pulses := [{ tile := 0, marker := 3, from_ := 0, until_ := 1600, span := none }] }
theorem witness_marker_ends : answers (exec (.markerPulseEnd 0 3) pulsing)
    (fun t => t.pulses == [] && t.markerPin 3 1600 == false && pulsing.markerPin 3 1599) = true
    ∧ pulsing.rd (claimMk_HOLDER 3) = 0 + 1 ∧ pulsing.levelAt 3 1600 = false := by
  and_intros
  all_goals decide +kernel
/-- Bobbin 0 of tile 0 enabled, 16,384 samples, with nothing in it. -/
def bobbin : State := ((live.put (bobCfg_ENABLE 0 0) true).wr (bobCfg_SIZE 0 0) 1).wr (bobCfg_CHUNK 0 0) 1
/-- A feed of 100 samples to it, whose ring's pair is in RTS. -/
def fed : State := { (bobbin.wr (qpCtrl_STATE 0) 3).wr (qpCtrl_MAX_RD 0) 4 with
  extents := [((0, 0), { ref := ref0 0x30, start := 0, count := 100, hostAddr := 0, rkey := 0 })] }
theorem witness_refill_request : bobbin.bobWants 0 0 = true ∧ bobbin.extentAt 0 0 0 = none
    ∧ fed.bobWants 0 0 = true ∧ (fed.extentAt 0 0 0).isSome = true ∧ fed.canRead 0 = true
    ∧ answers (exec (.bobbinRefillRequest 0 0) bobbin) (fun t => t.on (bobStatus_FEED_DRY 0 0)) = true
    ∧ answers (exec (.bobbinRefillRequest 0 0) fed) (fun t => (t.bob 0 0).requested == 100) = true := by
  and_intros
  all_goals decide +kernel
/-- One sample asked for, of a READ of pair 0. -/
def refilling : State :=
  { bobbin.setBob 0 0 { requested := 1 } with
    outReqs := [{ q := 0, psn := 0, kind := .refill 0 0 0 1, sent := 90, left := 4 }] }
theorem witness_refill_data : Inv refilling
    ∧ refilling.refillDead 0 0 = false
    ∧ answers (exec (.bobbinRefillData 0 0 [7]) refilling)
        (fun t => t.rd (bobWp_VALUE 0 0) == 1 && Mem.load t.mem (Space.env.base 0 + 0x300000) 4 == 7) = true
    ∧ (refilling.wr (qpCtrl_STATE 0) qpErrorState).refillDead 0 0 = true
    ∧ answers (exec (.bobbinRefillData 0 0 [7]) (refilling.wr (qpCtrl_STATE 0) qpErrorState))
        (fun t => t.rd (bobWp_VALUE 0 0) == 0 && t.mem == []) = true := by
  and_intros
  · unfold Inv; decide +kernel
  all_goals decide +kernel
theorem witness_loop_jump : answers (exec (.bobbinLoopJump 0 0)
      (((bobbin.wr (bobLoop_LOOPS_LEFT 0 0) 2).wr (bobRp_VALUE 0 0) 8).setBob 0 0 { requested := 8, mark := 3, end_ := 8 }))
    (fun t => t.rd (bobRp_VALUE 0 0) == 3 && t.rd (bobLoop_LOOPS_LEFT 0 0) == 1) = true
    ∧ ((bobbin.wr (bobLoop_LOOPS_LEFT 0 0) 2).setBob 0 0 { requested := 8, mark := 3, end_ := 8 }).loopLost 0 0 = false := by
  and_intros
  all_goals decide +kernel
/-- ADC 0 enabled, an input 1 over full scale at its limit of 128. -/
def sampling : State := (live.put (adcCfg_EN 0) true).wr (adcCfg_OVR_LEVEL 0) 128
theorem witness_adc : (sampling.on (adcCfg_EN 0) && sampling.sliceNow 5) = true ∧ sampling.sliceNow 8 = false
    ∧ sampling.overRange 0 (2 ^ 20 + 1) = true ∧ sampling.overRange 0 (2 ^ 20) = false
    ∧ answers (exec (.adcOverRange 0 5 (2 ^ 20 + 1)) sampling)
      (fun t => t.bitAt (adcStatus_OVR_SEEN 0) 5 && t.seamRaised == [288]) = true
    ∧ answers (exec (.adcOverRange 0 5 (2 ^ 20)) sampling) (fun t => t.seamRaised == []) = true
    ∧ answers (exec (.adcOverRange 0 8 (2 ^ 20 + 1)) sampling) (fun t => t.seamRaised == []) = true
    ∧ answers (exec (.adcCodeClip 0 5 (-2047)) sampling) (fun t => t.rd (adcStatus_CODE_CLIPS 0) == 1) = true
    ∧ answers (exec (.adcCodeClip 0 5 2046) sampling) (fun t => t.rd (adcStatus_CODE_CLIPS 0) == 0) = true := by
  and_intros
  all_goals decide +kernel
/-- A window of demodulation channel 0 of tile 0. -/
def win : Window := { tile := 0, c := 0, acq := 0, thr := q0, shot := none, w := 1600, e := 1600, disp := false, bank := {} }
/-- Tick 0, a PERIOD boundary. -/
def period : State := { live with tick := 0 }
theorem witness_correction : period.corrHost 0 = false ∧ period.tick % period.corrPeriod 0 = 0
    ∧ answers (exec (.corrPeriodCopy 0 none) period) (fun t => t.corrPend.length == 1) = true
    ∧ ({ live with corrPend := [(0, [9], 100)] } : State).adcBoundary 0 = true
    ∧ answers (exec (.corrApply 0) { live with corrPend := [(0, [9], 100)] })
        (fun t => t.reg ⟨.corrActive, 0, 0, 0⟩ == 9 && t.corrPend == []) = true := by
  and_intros
  all_goals decide +kernel
theorem witness_no_correction : (sampling.modThread q0 id).tick % sampling.corrPeriod 0 ≠ 0
    ∧ (period.wr modeRdo_CORR_HOST 1).corrHost 0 = true
    ∧ answers (exec (.corrPeriodCopy 0 none) (period.wr modeRdo_CORR_HOST 1)) (fun t => t.corrPend == []) = true
    ∧ answers (exec (.corrPeriodCopy 0 (some (List.replicate 16 3))) period)
        (fun t => t.reg ⟨.corrEst, 0, 15, 0⟩ == 3 && (t.corrPend.map (fun p => p.2.1.length)) == [16]) = true
    ∧ ({ live with windows := [win], corrPend := [(0, [9], 100)] } : State).adcBoundary 0 = false
    ∧ answers (exec (.corrApply 0) { live with windows := [win], corrPend := [(0, [9], 100)] })
        (fun t => t.reg ⟨.corrActive, 0, 0, 0⟩ == 0 && t.corrPend.length == 1) = true := by
  and_intros
  all_goals decide +kernel
theorem witness_window : ({ live with windows := [win] } : State).held 0 0 = [win]
    ∧ answers (exec (.windowOpen 0 0) { live with windows := [win] }) (fun t => t.windows == [{ win with opened := true }]) = true
    ∧ answers (exec (.windowEnd 0 0 []) { live with windows := [{ win with opened := true }] })
        (fun t => t.windows.map Window.ended == [true]) = true
    ∧ ({ live with tick := 99 } : State).tick < win.w / 16 := by
  and_intros
  all_goals decide +kernel
theorem witness_demod_bank : ({ live with demodPend := [((0, 0), { cfg := 1 })] } : State).demodBoundary 0 0 = true
    ∧ answers (exec (.demodBankApply 0 0) { live with demodPend := [((0, 0), { cfg := 1 })] })
        (fun t => (t.bankOf 0 0).cfg == 1 && t.demodPend == []) = true
    ∧ ({ live with windows := [win] } : State).demodBoundary 0 0 = false := by
  and_intros
  all_goals decide +kernel
/-- A training run of two labels with its one window each. -/
def trained : TrainRun :=
  { at_ := 0, ch := 0, labels := 2, target := 1, tlen := 1, shift := 0, counts := [1, 1, 0], sums := [[⟨1, 0⟩], [⟨5, 0⟩], []] }
theorem witness_training_done : trained.full = true
    ∧ answers (exec (.trainingDone 0) { live with trains := [(0, trained)] })
        (fun t => t.on (trainCtrl_DONE 0) && t.seamRaised == [368] && t.trains == []) = true := by
  and_intros
  all_goals decide +kernel
theorem witness_trace_trigger : answers (exec (.traceTrigger 0) { live with traces := [(0, { start := some 1601 })] })
    (fun t => Tab.find t.traces 0 == some { start := some 1601, first := some 1600 }) = true := by
  all_goals decide +kernel
theorem witness_trace_done : Inv { live with tick := 20000, traces := [(0, { start := some 0, first := some 0 })] }
    ∧ 0 + 2 * 131072 ≤ 16 * 20000 + live.rd (traceCtrl_PRE 0) * 2048 := by
  and_intros
  all_goals first | decide +kernel | (unfold Inv; decide +kernel)
theorem witness_adc_cfg : Lands live ⟨.adcCfg, 0, 0, 0⟩ (wr0 1)
    ∧ answers (exec (.adcCfgWrite 0 (wr0 1)) live) (fun t => t.on (adcCfg_EN 0)) = true
    ∧ answers (exec (.adcCfgWrite 0 (wr0 0xFFFFFFFF)) (live.put (adcCfg_EN 0) true)) (fun t => t.on (adcCfg_CFG_REFUSED 0)) = true := by
  and_intros
  all_goals decide +kernel
theorem witness_adc_cfg_refused : sampling.on (adcCfg_EN 0) = true
    ∧ bitsOf (sampling.merged ⟨.adcCfg, 0, 0, 0⟩ (wr0 3)) 1 1 ≠ sampling.rd (adcCfg_BAND 0)
    ∧ answers (exec (.adcCfgWrite 0 (wr0 3)) sampling)
        (fun t => t.on (adcCfg_CFG_REFUSED 0) && t.rd (adcCfg_OVR_LEVEL 0) == 128 && t.rd (adcCfg_BAND 0) == 0) = true
    ∧ bitsOf (sampling.merged ⟨.adcCfg, 0, 0, 0⟩ (wr0 1)) 1 1 = sampling.rd (adcCfg_BAND 0)
    ∧ answers (exec (.adcCfgWrite 0 (wr0 1)) sampling) (fun t => t.rd (adcCfg_OVR_LEVEL 0) == 0) = true := by
  and_intros
  all_goals decide +kernel
/-- The bit a strobe field takes. -/
def bit (f : RField) : WriteOp := wr0 (1 <<< f.lo)
theorem witness_corr_commit : Strikes live (adcCorr_COMMIT 0) (bit (adcCorr_COMMIT 0))
    ∧ strobe (bit (adcCorr_COMMIT 0)).bits (adcCorr_FORCE 0) = false ∧ live.corrHost 0 = false
    ∧ (live.wr modeRdo_CORR_HOST 1).corrHost 0 = true
    ∧ answers (exec (.corrCommit 0 (bit (adcCorr_COMMIT 0))) live) (fun t => t.on (adcCfg_CFG_REFUSED 0)) = true
    ∧ answers (exec (.corrForce 0 (bit (adcCorr_FORCE 0))) { live with corrPend := [(0, [9], 100)] })
        (fun t => t.reg ⟨.corrActive, 0, 0, 0⟩ == 9 && t.corrPend == []) = true := by
  and_intros
  all_goals decide +kernel
theorem witness_readout_strobes : Strikes live (acqCtrl_COMMIT 0 0) (bit (acqCtrl_COMMIT 0 0))
    ∧ answers (exec (.demodCommit 0 0 (bit (acqCtrl_COMMIT 0 0))) live) (fun t => t.demodPend.length == 1) = true
    ∧ answers (exec (.traceGo 0 (bit (traceCtrl_GO 0))) live) (fun t => t.on (traceCtrl_BUSY 0) && t.traces.length == 1) = true
    ∧ answers (exec (.trainingAbort 0 (bit (trainCtrl_ABORT 0))) { live with trains := [(0, trained)] })
        (fun t => t.trains == []) = true
    ∧ answers (exec (.trainingStart 0 (wr0 ((1 <<< (trainCtrl_START 0).lo) ||| (8 <<< (trainCtrl_TLEN 0).lo)))) live)
        (fun t => t.on (trainCtrl_BUSY 0) && t.trains.length == 1) = true
    ∧ answers (exec (.trainingStart 0 (bit (trainCtrl_START 0))) (live.put (trainCtrl_BUSY 0) true))
        (fun t => t.on (trainCtrl_ERR 0)) = true := by
  and_intros
  all_goals decide +kernel
theorem witness_directory : Lands live ⟨.dirWord1, 5, 0, 0⟩ (wr0 4) ∧ Lands live ⟨.dirWord0, 5, 0, 0⟩ (wr0 2)
    ∧ answers (exec (.directoryWord1Write 5 (wr0 4)) live) (fun t => t.dirStage == [(5, 4)]) = true
    ∧ answers (exec (.directoryCommit 5 (wr0 0)) { live with dirStage := [(5, 4)] }) (fun t => t.reg ⟨.dirWord1, 5, 0, 0⟩ == 4) = true
    ∧ Lands live ⟨.synCfg, 0, 0, 0⟩ (wr0 1)
    ∧ answers (exec (.synChCfgWrite 0 0 (wr0 1)) live) (fun t => t.reg ⟨.synCfg, 0, 0, 0⟩ &&& 1 == 1) = true := by
  and_intros
  all_goals decide +kernel
theorem witness_rejected_entry : entryRejected (live.merged ⟨.dirWord0, 5, 0, 0⟩ (wr0 0x7FFFF00000010)) 9 = true
    ∧ answers (exec (.directoryCommit 5 (wr0 0x7FFFF00000010)) { live with dirStage := [(5, 9)] })
        (fun t => t.rd (dirWord0_TYPE 5) == 0 && t.rd dirStatus_REJ == 1 && t.rd dirStatus_LAST_REJ == 5) = true
    ∧ (live.put (synCfg_ENABLE 0 0) true).on (synCfg_ENABLE 0 0) = true
    ∧ answers (exec (.synChCfgWrite 0 0 (wr0 3)) (live.put (synCfg_ENABLE 0 0) true))
        (fun t => t.on (synCfg_CFG_REFUSED 0 0) && t.rd (synCfg_ZONE 0 0) == 0) = true := by
  and_intros
  all_goals decide +kernel
theorem witness_bobbin_cfg : Lands live ⟨.bobCfg, 0, 0, 0⟩ (wr0 0x1000001)
    ∧ answers (exec (.bobbinCfgWrite 0 0 (wr0 0x1000001)) live) (fun t => t.rd (bobStatus_STATE 0 0) == 1) = true
    ∧ answers (exec (.bobbinCfgWrite 0 0 (wr0 1)) live) (fun t => t.on (bobStatus_CFG_REFUSED 0 0)) = true
    ∧ answers (exec (.bobbinReset 0 0 (wr0 0x1000003)) (bobbin.wr (bobWp_VALUE 0 0) 5)) (fun t => t.rd (bobWp_VALUE 0 0) == 0) = true
    ∧ answers (exec (.bobbinLoopWrite 0 0 1 (wr0 9)) live) (fun t => (t.bob 0 0).loopPending) = true := by
  and_intros
  all_goals decide +kernel
/-- The pre-decoder enabled, patch 0 enabled with one input from ancilla 0, which has closed round 1. -/
def decoding : State :=
  let s := ((live.put pdcCfg_EN true).put (patchCfg_EN 0) true).put (pdcAnc_EN 0) true
  { s with ancs := (List.range 192).map (fun a => (a, { rounds := 1, hist := [⟨1, false, true, false⟩] })) }
theorem witness_patch : decoding.patchReady 0 = some 1
    ∧ answers (exec (.patchAssembly 0) decoding) (fun t => t.assemblies.length == 1 && t.rd (patchRound_ROUND 0) == 1) = true := by
  and_intros
  all_goals decide +kernel
/-- An assembly due at tick 100. -/
def assembled : Assembly := { patch := 0, n := 1, v := 0, mask := 0, esc := false, reason := 0, tick := 88, ft := 88, mode := 0, shot := none }
theorem witness_patch_result : answers (exec (.patchResult 0) { decoding with assemblies := [assembled] })
    (fun t => t.assemblies == [] && t.ledger == 0) = true := by
  all_goals decide +kernel
theorem witness_patch_undone : answers (exec (.patchResult 0)
      { decoding with assemblies := [{ assembled with mask := 0xFF, undone := true }] })
    (fun t => t.assemblies == [] && t.ledger == 0) = true
    ∧ (∀ i, decoding.poisoned 0x06 0 i = false) := by
  and_intros
  · decide +kernel
  · intro i; rfl
theorem witness_defect_forward : answers (exec (.defectForwardRx ⟨2, 3, 0, 0x1000000, 0x5A⟩)
      (((live.put (rxMap_EN 0) true).wr (rxMap_DEV 0) 2).wr (rxMap_PATCH 0) 3 |>.wr (rxMap_SLOT 0) 7))
    (fun t => bitsOf (t.slot 7).word 0 8 == 0x5A && bitsOf (t.slot 7).word 9 3 == 1 && (t.slot 7).wrote == some 100) = true := by
  all_goals decide +kernel
theorem witness_dec_clear : Lands slotted ⟨.decClear, 0, 0, 0⟩ (wr0 0x80007)
    ∧ answers (exec (.decClear (wr0 0x80007)) slotted) (fun t => (t.slot 7).wrote == none) = true
    ∧ Strikes live pdcCfg_EN (wr0 1) ∧ live.pdcRefuses = false
    ∧ answers (exec (.pdcEnable (wr0 1)) live) (fun t => t.on pdcCfg_EN) = true := by
  and_intros
  all_goals decide +kernel
theorem witness_pdc_refused : ((live.put (patchCfg_EN 0) true).pdcRefuses) = true
    ∧ answers (exec (.pdcEnable (wr0 1)) (live.put (patchCfg_EN 0) true)) (fun t => t.on pdcStatus_ERR && !t.on pdcCfg_EN) = true := by
  and_intros
  all_goals decide +kernel
/-- A committed record of tile 0. -/
def record : HoldRec := { tile := 0, thr := q0, shot := none, committed := true, words := [1, 2, 3, 4] }
/-- Tile 0's result queue with one record in it. -/
def queued : State := live.setRq 0 { wp := 4, words := (recordWords [1, 2, 3, 4] false) }
theorem witness_result_queue : answers (exec (.holdingAreaMove 0) { live with holding := [record] })
      (fun t => t.holding == [] && (t.rq 0).entering.map RqWord.w == [1, 2, 3, 4]) = true
    ∧ answers (exec (.rqPop 0 ⟨0, true⟩) queued) (fun t => (t.rq 0).lastPop == 1 && (t.rq 0).rp == 1) = true
    ∧ answers (exec (.rqPop 0 ⟨0, true⟩) live) (fun t => t.on (rqStatus_UNDERRUN 0)) = true
    ∧ Strikes queued (rqCtrl_RESET 0) (bit (rqCtrl_RESET 0)) ∧ (queued.rq 0).posAt ≠ queued.tick
    ∧ answers (exec (.rqReset 0 (bit (rqCtrl_RESET 0))) queued) (fun t => (t.rq 0).words == []) = true
    ∧ Lands live ⟨.rqCfg, 0, 0, 0⟩ (wr0 1)
    ∧ answers (exec (.rqDeliverWrite 0 (wr0 1)) live) (fun t => t.on (rqCfg_DELIVER 0)) = true := by
  and_intros
  all_goals decide +kernel
/-- A requester of another domain. -/
def stranger : Requester := ⟨1, true⟩
theorem witness_queue_pops : live.reaches 0 ⟨.rqData, 0, 0, 0⟩ (live.reg ⟨.rqData, 0, 0, 0⟩) = true
    ∧ live.on (rqCfg_DELIVER 0) = false
    ∧ live.reaches 1 ⟨.rqData, 0, 0, 0⟩ (live.reg ⟨.rqData, 0, 0, 0⟩) = false
    ∧ answers (exec (.rqPop 0 stranger) queued) (fun t => (t.rq 0).words.length == 4) = true
    ∧ answers (exec (.rqPop 0 ⟨0, true⟩) (queued.put (rqCfg_DELIVER 0) true)) (fun t => (t.rq 0).words.length == 4) = true
    ∧ answers (exec (.rqPop 0 ⟨0, true⟩) (live.setRq 0 { wp := 4, words := recordWords [1, 2, 3, 4] true }))
        (fun t => t.on (rqStatus_POISON 0)) = true
    ∧ (live.rq 0).room = true := by
  and_intros
  all_goals decide +kernel
theorem witness_queue_resets :
    answers (exec (.rqReset 0 (bit (rqCtrl_RESET 0)))
        (live.setRq 0 { wp := 1, words := (recordWords [1, 2, 3, 4] false).take 1,
                        entering := (recordWords [1, 2, 3, 4] false).drop 1, pos := 1, posAt := 100 }))
      (fun t => (t.rq 0).words.length == 1 && (t.rq 0).entering.length == 3) = true
    ∧ answers (exec (.rqReset 0 (bit (rqCtrl_RESET 0)))
        (live.setRq 0 { wp := 2, words := (recordWords [1, 2, 3, 4] false).take 2,
                        entering := (recordWords [1, 2, 3, 4] false).drop 2, pos := 2, posAt := 100 }))
      (fun t => (t.rq 0).words.length == 0 && (t.rq 0).entering == [] && t.rd (rqCounts_TRUNC 0) == 1) = true := by
  and_intros
  all_goals decide +kernel
/-- The same with delivery to result ring 0, whose pair is in RTS. -/
def delivering : State :=
  ((((queued.put (rqCfg_DELIVER 0) true).put (resCfg_EN 0) true).wr (resCfg_LOG2SIZE 0) 8).wr (qpCtrl_STATE 0) 3)
theorem witness_result_batch : delivering.kenperRuns = true ∧ delivering.canWrite 0 = true ∧ delivering.batchDue 0 0 = true
    ∧ 0 < min ((delivering.rq 0).words.length / 4) (min 128 (min (delivering.resFree 0) (delivering.resRun 0)))
    ∧ delivering.on (resCfg_PRIO 0) = false
    ∧ answers (exec (.resultBatch 0) delivering) (fun t => (t.rq 0).words == [] && t.rd (resIdx_PI 0) == 1) = true := by
  and_intros
  all_goals decide +kernel
theorem witness_result_notice :
    let s := ((delivering.put (resCfg_PRIO 0) true).put (cplCfg_EN 0) true).wr (cplCfg_LOG2SIZE 0) 8
    s.noticeReady (s.rd (resCfg_CRING 0)) = true
    ∧ answers (exec (.resultBatch 0) s) (fun t => t.rd (resIdx_PI 0) == 1 && t.cplWait.length == 1) = true := by
  and_intros
  all_goals decide +kernel
theorem witness_integrity : live.undef = none
    ∧ answers (exec (.faultDetected ⟨2, 2, 0, 9, .nowhere⟩) live) (fun t => t.poisoned 2 0 9 && t.seamRaised.contains 501) = true
    ∧ answers (exec (.faultDetected ⟨0, 0xB, 0, 9, .nowhere⟩) live) (fun t => t.rd intCounts_CORRECTED == 1) = true := by
  and_intros
  all_goals decide +kernel
theorem witness_scrub : live.scrubs 2 0 0 = true ∧ live.scrubs 2 0 1 = false ∧ live.scrubs 7 0 0 = true
    ∧ ({ live with scrubPos := [((2, 0), (0, 101))] } : State).scrubs 2 0 0 = false
    ∧ live.poisonHeld 2 0 0 = false
    ∧ answers (exec (.scrubRead 2 0 0 .corrected) live) (fun t => t.rd intCounts_CORRECTED == 1) = true
    ∧ answers (exec (.scrubRead 2 0 0 .clean) live) (fun t => t.rd intCounts_CORRECTED == 0) = true
    ∧ answers (exec (.scrubRead 2 0 0 .uncorrectable) live) (fun t => t.poisoned 2 0 0 && t.rd intCounts_UNCORR == 1) = true
    ∧ answers (exec (.scrubRead 7 0 0 .uncorrectable) live) (fun t => (t.slot 0).bad && t.rd intCounts_UNCORR == 1) = true
    ∧ answers (exec (.scrubRead 2 0 1 .corrected) live) (fun t => t.rd intCounts_CORRECTED == 0) = true
    ∧ ({ live with poison := [(2, 0, 0)] } : State).poisonHeld 2 0 0 = true ∧ unmapped 2 0 = false
    ∧ answers (exec (.scrubRead 2 0 0 .clean) { live with poison := [(2, 0, 0)] })
        (fun t => t.rd intCounts2_POISON_RD == 1 && t.poison == [(2, 0, 0)]) = true := by
  and_intros
  all_goals decide +kernel

/-! Flux, bias, converters, monitors. -/

/-- A pending bank of flux channel 1 of tile 0. -/
def fluxPending : State := { live with fluxRuns := [((0, 1), { pend := some { chain := 5 } })] }
theorem witness_flux_bank : fluxPending.fluxBoundary 0 1 = true
    ∧ answers (exec (.fluxBankApply 0 1) fluxPending)
        (fun t => (t.fluxRun 0 1).bank.chain == 5 && (t.fluxRun 0 1).pend == none) = true
    ∧ ({ fluxPending with plays := [{ played (.flux 0 1) true with last := 1700 }] } : State).fluxBoundary 0 1 = false
    ∧ answers (exec (.fluxBankApply 0 1) { fluxPending with plays := [{ played (.flux 0 1) true with last := 1700 }] })
        (fun t => (t.fluxRun 0 1).pend.isSome) = true
    ∧ answers (exec (.fluxBankApply 0 2) fluxPending) (fun t => (t.fluxRun 0 2).pend == none) = true := by
  and_intros
  all_goals decide +kernel
/-- A fitting run of channel 1 whose rotations are made, with a reference at a distance from the baseline. -/
def fitted (r : Int) : FitRun :=
  { ch := 1, dch := 0, npts := 4, target := 1, nsec := 0, fir := false, rounds := 1, sums := [⟨0, 0⟩, ⟨r, 0⟩] }
theorem witness_fit : answers (exec (.flxFitDone 0) { live with fits := [(0, fitted 1023)] })
      (fun t => t.on (fitCtrl_ERR 0) && t.fits == []) = true
    ∧ (fitted 1024).target ≤ (fitted 1024).rounds
    ∧ ¬ ((1024 : Int) - 0) ^ 2 + (0 - 0) ^ 2 < ((1024 * 1 : Nat) : Int) ^ 2 := by
  and_intros
  all_goals decide +kernel
theorem witness_fit_waits : answers (exec (.flxFitDone 0) live) (fun t => !t.on (fitCtrl_DONE 0)) = true
    ∧ ({ fitted 2000 with rounds := 0, pos := 0 }).whole.rounds < (fitted 2000).target
    ∧ answers (exec (.flxFitDone 0) { live with fits := [(0, { fitted 2000 with rounds := 0 })] })
        (fun t => t.fits.length == 1) = true
    ∧ (fitted 2000).target ≤ (fitted 2000).whole.rounds := by
  and_intros
  all_goals decide +kernel
/-- The WriteOp that sets a field to a value. -/
def setField (f : RField) (v : Nat) : WriteOp := wr0 (BitVec.ofNat 64 (v <<< f.lo))
theorem witness_flux_writes : Lands live ⟨.fluxLvl, 0, 1, 0⟩ (wr0 9)
    ∧ answers (exec (.fluxLvlWrite 0 1 (wr0 9)) live) (fun t => t.rd (fluxLvl_LVL 0 1) == 9) = true
    ∧ answers (exec (.fluxEnableWrite 0 1 (bit (fluxCtrl_ENABLE 0 1))) live) (fun t => t.on (fluxCtrl_ENABLE 0 1)) = true
    ∧ Strikes live (fluxCtrl_COMMIT 0 1) (bit (fluxCtrl_COMMIT 0 1))
    ∧ answers (exec (.fluxCommit 0 1 (bit (fluxCtrl_COMMIT 0 1))) live) (fun t => t.on (fluxCtrl_PEND 0 1)) = true
    ∧ Strikes live (fitCtrl_ABORT 0) (bit (fitCtrl_ABORT 0)) ∧ Strikes live (fitCtrl_START 0) (bit (fitCtrl_START 0))
    ∧ answers (exec (.flxFitAbort 0 (bit (fitCtrl_ABORT 0))) { live with fits := [(0, fitted 9)] }) (fun t => t.fits == []) = true
    ∧ answers (exec (.flxFitStart 0 (bit (fitCtrl_START 0))) live) (fun t => t.on (fitCtrl_ERR 0)) = true
    ∧ answers (exec (.flxFitStart 0 (wr0 (BitVec.ofNat 64 ((1 <<< (fitCtrl_START 0).lo) ||| (4 <<< (fitCtrl_NPTS 0).lo))))) live)
        (fun t => t.on (fitCtrl_BUSY 0)) = true := by
  and_intros
  all_goals decide +kernel
/-- Both bias dies ready, their outputs connected, and output 5 of die 0 written with CODE = 100. -/
def biased : State :=
  let s := (((live.wr dieStatus_BREADY 3).put (bdieStatus_READY 0) true).wr (biasCode_CODE 0 5) 100).wr (biasCfg_SLEW 0 5) 1000
  { s.put (biasStatus_PARKED 0 5) false with biasOuts := [((0, 5), { written := true, tgt := (100, 0, 1000) })] }
theorem witness_bias_update : biased.biasHeld 0 = false ∧ (biased.biasOut 0 5).ranging = .none
    ∧ biased.biasTarget 0 5 = (biased.biasOut 0 5).tgt
    ∧ (biased.biasOut 0 5).tgt.2.1 = biased.rd (biasStatus_CUR_RANGE 0 5)
    ∧ slewToward 0 100 1 = 1 ∧ slewToward 100 99 5 = 99 := by
  and_intros
  all_goals decide +kernel
theorem witness_bias_range_change :
    (biased.setBiasOut 0 5 { biased.biasOut 0 5 with tgt := (100, 2, 1000), ranging := .toZero }).biasOut 0 5
      = { written := true, tgt := (100, 2, 1000), ranging := .toZero }
    ∧ slewToward 3 0 5 = 0 ∧ slewToward 30 0 5 ≠ 0
    ∧ (biased.put (bdieStatus_DORMANT_HOLD 0) true).biasHeld 0 = true
    ∧ answers (exec (.biasUpdate 0 []) (biased.put (bdieStatus_READY 0) false)) (fun t => t.biasOuts == biased.biasOuts) = true := by
  and_intros
  all_goals decide +kernel
/-- Die 0 of a device with its bias rails, not ready. -/
def railed : State := { live with boot := { live.boot with biasGood := [0] } }
theorem witness_bias_pins : answers (exec (.biasClrN true 50) biased)
      (fun t => t.on (bdieStatus_CLR_ACTIVE 0) && !(t.biasOut 0 5).written) = true
    ∧ answers (exec (.biasClrN true 49) biased) (fun t => !t.on (bdieStatus_CLR_ACTIVE 0) && (t.biasOut 0 5).written) = true
    ∧ answers (exec (.biasClrN false 50) (biased.put (bdieStatus_CLR_ACTIVE 0) true))
        (fun t => !t.on (bdieStatus_CLR_ACTIVE 0) && (t.biasOut 0 5).written) = true
    ∧ 0 ∈ railed.boot.biasGood ∧ 0 ∉ railed.boot.tables ∧ railed.hasTable 0 = false
    ∧ (railed.put (bdieStatus_PARK_DEFAULT 0) true).hasTable 0 = true
    ∧ railed.on (bdieStatus_READY 0) = false ∧ (List.replicate 192 (0 : Word)).length = 192
    ∧ answers (exec (.biasDieReady 0) railed) (fun t => !t.on (bdieStatus_READY 0)) = true
    ∧ answers (exec (.parkTableTimeout 0) { railed with boot := { railed.boot with tables := [0] } })
        (fun t => !t.on (bdieStatus_PARK_DEFAULT 0)) = true := by
  and_intros
  all_goals decide +kernel
/-- The readback of an output of die 0 taken. -/
def readBack (f : State → State) : State := (f biased).setMon 0 { readback := some (5, 7) }
theorem witness_drift : (readBack id).tracked 0 5 = true ∧ (readBack id).on (bdieStatus_CLR_ACTIVE 0) = false
    ∧ ((readBack id).mon 0).readback = some (5, 7)
    ∧ answers (exec (.biasDriftTrack 0 6) (readBack id)) (fun t => (t.mon 0).readback == some (5, 7)) = true
    ∧ (readBack (fun s => s.put (bdieStatus_CLR_ACTIVE 0) true)).on (bdieStatus_CLR_ACTIVE 0) = true
    ∧ (readBack (fun s => s.wr (biasCode_TRIM 0 5) (unsignedOf 13 (-4096)))).rdS (biasCode_TRIM 0 5) = -4096
    ∧ (readBack (fun s => s.wr (biasCode_TRIM 0 5) 4095)).rdS (biasCode_TRIM 0 5) = 4095
    ∧ answers (exec (.biasDriftTrack 0 5) (readBack (fun s => s.put (bdieStatus_CLR_ACTIVE 0) true)))
        (fun t => (t.mon 0).readback == none && t.rdS (biasCode_TRIM 0 5) == 0) = true := by
  and_intros
  all_goals decide +kernel
/-- A write of the low half. -/
def low0 (v : Word) : WriteOp := ⟨⟨0, true⟩, .low, v⟩
theorem witness_bias_writes : Lands biased ⟨.biasCode, 0, 5, 0⟩ (low0 9)
    ∧ answers (exec (.biasOutputWrite 0 5 true (low0 9)) biased) (fun t => t.rd (biasCode_CODE 0 5) == 9) = true
    ∧ answers (exec (.biasOutputWrite 0 5 true (low0 9)) (biased.put (biasCfg_SYNC 0 5) true))
        (fun t => t.rd (biasCode_CODE 0 5) == 100 && (t.biasOut 0 5).stCode == some 9) = true
    ∧ answers (exec (.biasOutputWrite 0 5 true (low0 9)) (biased.put (bdieStatus_CLR_ACTIVE 0) true))
        (fun t => t.rd (bdieStatus_REFUSED 0) == 1) = true
    ∧ Strikes biased (bdieApply_APPLY 0) (bit (bdieApply_APPLY 0)) := by
  and_intros
  all_goals decide +kernel
theorem witness_bias_cfg_and_apply : Lands biased ⟨.biasCfg, 0, 5, 0⟩ (low0 2)
    ∧ answers (exec (.biasOutputWrite 0 5 false (low0 2)) biased)
        (fun t => t.rd (biasCfg_RANGE 0 5) == 2 && t.rd (biasCfg_SLEW 0 5) == 1000) = true
    ∧ answers (exec (.biasOutputWrite 0 5 false (low0 10)) biased)
        (fun t => t.rd (biasCfg_RANGE 0 5) == 0 && (t.biasOut 0 5).stRange == some 2 && t.on (biasStatus_STAGED 0 5)) = true
    ∧ answers (exec (.biasOutputWrite 0 5 false (low0 2)) (biased.put (bdieStatus_CLR_ACTIVE 0) true))
        (fun t => t.rd (biasCfg_RANGE 0 5) == 0 && t.rd (bdieStatus_REFUSED 0) == 1) = true
    ∧ answers (exec (.biasApply 0 (bit (bdieApply_APPLY 0)))
          (biased.setBiasOut 0 5 { biased.biasOut 0 5 with stCode := some 9, stRange := some 1 }))
        (fun t => t.rd (biasCode_CODE 0 5) == 9 && t.rd (biasCfg_RANGE 0 5) == 1 && (t.biasOut 0 5).stCode == none) = true
    ∧ answers (exec (.biasApply 0 (bit (bdieApply_APPLY 0)))
          ((biased.put (bdieStatus_CLR_ACTIVE 0) true).setBiasOut 0 5 { biased.biasOut 0 5 with stCode := some 9 }))
        (fun t => t.rd (biasCode_CODE 0 5) == 100 && (t.biasOut 0 5).stCode == none) = true
    ∧ answers (exec (.biasOutputWrite 0 5 true ⟨⟨0, true⟩, .high, 3⟩) biased)
        (fun t => t.rd (biasCode_TRIM 0 5) == 3 && t.rd (biasCode_CODE 0 5) == 100) = true := by
  and_intros
  all_goals decide +kernel
theorem witness_bias_link : (Reg.ofAddr (Reg.addr ⟨.bdieCtrl, 0, 0, 0⟩)) = some ⟨.bdieCtrl, 0, 0, 0⟩
    ∧ Reg.onBiasDie ⟨.bdieCtrl, 0, 0, 0⟩ = true ∧ Reg.die ⟨.bdieCtrl, 0, 0, 0⟩ = 0
    ∧ answers (exec (.biasLinkCommand 0 (Reg.addr ⟨.bdieCtrl, 0, 0, 0⟩) (wr0 0) 9) biased)
        (fun t => t.seamRaised == [502]) = true
    ∧ answers (exec (.biasLinkCommand 0 (Reg.addr ⟨.bdieCtrl, 0, 0, 0⟩) (wr0 0) 8) biased) (fun t => t.seamRaised == []) = true := by
  and_intros
  all_goals decide +kernel
theorem witness_bias_link_lost : (biased.wr dieStatus_BREADY 2).bitAt dieStatus_BREADY 0 = false
    ∧ answers (exec (.biasLinkCommand 0 (Reg.addr ⟨.bdieCtrl, 0, 0, 0⟩) (wr0 0) 0) (biased.wr dieStatus_BREADY 2))
        (fun t => t.seamRaised == [502] && t.bitAt dieStatus_BLINK_ERR 0) = true
    ∧ biased.reaches 0 ⟨.bdieCtrl, 0, 0, 0⟩ (biased.merged ⟨.bdieCtrl, 0, 0, 0⟩ (wr0 0)) = true ∧ biased.undef = none := by
  and_intros
  all_goals decide +kernel
/-- Input 16 enabled; unit 8 in a phase. -/
def timing (p : TdcPhase) (h : Option Int) : State :=
  ((live.put (tdcIn_EN 16) true).wr (tdcCfg_WINDOW 8) 1).setTdcUnit 8 { phase := p, held := h }
theorem witness_tdc_edges : answers (exec (.tdcEdge 16 7) (timing .off none))
      (fun t => t.tdcEdges.map (fun e => (e.due, e.src, e.time)) == [(104, 16, 102407)]) = true
    ∧ answers (exec (.tdcEdge 16 7) { timing .off none with tdcLast := [(16, 102407 - 8191)] }) (fun t => t.tdcEdges == []) = true
    ∧ answers (exec (.tdcEdge 16 7) { timing .off none with tdcLast := [(16, 102407 - 8192)] }) (fun t => t.tdcEdges.length == 1) = true
    ∧ answers (exec (.tdcEdge 16 7) ((timing .off none).put timeStatus_PLL_LOCK false)) (fun t => t.tdcEdges == []) = true
    ∧ answers (exec (.tdcEdge 17 7) (timing .off none)) (fun t => t.tdcEdges == []) = true
    ∧ answers (exec (.tdcEdge 3 33) ((timing .off none).put (tdcIn_EN 3) true))
        (fun t => t.tdcEdges.map TdcEdge.time == [102432]) = true
    ∧ (102407 : Int) - (102407 - 8192) = 8192 := by
  and_intros
  all_goals decide +kernel
theorem witness_tdc_units : 0 + (timing (.opened 0) none).tdcWindow 8 < (timing (.opened 0) none).tdcNow
    ∧ answers (exec (.tdcWindowExpiry 8) (timing (.opened 0) none)) (fun t => t.rd (tdcCounts_NOSTOP 8) == 1) = true
    ∧ (timing .armed (some 0)).tdcStale 8 = true
    ∧ answers (exec (.tdcHeldStopExpiry 8) (timing .armed (some 0))) (fun t => (t.tdcUnit 8).held == none) = true
    ∧ (timing (.recovering 0) none).tdcRecovered 8 = true
    ∧ answers (exec (.tdcRecoveryEnd 8) (timing (.recovering 0) none)) (fun t => (t.tdcUnit 8).phase == .armed) = true
    ∧ ({ timing .armed none with tick := 1000000 } : State).tdcRecals 8 = true
    ∧ answers (exec (.tdcRecalibrate 8) { timing .armed none with tick := 1000000 }) (fun t => (t.tdcUnit 8).calAt == 1000000) = true := by
  and_intros
  all_goals decide +kernel
theorem witness_tdc_units_wait : (timing .armed none).tdcExpired 8 = false ∧ (timing .armed none).tdcStale 8 = false
    ∧ (timing .armed none).tdcRecovered 8 = false ∧ (timing .armed none).tdcRecals 8 = false
    ∧ answers (exec (.tdcWindowExpiry 8) (timing .armed none)) (fun t => (t.tdcUnit 8).phase == .armed) = true
    ∧ answers (exec (.tdcHeldStopExpiry 8) (timing .armed (some 99000000))) (fun t => (t.tdcUnit 8).held.isSome) = true
    ∧ answers (exec (.tdcRecoveryEnd 8) (timing (.recovering 99000000) none)) (fun t => (t.tdcUnit 8).phase == .recovering 99000000) = true
    ∧ answers (exec (.tdcRecalibrate 8) (timing .armed none)) (fun t => (t.tdcUnit 8).calAt == 0) = true := by
  and_intros
  all_goals decide +kernel
/-- Unit 8 claimed by domain 0, with one word in its queue. -/
def claimed : State := (live.wr (claimTdc_HOLDER 8) 1).setTdcUnit 8 { queue := { words := [{ w := 9 }] } }
theorem witness_tdc_pop : claimed.holdsTdc 8 0 = true ∧ live.holdsTdc 8 1 = false
    ∧ answers (exec (.tdcQueuePop 8 ⟨0, true⟩) claimed)
        (fun t => (t.tdcUnit 8).queue.lastPop == 9 && !t.on (tdcQStatus_POISON 8)) = true
    ∧ answers (exec (.tdcQueuePop 8 ⟨0, true⟩) (claimed.setTdcUnit 8 { queue := { words := [{ w := 9, parityOk := false }] } }))
        (fun t => t.on (tdcQStatus_POISON 8)) = true
    ∧ answers (exec (.tdcQueuePop 8 ⟨0, true⟩) (claimed.setTdcUnit 8 {})) (fun t => t.on (tdcQStatus_UNDERRUN 8)) = true
    ∧ answers (exec (.tdcQueuePop 8 ⟨1, true⟩) live) (fun t => t.rd seamStatus_DENIED == 1) = true := by
  and_intros
  all_goals decide +kernel
/-- A CFG of unit 8: EN, unsigned, input 16 to input 17. -/
def unitCfg : WriteOp := wr0 0x111003
theorem witness_tdc_writes : Lands (live.wr (claimTdc_HOLDER 8) 1) ⟨.tdcCfg, 8, 0, 0⟩ unitCfg
    ∧ tdcRefuses 8 unitCfg.bits = false
    ∧ answers (exec (.tdcUnitCfgWrite 8 unitCfg) (live.wr (claimTdc_HOLDER 8) 1)) (fun t => (t.tdcUnit 8).phase == .armed) = true
    ∧ answers (exec (.tdcUnitCfgWrite 8 (wr0 7)) (live.wr (claimTdc_HOLDER 8) 1)) (fun t => t.on (tdcCfg_CFG_REFUSED 8)) = true
    ∧ answers (exec (.tdcQueueFlush 8 (bit (tdcQStatus_FLUSH 8))) claimed) (fun t => (t.tdcUnit 8).queue.words == []) = true
    ∧ Strikes (claimed.setReg ⟨.tdcCfg, 8, 0, 0⟩ 3) (statCtrl_GO 0) (bit (statCtrl_GO 0))
    ∧ answers (exec (.statGo 8 (bit (statCtrl_GO 0))) (claimed.setReg ⟨.tdcCfg, 8, 0, 0⟩ 3)) (fun t => t.on (statCtrl_BUSY 0)) = true
    ∧ answers (exec (.statGo 8 (bit (statCtrl_GO 0))) claimed) (fun t => t.on (statCtrl_REFUSED 0)) = true := by
  and_intros
  all_goals decide +kernel
/-- The calibration output enabled at its origin, tick 100. -/
def calibrating : State := (live.put tdcCal_EN true).setReg ⟨.calOrigin, 0, 0, 0⟩ 100
theorem witness_cal : calibrating.calPhase = some 0
    ∧ answers (exec .ptCalEdge calibrating) (fun t => t.out == [.ptCal true 100 0] && t.calHigh
        && t.tdcEdges.map TdcEdge.src == [20]) = true
    ∧ ({ calibrating with ft := 100 + BitVec.ofNat 64 calibrating.calWidth } : State).calPhase = some calibrating.calWidth
    ∧ answers (exec .ptCalEdge { calibrating with ft := 100 + BitVec.ofNat 64 calibrating.calWidth, calHigh := true })
        (fun t => t.out == [.ptCal false 100 0] && !t.calHigh) = true
    ∧ ({ calibrating with ft := 101 } : State).calPhase ≠ some 0
    ∧ answers (exec .ptCalEdge { calibrating with ft := 101 }) (fun t => t.out == []) = true := by
  and_intros
  all_goals decide +kernel
/-- Monitor 0 enabled on its timer, due at tick 1,000. -/
def monitoring : State :=
  { ((biased.put (monCtrl_EN 0) true).wr (monCtrl_TRIG 0) 1).wr (monCtrl_PERIOD 0) 1 with tick := 1000 }
theorem witness_monitor : monitoring.monTimerDue 0 = true
    ∧ answers (exec (.monTimerStart 0) monitoring) (fun t => (t.mon 0).step == some 0 && t.on (monCtrl_BUSY 0)) = true
    ∧ answers (exec (.monTimerStart 0) (monitoring.put (monCtrl_BUSY 0) true)) (fun t => t.rd (monStatus_MISSED 0) == 1) = true
    ∧ answers (exec (.monSeamStart 0) (monitoring.wr (monCtrl_TRIG 0) 2)) (fun t => t.on (monCtrl_BUSY 0)) = true
    ∧ Strikes biased (monCtrl_START 0) (wr0 ((1 <<< (monCtrl_START 0).lo) ||| (1 <<< (monCtrl_EN 0).lo)))
    ∧ answers (exec (.monStart 0 (wr0 ((1 <<< (monCtrl_START 0).lo) ||| (1 <<< (monCtrl_EN 0).lo)))) biased)
        (fun t => t.on (monCtrl_BUSY 0)) = true
    ∧ Strikes biased (monUrgent_GO 0) (bit (monUrgent_GO 0))
    ∧ answers (exec (.monUrgentGo 0 (bit (monUrgent_GO 0))) biased) (fun t => (t.mon 0).urgent) = true := by
  and_intros
  all_goals decide +kernel
/-- Monitor 0 in a conversion. -/
def converting (x : MonRun) : State := { monitoring.put (monCtrl_BUSY 0) true with mons := [(0, x)] }
theorem witness_conversions :
    answers (exec (.monConversionDone 0 (-(10 ^ 12))) ((converting { step := some 0, conv := some .step }).wr (monStep0_AVG 0 0) 1))
        (fun t => (t.mon 0).sum == -32767 && (t.mon 0).made == 1 && (t.mon 0).step == some 0) = true
    ∧ answers (exec (.monConversionDone 0 0) (converting { step := some 0, conv := some .step }))
        (fun t => t.on (monCtrl_DONE 0) && (t.mon 0).step == none && t.seamRaised == [505]) = true
    ∧ answers (exec (.monConversionDone 0 0) ((converting { step := some 0, conv := some .step }).wr (monCtrl_LAST 0) 1))
        (fun t => (t.mon 0).step == some 1 && !t.on (monCtrl_DONE 0)) = true
    ∧ answers (exec (.monConversionDone 0 0) (converting { urgent := true, conv := some .urgent, uInput := 3 }))
        (fun t => t.on (monUrgent_URG_DONE 0) && !(t.mon 0).urgent) = true
    ∧ answers (exec (.monConversionDone 0 0) (converting { urgent := true, conv := some .urgent, uInput := 3, uAvg := 1 }))
        (fun t => (t.mon 0).urgent && (t.mon 0).uMade == 1) = true
    ∧ answers (exec (.monConversionDone 0 0) (converting { conv := some (.track 5) }))
        (fun t => (t.mon 0).readback == some (5, 0)) = true
    ∧ answers (exec (.monConversionDone 0 0) (converting {})) (fun t => t.mons == [(0, {})]) = true
    ∧ answers (exec (.monUrgentGo 0 (bit (monUrgent_GO 0))) (converting { urgent := true }))
        (fun t => t.on (monUrgent_URG_REFUSED 0)) = true
    ∧ monitoring.rd (monCtrl_TRIG 0) ≠ 2 ∧ biased.monTimerDue 0 = false
    ∧ answers (exec (.monSeamStart 0) monitoring) (fun t => !t.on (monCtrl_BUSY 0)) = true
    ∧ answers (exec (.monStart 0 (bit (monCtrl_START 0))) (converting { step := some 0 }))
        (fun t => (t.mon 0).step == none && !t.on (monCtrl_BUSY 0)) = true := by
  and_intros
  all_goals decide +kernel

/-! Power, time, heat, boot. -/

/-- A write that asks for a power state. -/
def ask (v : Word) : WriteOp := wr0 v
/-- A device in Standby. -/
def standby : State := live.wr pwr_CUR 1
theorem witness_power_request : Lands live ⟨.pwr, 0, 0, 0⟩ (ask 2) ∧ (ask 2).half ≠ .high
    ∧ bitsOf (live.merged ⟨.pwr, 0, 0, 0⟩ (ask 2)) 0 2 = 2
    ∧ answers (exec (.powerRequest (ask 2)) live) (fun t => t.on pwr_BUSY && t.pwrRun.target == some 1) = true
    ∧ answers (exec (.powerRequest (ask 0)) live) (fun t => !t.on pwr_BUSY) = true
    ∧ answers (exec (.powerRequest (ask 2)) (live.put pwr_BUSY true)) (fun t => t.pwrRun.held == some 2) = true
    ∧ answers (exec (.powerRequest (ask 0)) (standby.put pwr_CRIT_HOLD true)) (fun t => !t.on pwr_BUSY) = true
    ∧ (live.put pwr_BUSY true).pwrRun.cause ≠ 2 := by
  and_intros
  all_goals decide +kernel
theorem witness_power_request_cases :
    answers (exec (.powerRequest ⟨⟨0, true⟩, .high, 2⟩) live) (fun t => !t.on pwr_BUSY && t.rd pwr_REQ == live.rd pwr_REQ) = true
    ∧ answers (exec (.powerRequest (ask 3)) live) (fun t => !t.on pwr_BUSY) = true
    ∧ answers (exec (.powerRequest (ask 1)) (live.wr globalBoot_STAGE 3)) (fun t => t.pwrRun.held == some 1 && !t.on pwr_BUSY) = true
    ∧ answers (exec (.powerRequest (ask 2)) { (live.wr pwr_CUR 2).put pwr_BUSY true with pwrRun.cause := 2, pwrRun.since := 100 })
        (fun t => !t.on pwr_BUSY && !t.wakeDue) = true
    ∧ answers (exec (.powerRequest (ask 0)) { (live.wr pwr_CUR 2).put pwr_BUSY true with pwrRun.cause := 2, pwrRun.since := 100 })
        (fun t => t.on pwr_BUSY && t.pwrRun.target == some 1 && t.pwrRun.goal == some 0) = true
    ∧ answers (exec (.powerRequest (ask 2)) standby) (fun t => t.pwrRun.target == some 2) = true := by
  and_intros
  all_goals decide +kernel
/-- A transition to a power state under way in Standby. -/
def goingTo (g : Nat) : State := { standby.put pwr_BUSY true with pwrRun.target := some g }
theorem witness_power_transition : (live.put pwr_BUSY true).leavePending = true ∧ (live.put pwr_BUSY true).anyInScope = false
    ∧ answers (exec .leaveActive (live.put pwr_BUSY true)) (fun t => t.rd pwr_CUR == 1) = true
    ∧ (goingTo 0).active = false
    ∧ answers (exec .powerTransitionComplete (goingTo 0)) (fun t => t.rd pwr_CUR == 0) = true
    ∧ answers (exec .powerTransitionComplete (goingTo 1)) (fun t => t.rd pwr_CUR == 1) = true
    ∧ answers (exec .wakeEvent { live.wr pwr_CUR 2 with wakeDue := true }) (fun t => t.on pwr_BUSY && t.pwrRun.target == some 1) = true
    ∧ ({ live.wr pwr_CUR 2 with wakeDue := true } : State).dormant = true := by
  and_intros
  all_goals decide +kernel
theorem witness_power_transition_cases : live.leavePending = false ∧ inShot0.anyInScope = true
    ∧ answers (exec .leaveActive live) (fun t => t.rd pwr_CUR == 0) = true
    ∧ answers (exec .leaveActive (live.put pwr_BUSY true)) (fun t => t.on (bdieStatus_PARK_ORDER 0) == false) = true
    ∧ answers (exec .powerTransitionComplete (goingTo 2)) (fun t => t.rd pwr_CUR == 2 && !t.on timeStatus_PLL_LOCK) = true
    ∧ answers (exec .powerTransitionComplete ((goingTo 1).put timeStatus_PLL_LOCK false)) (fun t => t.on pwr_BUSY) = true
    ∧ answers (exec .powerTransitionComplete live) (fun t => t.rd pwr_CUR == 0 && !t.on pwr_BUSY) = true
    ∧ answers (exec .wakeEvent { live.wr pwr_CUR 2 with wakeDue := true, pwrRun.wrote := some 100 })
        (fun t => !t.on pwr_BUSY && !t.wakeDue) = true := by
  and_intros
  all_goals decide +kernel
theorem witness_pll : (((live.put timeStatus_PLL_LOCK false).put refCfg_SRC true).pllInput) = true
    ∧ answers (exec .pllLock ((live.put timeStatus_PLL_LOCK false).put refCfg_SRC true)) (fun t => t.on timeStatus_PLL_LOCK) = true
    ∧ answers (exec .refLost (live.put timeStatus_REF_OK true)) (fun t => t.on timeStatus_HOLDOVER && !t.on timeStatus_REF_OK) = true
    ∧ Lands standby ⟨.refCfg, 0, 0, 0⟩ (wr0 1) ∧ Strikes standby refCfg_RELOCK (bit refCfg_RELOCK)
    ∧ answers (exec (.refCfgWrite (wr0 1)) standby) (fun t => t.on refCfg_SRC && !t.on timeStatus_PLL_LOCK) = true
    ∧ answers (exec (.refCfgWrite (wr0 1)) live) (fun t => t.on timeStatus_CFG_REFUSED && !t.on refCfg_SRC) = true
    ∧ answers (exec (.relock (bit refCfg_RELOCK)) standby) (fun t => !t.on timeStatus_PLL_LOCK) = true := by
  and_intros
  all_goals decide +kernel
theorem witness_pll_cases : live.on timeStatus_PLL_LOCK = true ∧ (live.put timeStatus_PLL_LOCK false).pllInput = false
    ∧ answers (exec .pllLock live) (fun t => t.on timeStatus_PLL_LOCK) = true
    ∧ answers (exec .refLost live) (fun t => !t.on timeStatus_HOLDOVER) = true
    ∧ answers (exec .refLost ((live.put timeStatus_REF_OK true).put refCfg_SRC true)) (fun t => !t.on timeStatus_HOLDOVER) = true
    ∧ answers (exec .refOkRestore (live.put timeStatus_HOLDOVER true)) (fun t => t.on timeStatus_REF_OK && t.on timeStatus_HOLDOVER) = true
    ∧ answers (exec (.refCfgWrite (wr0 0)) standby) (fun t => t.on timeStatus_PLL_LOCK) = true
    ∧ answers (exec (.relock (bit refCfg_RELOCK)) live) (fun t => t.on timeStatus_CFG_REFUSED && t.on timeStatus_PLL_LOCK) = true
    ∧ answers (exec .xtalAgeingUpdate { (live.wr xtalTrim_AGE_RATE 1) with xtal.frac := 43199 })
        (fun t => t.rd xtalAccum_ACCUM == 1 && t.xtal.frac == -43200) = true := by
  and_intros
  all_goals decide +kernel
/-- A clean edge with its interval from the rise in ps. -/
def rise (margin : Nat) : SyncEdge := ⟨false, false, true, true, margin, 0⟩
/-- Forest time locked to the crystal, a load armed. -/
def armed : State := (live.put refCfg_SRC true).put syncCtrl_ARM true
theorem witness_sync : armed.on refCfg_SRC = true ∧ armed.on syncCtrl_MODE = false
    ∧ answers (exec (.syncEdge (rise 0)) armed) (fun t => t.syncLoad == some ⟨100 + armed.loadDelay, armed.loadDelay⟩) = true
    ∧ answers (exec (.syncEdge (rise 0)) { armed with syncLoad := some ⟨105, 16⟩ }) (fun t => t.syncLoad == some ⟨105, 16⟩) = true
    ∧ answers (exec (.syncEdge (rise 0)) live) (fun t => t.rd syncStat_IGNORED == 1) = true
    ∧ answers (exec (.syncEdge (rise 0)) (armed.put syncCtrl_MODE true)) (fun t => t.on syncStat_STAMP_NEW) = true
    ∧ (live.put syncCtrl_ARM true).marginGood 0 = false
    ∧ answers (exec (.syncEdge (rise 0)) (live.put syncCtrl_ARM true)) (fun t => t.rd syncStat_MARGIN_REJ == 1) = true
    ∧ answers (exec (.syncEdge ⟨false, false, true, false, 0, 0⟩) live) (fun t => t.rd syncStat_GLITCH_REJ == 1) = true
    ∧ answers (exec (.syncEdge ⟨false, true, true, true, 0, 0⟩) armed) (fun t => t.syncLoad == none) = true
    ∧ Strikes live syncCtrl_ARM (bit syncCtrl_ARM) ∧ live.anyRunning = false ∧ running.anyRunning = true
    ∧ answers (exec (.syncArmWrite (bit syncCtrl_ARM)) live) (fun t => t.on syncCtrl_ARM) = true
    ∧ answers (exec (.syncArmWrite (bit syncCtrl_ARM)) running) (fun t => t.rd syncStat_ARM_REFUSED == 1) = true
    ∧ answers (exec (.syncArmWrite (bit syncCtrl_ARM)) (running.put syncCtrl_ARM true)) (fun t => t.on syncCtrl_ARM) = true := by
  and_intros
  all_goals decide +kernel
theorem witness_forest_time_load :
    answers (exec .forestTimeLoad { armed.setReg ⟨.syncLoad, 0, 0, 0⟩ 5000 with syncLoad := some ⟨100, 20⟩ })
        (fun t => t.ft == 5000 && t.on timeStatus_FT_VALID && t.reg ⟨.syncStamp, 0, 0, 0⟩ == 4980 && !t.on syncCtrl_ARM) = true
    ∧ answers (exec .forestTimeLoad { armed with syncLoad := some ⟨101, 20⟩ }) (fun t => t.ft == 100 && t.syncLoad.isSome) = true
    ∧ answers (exec .forestTimeLoad { live with syncLoad := some ⟨100, 20⟩ }) (fun t => t.ft == 100 && t.syncLoad == none) = true
    ∧ answers (exec .forestTimeLoad live) (fun t => t.ft == 100) = true := by
  and_intros
  all_goals decide +kernel
theorem witness_latch : Strikes live latchCtrl_GO (bit latchCtrl_GO)
    ∧ answers (exec (.latchGo (bit latchCtrl_GO)) live) (fun t => t.reg ⟨.latchFt, 0, 0, 0⟩ == 100 && t.on latchCtrl_DONE) = true
    ∧ Strikes live skewCal_START (bit skewCal_START)
    ∧ answers (exec (.skewCalStart (bit skewCal_START)) (live.put timeStatus_FT_VALID false)) (fun t => t.on skewCal_ERR) = true
    ∧ answers (exec (.skewCalDone ⟨true, 0, 1, 0, 0⟩) (live.put skewCal_BUSY true)) (fun t => t.on skewCal_ERR) = true := by
  and_intros
  all_goals decide +kernel
theorem witness_latch_once : answers (exec (.latchGo (bit latchCtrl_GO)) { live with latchTick := some 100 })
      (fun t => t.reg ⟨.latchFt, 0, 0, 0⟩ == 0) = true
    ∧ (∀ j, live.ftJump = some j → j.at_ ≤ live.tick)
    ∧ answers (exec (.skewCalStart (bit skewCal_START)) (live.put skewCal_ROOT true)) (fun t => t.on skewCal_BUSY || t.on skewCal_ERR) = true
    ∧ answers (exec (.skewCalDone ⟨true, 0, 0, 1, 0⟩) live) (fun t => !t.on skewCal_ERR) = true := by
  and_intros
  all_goals decide +kernel
/-- A running skew calibration whose parent lane is up, under AUTO_APPLY. -/
def skewing : State :=
  { ((live.put skewCal_BUSY true).put skewCal_AUTO_APPLY true).wr (laneStatus_STATE 0) laneActiveSt with
    skewRun := { from_ := 50, received := 1024, down := 1024 * 10, sent := 1024, sends := 0 } }
theorem witness_skew : skewing.skewOk = true ∧ skewing.skewFull = true
    ∧ (skewing.lane (skewing.rd skewCal_PARENT_LANE)).since ≤ skewing.skewRun.from_
    ∧ answers (exec (.skewCalDone ⟨false, 1024 * 20, 2, 1, 2⟩) skewing) (fun t => t.rd skew_CORR == 3 && t.rd skewCal_DELTA == 3
        && t.rd skewCal_HOPS == 3 && t.on skewCal_DONE && !t.on skewCal_ERR) = true
    ∧ answers (exec (.skewCalDone ⟨false, 1024 * 20, 2, 1, 2⟩) (skewing.put skewCal_AUTO_APPLY false))
        (fun t => t.rd skew_CORR == 0 && t.rd skewCal_DELTA == 3) = true
    ∧ answers (exec (.skewCalDone ⟨false, 0, 0, 1, 0⟩) (skewing.put skewCal_ROOT true)) (fun t => t.rd skewCal_DELTA == 0 && t.rd skewCal_HOPS == 0) = true
    ∧ ({ skewing with skewRun := { from_ := 50 } } : State).skewFull = false
    ∧ answers (exec (.skewCalDone ⟨false, 0, 0, 1, 0⟩) { skewing with skewRun := { from_ := 50 } }) (fun t => t.on skewCal_BUSY) = true
    ∧ answers (exec (.skewCalDone ⟨true, 0, 0, 1, 0⟩) skewing) (fun t => t.on skewCal_ERR && t.rd skew_CORR == 0) = true := by
  and_intros
  all_goals decide +kernel
/-- The PTP clock running as time receiver, fifteen good intervals behind it. -/
def ptpRunning : State := { (live.put ptpCfg_ENABLE true).put (port_EN 0) true with ptpGood := 15 }
/-- The same as time transmitter. -/
def ptpMaster : State := ptpRunning.wr ptpCfg_ROLE 2
/-- A message to it. -/
def ptpMsg (b : PtpBody) : PtpMessage := { port := 0, transport := 0, domain := 0, peer := none, phase := 0, body := b }
/-- A Sync held that came `late` ns late, and a request answered at once. -/
def exchanging (late : Nat) : State :=
  { ptpRunning with
    ptpRun := { sync := some { seq := 1, sent := some { ns := 100 }, come := { ns := 100 + BitVec.ofNat 64 late }, corr := 0, twoStep := false, peer := none },
                delay := some { seq := 5, left := { ns := 200 } } } }
theorem witness_ptp_clock : Lands live ⟨.ptpIncr, 0, 0, 0⟩ (wr0 0) ∧ Lands live ⟨.ptpStep, 0, 0, 0⟩ (wr0 5)
    ∧ answers (exec (.ptpIncrWrite (wr0 0)) live) (fun t => t.rd ptpIncr_INCR == 4290672329 && t.rd ptpIncr_CLAMP_COUNT == 1) = true
    ∧ answers (exec (.ptpStep (wr0 5)) live) (fun t => t.ptpStepNext == some 5) = true
    ∧ State.reset.rd ptpIncr_INCR = 0x100000000 ∧ ({ live with ptpStepNext := some 5 } : State).clocks.ptpNs = 106 := by
  and_intros
  all_goals decide +kernel
theorem witness_ptp_sends : ptpRunning.ptpRuns = true ∧ ptpRunning.transmits = false ∧ live.ptpRuns = false
    ∧ ptpMaster.transmits = true ∧ ptpMaster.syncDue = true ∧ ptpRunning.syncDue = false
    ∧ answers (exec .ptpSyncTx ptpMaster) (fun t => t.out.length == 3 && t.ptpRun.syncSeq == 1 && t.ptpRun.syncAt == some 100) = true
    ∧ answers (exec .ptpSyncTx ptpRunning) (fun t => t.out == []) = true
    ∧ answers (exec .ptpDelayReqTx ptpRunning) (fun t => t.out.length == 1 && t.ptpRun.reqSeq == 1 && t.ptpRun.delay.isSome) = true
    ∧ answers (exec .ptpDelayReqTx ptpMaster) (fun t => t.out == []) = true
    ∧ answers (exec .ptpDelayReqTx (ptpMaster.put ptpCfg_DELAY_MECH true)) (fun t => t.out.length == 1) = true := by
  and_intros
  all_goals decide +kernel
theorem witness_ptp_answers : ptpMaster.ptpTakes (ptpMsg (.delayReq 7 0)) = true
    ∧ ptpMaster.ptpTakes { ptpMsg (.delayReq 7 0) with domain := 1 } = false
    ∧ answers (exec (.ptpMessageRx (ptpMsg (.delayReq 7 0))) ptpMaster)
        (fun t => t.out == [.ptp (ptpMaster.ptpForm 0x9 none 7 (ptpMaster.ptpComes 0))]) = true
    ∧ answers (exec (.ptpMessageRx { ptpMsg (.delayReq 7 0) with domain := 1 }) ptpMaster) (fun t => t.out == []) = true
    ∧ answers (exec (.ptpMessageRx (ptpMsg (.pdelayReq 7 0))) (ptpRunning.put ptpCfg_DELAY_MECH true)) (fun t => t.out.length == 2) = true
    ∧ answers (exec (.ptpMessageRx (ptpMsg .management)) ptpMaster) (fun t => t.out == []) = true
    ∧ ptpRunning.betterClock 0 0 0 false = true
    ∧ answers (exec (.ptpMessageRx (ptpMsg (.announce 0 0 0 false))) ptpRunning) (fun t => t.ptpRun.heard == some 100) = true
    ∧ answers (exec (.ptpMessageRx (ptpMsg (.sync 3 false { ns := 9 } 0))) ptpRunning)
        (fun t => t.ptpRun.sync.map PtpSync.sent == some (some { ns := 9 })) = true := by
  and_intros
  all_goals decide +kernel
theorem witness_ptp_exchange : (exchanging 0).asked 5 = true ∧ (exchanging 0).transmits = false
    ∧ ((exchanging 0).setDelay (fun d => { d with receipt := some { ns := 200 }, corr := 0 })).exchange.map PtpExchange.offset = some 0
    ∧ (((exchanging 5000000).setDelay (fun d => { d with receipt := some { ns := 200 }, corr := 0 })).exchange.map
        (fun x => decide (1000000 * 65536 < ratAbs x.offset))) = some true
    ∧ answers (exec (.ptpMessageRx (ptpMsg (.delayResp 5 { ns := 200 } 0))) (exchanging 0)) (fun t => t.on timeStatus_PTP_LOCK) = true
    ∧ answers (exec (.ptpMessageRx (ptpMsg (.delayResp 5 { ns := 200 } 0))) (exchanging 5000000)) (fun t => t.ptpStepNext.isSome) = true := by
  and_intros
  all_goals decide +kernel
theorem witness_low_read : Reg.ofAddr (Reg.addr ⟨.timeNow, 0, 0, 0⟩) = some ⟨.timeNow, 0, 0, 0⟩ ∧ RegName.timeNow.shadowed = true
    ∧ answers (exec (.counterLowRead ⟨0, true⟩ (Reg.addr ⟨.timeNow, 0, 0, 0⟩)) { live with ft := 0x500000001 })
        (fun t => t.shadow ⟨.timeNow, 0, 0, 0⟩ == 5) = true := by
  and_intros
  all_goals decide +kernel
theorem witness_low_read_of_ptp : RegName.ptpNs.shadowed = true ∧ RegName.pwr.shadowed = false
    ∧ live.reaches 0 ⟨.ptpNs, 0, 0, 0⟩ (live.reg ⟨.ptpNs, 0, 0, 0⟩) = true
    ∧ answers (exec (.counterLowRead ⟨0, true⟩ (Reg.addr ⟨.ptpNs, 0, 0, 0⟩)) { live with ptpFrac := 77 }) (fun t => t.rd ptpFrac_FRAC == 77) = true
    ∧ answers (exec (.counterLowRead ⟨0, true⟩ (Reg.addr ⟨.pwr, 0, 0, 0⟩)) live) (fun t => t.shadows == []) = true := by
  and_intros
  all_goals decide +kernel
/-- The canopy model valid. -/
def modelled : State := live.put canopyStatus_MODEL_VALID true
theorem witness_canopy : Lands live ⟨.hostPolicy, 0, 0, 0⟩ (wr0 0) ∧ live.modelRuns = true
    ∧ answers (exec (.hostPolicyWrite 0 (wr0 0x7FFF)) live) (fun t => t.rdS (hostPolicy_ENTRY 0) == t.rdS (devPolicy_ENTRY 0)) = true
    ∧ answers (exec (.diodeRead (List.replicate 16 1280)) live) (fun t => t.on canopyStatus_MODEL_VALID) = true
    ∧ modelled.heat.host = false ∧ modelled.on pwr_CRIT_HOLD = false
    ∧ (List.replicate 96 (1600 : BitVec 16)).length = 96
    ∧ (1600 : BitVec 16).toInt = 1600 ∧ (7168 : BitVec 16).toInt = 112 * 64
    ∧ (standby.put canopyStatus_MODEL_VALID true).active = false := by
  and_intros
  all_goals decide +kernel
theorem witness_canopy_cases : (live.wr globalBoot_STAGE 2).modelRuns = false ∧ live.on canopyStatus_MODEL_VALID = false
    ∧ modelled.on canopyStatus_MODEL_VALID = true ∧ modelled.modelRuns = true
    ∧ answers (exec (.diodeRead (List.replicate 16 1280)) (live.wr globalBoot_STAGE 2)) (fun t => !t.on canopyStatus_MODEL_VALID) = true
    ∧ answers (exec (.diodeRead (List.replicate 16 1280)) modelled) (fun t => t.rd (node_TEMP 0) == modelled.rd (node_TEMP 0)) = true
    ∧ answers (exec (.modelUpdate []) live) (fun t => t.rd (node_TEMP 0) == live.rd (node_TEMP 0)) = true := by
  and_intros
  all_goals decide +kernel
/-- No supply yet. -/
def unsupplied : State := { live with boot := { live.boot with supply := false, held := false } }
theorem witness_supplies : unsupplied.boot.supply = false
    ∧ answers (exec (.supplyGood {}) unsupplied) (fun t => t.boot.anchor == some 100 && t.boot.supply) = true
    ∧ answers (exec (.supplyGood { core := 710 }) unsupplied) (fun t => t.boot.anchor == live.boot.anchor && !t.boot.supply) = true
    ∧ answers (exec (.supplyGood {}) { unsupplied with boot := { held := true } }) (fun t => t.boot.anchor == none && t.boot.supply) = true
    ∧ answers (exec (.biasSupplyGood 1 {}) live) (fun t => t.boot.biasGood.contains 1) = true
    ∧ answers (exec (.biasSupplyGood 1 { biasN := -5700 }) live) (fun t => !t.boot.biasGood.contains 1) = true := by
  and_intros
  all_goals decide +kernel
theorem witness_rails : Rail.fallen .core 649 = true ∧ Rail.fallen .core 750 = false ∧ Rail.fallen .biasN (-1) = true
    ∧ answers (exec (.railFall .core 0) running) (fun t => t.threads == [] && t.rd globalBoot_STAGE == 0 && t.boot.cause == 2) = true
    ∧ answers (exec (.railFall .core 750) running) (fun t => t.threads == running.threads) = true
    ∧ answers (exec (.railFall .v33 2999) biased) (fun t => t.threads == [] && t.biasOuts == []) = true
    ∧ answers (exec (.railFall .biasN 0) biased) (fun t => t.biasOuts == [] && t.threads == biased.threads) = true := by
  and_intros
  all_goals decide +kernel
theorem witness_resets : answers (exec (.rstN true 50) running) (fun t => t.boot.held && t.ft == 100 && t.boot.cause == 1) = true
    ∧ answers (exec (.rstN true 49) running) (fun t => !t.boot.held) = true
    ∧ answers (exec (.rstN false 50) running) (fun t => t.threads == running.threads) = true
    ∧ answers (exec (.rstN false 50) { live with boot := { held := true, supply := true } }) (fun t => t.boot.anchor == some 100) = true
    ∧ answers (exec (.rstN true 50) { live with boot := { held := true } }) (fun t => t.boot.held && t.rd globalBoot_STAGE == 4) = true
    ∧ Strikes live globalBoot_REBOOT (bit globalBoot_REBOOT)
    ∧ answers (exec (.reboot (bit globalBoot_REBOOT)) live) (fun t => t.boot.anchor == some 100 && t.boot.cause == 3) = true
    ∧ Strikes live globalBoot_REBOOT ⟨⟨0, false⟩, .whole, (bit globalBoot_REBOOT).bits⟩
    ∧ answers (exec (.reboot ⟨⟨0, false⟩, .whole, (bit globalBoot_REBOOT).bits⟩) live) (fun t => t.rd globalBoot_STAGE == 4) = true
    ∧ live.dormant = false ∧ live.on pwr_CRIT_HOLD = false ∧ live.modelRuns = true
    ∧ answers (exec (.quadrantReady 2) (live.wr dieStatus_QREADY 0)) (fun t => t.rd dieStatus_QREADY == 4) = true
    ∧ answers (exec (.quadrantReady 2) ((live.wr dieStatus_QREADY 0).put pwr_CRIT_HOLD true)) (fun t => t.rd dieStatus_QREADY == 0) = true := by
  and_intros
  all_goals decide +kernel
/-- A block whose boot clock has started. -/
def booting : State := { State.reset with boot := { anchor := some 0, supply := true } }
theorem witness_boot : answers (exec .boot booting) (fun t => t.rd globalBoot_STAGE == 2 && t.boot.started) = true
    ∧ (booting.wr globalBoot_STAGE 2).verify none ≠ 1
    ∧ answers (exec (.firmwareVerified none) (booting.wr globalBoot_STAGE 2)) (fun t => t.rd globalBoot_STAGE == 2) = true
    ∧ answers (exec .bootComplete (modelled.wr globalBoot_STAGE 3)) (fun t => t.rd globalBoot_STAGE == 4 && t.rd pwr_CUR == 1) = true := by
  and_intros
  all_goals decide +kernel
theorem witness_boot_waits : answers (exec .boot State.reset) (fun t => !t.boot.started) = true
    ∧ answers (exec (.firmwareVerified none) (((booting.wr globalBoot_STAGE 2).wr globalBoot_ERR_B 2).wr globalBootCfg_PREF_SLOT 0))
        (fun t => t.rd globalBoot_STAGE == 5) = true
    ∧ answers (exec (.firmwareVerified none) live) (fun t => t.rd globalBoot_STAGE == 4) = true
    ∧ answers (exec .bootComplete (live.wr globalBoot_STAGE 3)) (fun t => t.rd globalBoot_STAGE == 3) = true := by
  and_intros
  all_goals decide +kernel
/-- Heartwood in its temperature window with one request for TYPE 0x12. -/
def saving : State := { modelled with hwQueue := [{ typ := 0x12, at_ := 50 }] }
/-- The same with that write in progress. -/
def writing : State := { modelled with hwWrite := some { typ := 0x12, bankB := false, copy := { seq := 1 }, at_ := 50 } }
theorem witness_heartwood : saving.hwWindow = true ∧ (saving.hwQueue.map (fun q => q.stale saving.tick)) = [false]
    ∧ answers (exec .heartwoodWriteStart saving) (fun t => t.hwQueue == [] && t.hwWrite.isSome) = true
    ∧ answers (exec (.heartwoodWriteDone true) writing) (fun t => t.hwWrite == none && t.rd hwStatus_LAST_RESULT == 1) = true
    ∧ answers (exec .heartwoodWriteReject { saving with tick := 10000000050 })
        (fun t => t.hwQueue == [] && t.rd hwStatus_LAST_RESULT == 2) = true
    ∧ ({ live with xtal.commit := true } : State).accumDue = true
    ∧ answers (exec .xtalAccumCommit { live with xtal.commit := true }) (fun t => t.hwQueue.map HwRequest.typ == [0x12]) = true
    ∧ Strikes live hwCtrl_SAVE (bit hwCtrl_SAVE) ∧ 0x10 ∈ savedTypes ∧ 0 ∉ savedTypes := by
  and_intros
  all_goals decide +kernel
theorem witness_heartwood_waits : live.hwWindow = false
    ∧ answers (exec .heartwoodWriteStart modelled) (fun t => t.hwWrite == none) = true
    ∧ answers (exec (.heartwoodWriteDone false) writing) (fun t => t.hwWrite == none && t.rd hwStatus_LAST_RESULT == 5 && t.hw == []) = true
    ∧ answers (exec (.heartwoodWriteDone true) live) (fun t => t.hw == []) = true
    ∧ answers (exec .heartwoodWriteReject saving) (fun t => t.hwQueue.length == 1) = true
    ∧ answers (exec .xtalAccumCommit live) (fun t => t.hwQueue == []) = true := by
  and_intros
  all_goals decide +kernel
theorem witness_save : answers (exec (.save (wr0 (0x1000 ||| (bit hwCtrl_SAVE).bits))) live) (fun t => t.hwQueue.map HwRequest.typ == [0x10]) = true
    ∧ answers (exec (.save ⟨⟨0, false⟩, .whole, 0x1000 ||| (bit hwCtrl_SAVE).bits⟩) live) (fun t => t.hwQueue == []) = true
    ∧ answers (exec (.save (wr0 (0x1000 ||| (bit hwCtrl_SAVE).bits))) { live with hwQueue := [{ typ := 0x10, at_ := 1 }] })
        (fun t => t.hwQueue.length == 1) = true
    ∧ answers (exec (.save (wr0 (0x1000 ||| (bit hwCtrl_SAVE).bits))) { live with hwQueue := List.replicate 8 { typ := 0x11, at_ := 1 } })
        (fun t => t.rd hwStatus_LAST_RESULT == 4) = true
    ∧ answers (exec (.save (bit hwCtrl_SAVE)) live) (fun t => t.rd hwStatus_LAST_RESULT == 3) = true := by
  and_intros
  all_goals decide +kernel
theorem witness_flash : answers (exec (.flashOpDone true) (live.put flashCtrl_BUSY true)) (fun t => t.on flashCtrl_ERR && !t.on flashCtrl_BUSY) = true
    ∧ Strikes live flashCtrl_PROGRAM (bit flashCtrl_PROGRAM) ∧ Strikes live flashCtrl_ERASE (bit flashCtrl_ERASE)
    ∧ strobe (bit flashCtrl_ERASE).bits flashCtrl_PROGRAM = false ∧ live.on flashCtrl_BUSY = false
    ∧ answers (exec (.flashProgram (bit flashCtrl_PROGRAM)) live) (fun t => t.on flashCtrl_BUSY) = true
    ∧ answers (exec (.flashErase (bit flashCtrl_ERASE)) (live.wr flashAddr_ADDR 4096)) (fun t => t.on flashCtrl_ERR) = true := by
  and_intros
  all_goals decide +kernel
theorem witness_flash_refusals : answers (exec (.flashOpDone true) live) (fun t => !t.on flashCtrl_ERR) = true
    ∧ answers (exec (.flashProgram ⟨⟨0, false⟩, .whole, (bit flashCtrl_PROGRAM).bits⟩) live) (fun t => !t.on flashCtrl_BUSY) = true
    ∧ answers (exec (.flashProgram (bit flashCtrl_PROGRAM)) (live.put flashCtrl_BUSY true)) (fun t => t.out == []) = true
    ∧ answers (exec (.flashProgram (bit flashCtrl_PROGRAM)) (live.wr flashAddr_ADDR 8)) (fun t => t.on flashCtrl_ERR) = true
    ∧ answers (exec (.flashErase (bit flashCtrl_ERASE)) (live.put flashCtrl_BUSY true)) (fun t => t.out == []) = true
    ∧ answers (exec (.flashErase (bit flashCtrl_ERASE)) live) (fun t => t.out == [.flash true 0 []]) = true
    ∧ answers (exec (.flashErase (wr0 ((bit flashCtrl_ERASE).bits ||| (bit flashCtrl_PROGRAM).bits))) live)
        (fun t => t.out.map (fun o => match o with | .flash e _ _ => e | _ => true) == [false]) = true := by
  and_intros
  all_goals decide +kernel
theorem witness_register_write : Reg.ofAddr (Reg.addr ⟨.syncLoad, 0, 0, 0⟩) = some ⟨.syncLoad, 0, 0, 0⟩
    ∧ Reg.ofAddr 0xFFFFFFF8 = none ∧ live.reaches 0 ⟨.syncLoad, 0, 0, 0⟩ (live.merged ⟨.syncLoad, 0, 0, 0⟩ (wr0 9)) = true
    ∧ live.reaches 1 ⟨.syncLoad, 0, 0, 0⟩ 9 = false
    ∧ answers (exec (.registerWrite (Reg.addr ⟨.syncLoad, 0, 0, 0⟩) (wr0 9)) live) (fun t => t.reg ⟨.syncLoad, 0, 0, 0⟩ == 9) = true
    ∧ RegName.kenCounts.hasClr = true ∧ Lands live ⟨.kenCounts, 0, 0, 0⟩ (wr0 0x8000000000000000)
    ∧ answers (exec (.counterClear (Reg.addr ⟨.kenCounts, 0, 0, 0⟩) (wr0 0x8000000000000000))
        (live.wr kenCounts_DB_DENIED 5)) (fun t => t.rd kenCounts_DB_DENIED == 0) = true
    ∧ Strikes live globalLock_LOCK (bit globalLock_LOCK)
    ∧ answers (exec (.setupLock (bit globalLock_LOCK)) live) (fun t => t.locked) = true := by
  and_intros
  all_goals decide +kernel

/-! The fabric. -/

/-- Lane 3 in a state, with what it holds. -/
def lane3 (st : Nat) (x : LaneRun) : State := { live.wr (laneStatus_STATE 3) st with lanes := [(3, x)] }
/-- The state a lane shows. -/
def laneSt (t : State) : Nat := t.rd (laneStatus_STATE 3)
theorem witness_bring_up : answers (exec (.laneDetect 3 true) (lane3 laneDetect {})) (fun t => laneSt t == laneTrain) = true
    ∧ answers (exec (.laneDetect 3 false) (lane3 laneDetect {})) (fun t => laneSt t == laneQuiet) = true
    ∧ answers (exec (.laneTrained 3 2 5 (Vector.replicate 12 1)) (lane3 laneTrain {})) (fun t => laneSt t == laneLock && (t.lane 3).snap == Vector.replicate 12 1) = true
    ∧ answers (exec (.laneLocked 3 9) (lane3 laneLock {})) (fun t => laneSt t == laneAlign && (t.lane 3).rxScr == 9) = true
    ∧ (lane3 laneAlign { goodMarks := 2 }).groupSized 3 = true
    ∧ (lane3 laneAlign { goodMarks := 2 }).groupOf 3 = [3]
    ∧ answers (exec (.laneAligned 3 16000) (lane3 laneAlign { goodMarks := 2 })) (fun t => laneSt t == laneExchange) = true
    ∧ answers (exec (.laneAligned 3 16001) (lane3 laneAlign { goodMarks := 2 })) (fun t => (t.lane 3).skewBad) = true := by
  and_intros
  all_goals decide +kernel
theorem witness_bring_up_waits :
    answers (exec (.laneDetect 3 true) (lane3 laneTrain {})) (fun t => laneSt t == laneTrain) = true
    ∧ answers (exec (.laneTrained 3 2 5 (Vector.replicate 12 1)) (lane3 laneLock {})) (fun t => laneSt t == laneLock) = true
    ∧ answers (exec (.laneLocked 3 9) (lane3 laneAlign {})) (fun t => (t.lane 3).rxScr == ({} : LaneRun).rxScr) = true
    ∧ answers (exec (.laneAligned 3 0) (lane3 laneAlign { goodMarks := 1 })) (fun t => laneSt t == laneAlign) = true
    ∧ answers (exec (.laneExchanged 3 7 4 0) (lane3 laneLock {})) (fun t => laneSt t == laneLock) = true := by
  and_intros
  all_goals decide +kernel
/-- The command meets an undefined case. -/
def faults (o : Host.Outcome State Fault Refusal) : Bool :=
  match o with
  | .fault _ => true
  | _ => false
/-- CFG names device 7, lane 4, as the partner. -/
def named : Word := BitVec.ofNat 64 (2 ^ 8 + 7 * 2 ^ 16 + 4 * 2 ^ 27)
theorem witness_exchange : bitsOf named 8 1 = 1 ∧ bitsOf named 16 11 = 7 ∧ bitsOf named 27 5 = 4
    ∧ answers (exec (.laneExchanged 3 7 4 1001) (lane3 laneExchange { cfg := named }))
        (fun t => laneSt t == laneActiveSt && t.rd (laneStatus_LAT 3) == 36 + (flightOf 1001 + 999) / 1000) = true
    ∧ answers (exec (.laneExchanged 3 8 4 1001) (lane3 laneExchange { cfg := named })) (fun t => laneSt t == laneQuiet) = true
    ∧ faults (exec (.laneExchanged 3 0 4 0) (lane3 laneExchange {})) = true
    ∧ (lane3 laneExchange {}).rd eswId_DEV = 0 := by
  and_intros
  all_goals decide +kernel
/-- Lane 3 in Exchange as the leader of a group with lane 4, which is in a state and has a partner. -/
def bonded (st partner : Nat) : State :=
  { ((lane3 laneExchange {}).wr (laneStatus_STATE 4) st).wr (laneStatus_PARTNER_DEV 4) partner with
    lanes := [(3, { cfg := BitVec.ofNat 64 (3 * 2 + 3 * 8) }), (4, { cfg := BitVec.ofNat 64 (3 * 2 + 3 * 8) })] }
theorem witness_exchange_of_a_group : (bonded laneAlign 0).groupOf 3 = [3, 4]
    ∧ (bonded laneAlign 0).laneAligning 4 = true ∧ (bonded laneActiveSt 9).laneUp 4 = true
    ∧ answers (exec (.laneExchanged 3 7 4 0) (bonded laneAlign 0)) (fun t => laneSt t == laneExchange && (t.lane 3).measured) = true
    ∧ faults (exec (.laneExchanged 3 7 4 0) (bonded laneActiveSt 9)) = true
    ∧ (bonded laneActiveSt 9).rd (laneStatus_PARTNER_DEV 4) = 9 := by
  and_intros
  all_goals decide +kernel
theorem witness_lane_timeouts : (lane3 laneLock { lockFails := 1 }).laneOverdue 3 = false
    ∧ ({ lane3 laneLock { lockFails := 1 } with tick := 2000000000 } : State).laneOverdue 3 = true
    ∧ answers (exec (.laneStateTimeout 3) { lane3 laneLock { lockFails := 1 } with tick := 2000000000 })
        (fun t => laneSt t == laneTrain) = true
    ∧ answers (exec (.laneStateTimeout 3) { lane3 laneLock { lockFails := 2 } with tick := 2000000000 })
        (fun t => laneSt t == laneQuiet) = true
    ∧ answers (exec (.laneLossOfSignal 3) (lane3 laneActiveSt {})) (fun t => laneSt t == laneDetect) = true
    ∧ ({ lane3 laneQuiet { backoff := 4 } with tick := 4000000 } : State).quietOver 3 = true
    ∧ answers (exec (.quietBackoffEnd 3) { lane3 laneQuiet { backoff := 4 } with tick := 4000000 })
        (fun t => laneSt t == laneDetect && (t.lane 3).backoff == 8) = true := by
  and_intros
  all_goals decide +kernel
/-- Long after lane 3 entered a state. -/
def overdue (st : Nat) (x : LaneRun) : State := { lane3 st x with tick := 2000000000000 }
theorem witness_lane_overdue : (overdue laneTrain {}).laneOverdue 3 = true ∧ (overdue laneAlign {}).laneOverdue 3 = true
    ∧ (overdue laneExchange {}).laneOverdue 3 = true ∧ (lane3 laneQuiet { backoff := 4 }).quietOver 3 = false
    ∧ answers (exec (.laneStateTimeout 3) (overdue laneTrain {})) (fun t => t.rd (laneStatus_QUIET_REASON 3) == 2) = true
    ∧ answers (exec (.laneStateTimeout 3) (overdue laneAlign {})) (fun t => t.rd (laneStatus_QUIET_REASON 3) == 4) = true
    ∧ answers (exec (.laneStateTimeout 3) (overdue laneAlign { skewBad := true })) (fun t => t.rd (laneStatus_QUIET_REASON 3) == 7) = true
    ∧ answers (exec (.laneStateTimeout 3) (overdue laneExchange {})) (fun t => t.rd (laneStatus_QUIET_REASON 3) == 5) = true
    ∧ answers (exec (.laneStateTimeout 3) (lane3 laneLock {})) (fun t => laneSt t == laneLock) = true
    ∧ answers (exec (.quietBackoffEnd 3) (lane3 laneQuiet { backoff := 4 })) (fun t => laneSt t == laneQuiet) = true
    ∧ answers (exec (.laneLossOfSignal 3) (lane3 laneQuiet {})) (fun t => laneSt t == laneQuiet) = true := by
  and_intros
  all_goals decide +kernel
theorem witness_lane_loss : answers (exec (.trainingStitchRx 3) (lane3 laneActiveSt {})) (fun t => laneSt t == laneLock) = true
    ∧ answers (exec (.laneLoss 3) (lane3 laneActiveSt { missRun := 8 })) (fun t => laneSt t == laneLock && t.on (laneStatus_LOST 3)) = true
    ∧ answers (exec (.stitchSlotInvalid 3) (lane3 laneActiveSt {})) (fun t => t.rd (laneCounts1_MISSING 3) == 1 && (t.lane 3).rxSlot == 1) = true
    ∧ answers (exec (.eqGuardPeriod 3 0 0 0 (Vector.replicate 12 100)) ((lane3 laneActiveSt { snapCtle := 6 }).wr (laneEq_DENS_MIN 3) 1))
        (fun t => (t.lane 3).taps == Vector.replicate 12 0 && t.rd (laneEq_CTLE 3) == 6 && t.on (laneEq_FROZEN 3)) = true
    ∧ answers (exec (.eqGuardPeriod 3 0 0 4 (Vector.replicate 12 0)) (((lane3 laneActiveSt {}).wr (laneEq_DENS_MIN 3) 0).wr (laneEq_EXC_MIN 3) 0))
        (fun t => t.rd (laneEq_CTLE 3) == 4 && !t.on (laneEq_FROZEN 3)) = true
    ∧ answers (exec (.eqGuardPeriod 3 0 0 4 (Vector.replicate 12 9)) ((lane3 laneActiveSt {}).put (laneEq_FROZEN 3) true |>.put (laneEq_GUARD_DIS 3) true))
        (fun t => (t.lane 3).taps == Vector.replicate 12 0 && t.rd (laneEq_CTLE 3) == live.rd (laneEq_CTLE 3)) = true := by
  and_intros
  all_goals decide +kernel
theorem witness_slots_pass :
    answers (exec (.trainingStitchRx 3) (lane3 laneLock {})) (fun t => laneSt t == laneLock) = true
    ∧ answers (exec (.laneLoss 3) (lane3 laneActiveSt { missRun := 7 })) (fun t => laneSt t == laneActiveSt) = true
    ∧ answers (exec (.stitchSlotInvalid 3) (lane3 laneActiveSt { rxSlot := 4095, badMarks := 1 }))
        (fun t => laneSt t == laneAlign && t.rd (laneCounts2_MARKER_ERR 3) == 1) = true
    ∧ answers (exec (.stitchSlotInvalid 3) (lane3 laneAlign { rxSlot := 4095, goodMarks := 1 }))
        (fun t => (t.lane 3).rxSlot == 4096 && (t.lane 3).goodMarks == 0) = true
    ∧ answers (exec (.stitchSlotInvalid 3) (lane3 laneExchange {})) (fun t => (t.lane 3).rxSlot == 1) = true := by
  and_intros
  all_goals decide +kernel
/-- Forest time at the tick in which slot n is formed. -/
def atSlot (n : Nat) (s : State) : State := { s with ft := BitVec.ofNat 64 (8 * n - 4) }
theorem witness_tx : (atSlot 4095 (lane3 laneActiveSt {})).slotNow = some 4095
    ∧ answers (exec (.markerTx 3) (atSlot 4095 (lane3 laneActiveSt {}))) (fun t => t.out.length == 1) = true
    ∧ (atSlot 20 (lane3 laneActiveSt {})).laneActive 3 = true ∧ (atSlot 20 (lane3 laneActiveSt {})).leadLane 3 = 3
    ∧ answers (exec (.stitchTx 3) (atSlot 20 (lane3 laneActiveSt {}))) (fun t => t.out.length == 1) = true
    ∧ (lane3 laneActiveSt { cfg := 4 }).laneMode 3 = 2
    ∧ answers (exec (.stitchTx 3) (atSlot 20 (lane3 laneActiveSt { cfg := 4 }))) (fun t => t.out.length == 1) = true
    ∧ live.slotNow = some 13 := by
  and_intros
  all_goals decide +kernel
theorem witness_tx_none : ({ lane3 laneActiveSt {} with ft := 1 } : State).slotNow = none
    ∧ answers (exec (.stitchTx 3) (atSlot 20 (lane3 laneAlign {}))) (fun t => t.out.length == 1) = true
    ∧ (atSlot 20 (lane3 laneAlign {})).laneActive 3 = false ∧ (atSlot 20 (lane3 laneAlign {})).carries 3 = true
    ∧ (atSlot 20 (lane3 laneTrain {})).carries 3 = false
    ∧ answers (exec (.stitchTx 3) (atSlot 20 (lane3 laneTrain {}))) (fun t => t.out.length == 0) = true
    ∧ answers (exec (.markerTx 3) (atSlot 20 (lane3 laneActiveSt {}))) (fun t => t.out == []) = true := by
  and_intros
  all_goals decide +kernel
/-- A marker of lane 5 of device 9, whose scrambler is the one lane 3's descrambler holds. -/
def marker : BitVec 256 := (live.wr eswId_DEV 9).markerStitch 5 4095
theorem witness_marker_rx : crcGood marker.toNat = true ∧ headerType (marker.toNat % 256) = some 5
    ∧ BitVec.ofNat 31 (marker.toNat / 2 ^ 112) = (prbsSlot ({} : LaneRun).rxScr).2
    ∧ answers (exec (.markerRx 3 marker 0 0) (lane3 laneAlign {})) (fun t => (t.lane 3).goodMarks == 1) = true
    ∧ answers (exec (.markerRx 3 0 0 0) (lane3 laneAlign { goodMarks := 1 })) (fun t => (t.lane 3).goodMarks == 0) = true
    ∧ answers (exec (.markerRx 3 0 0 0) (lane3 laneActiveSt { badMarks := 1 })) (fun t => laneSt t == laneAlign) = true := by
  and_intros
  all_goals decide +kernel
theorem witness_marker_rx_active : answers (exec (.markerRx 3 marker 0 0) (lane3 laneActiveSt { missRun := 3, badMarks := 1 }))
      (fun t => (t.lane 3).missRun == 0 && (t.lane 3).badMarks == 0 && laneSt t == laneActiveSt) = true
    ∧ answers (exec (.markerRx 3 marker 0 0) (lane3 laneLock {})) (fun t => (t.lane 3).goodMarks == 0) = true := by
  and_intros
  all_goals decide +kernel
/-- A bulk stitch of sequence 1, the first part of a message, as the sender scrambles it. -/
def bulk : BitVec 256 :=
  scramble ({} : LaneRun).rxScr (bulkStitch 1 0 false (some { first := true, last := false, mtype := 1, dest := 0, src := 9, data := 5 }))
/-- A decision stitch as the sender scrambles it, with one entry of route 6, value 1 and time 90. -/
def decision : BitVec 256 :=
  scramble ({} : LaneRun).rxScr (BitVec.ofNat 256 (sealBch (headerOf 1 + (1 + 6 * 4 + 1 * 2 ^ 11 + 90 * 2 ^ 43) * 2 ^ 8)))
/-- Lane 3 Active with receive entry 6 enabled for slot 7. -/
def receiving : State :=
  (((lane3 laneActiveSt {}).wr (laneStatus_LAT 3) 40).wr (rxr0_EN 3 6) 1).wr (rxr0_DLV 3 6) 1 |>.wr (rxr0_SLOT 3 6) 7
theorem witness_decision_rx : headerInvalid (scramble ({} : LaneRun).rxScr decision).toNat = false
    ∧ headerType ((scramble ({} : LaneRun).rxScr decision).toNat % 256) = some 1
    ∧ (openBch (scramble ({} : LaneRun).rxScr decision).toNat).isSome = true
    ∧ answers (exec (.decisionStitchRx 3 decision) receiving)
        (fun t => t.deliveries.map (fun d => (d.tick, d.slot)) == [(130, 7)]) = true
    ∧ answers (exec (.decisionStitchRx 3 (decision ^^^ 0xFF00000)) receiving) (fun t => t.rd (laneCounts0_UNCORR 3) == 1) = true := by
  and_intros
  all_goals decide +kernel
theorem witness_decision_rx_passes : answers (exec (.decisionStitchRx 3 decision) (lane3 laneAlign {})) (fun t => (t.lane 3).rxSlot == 1) = true
    ∧ answers (exec (.decisionStitchRx 3 decision) (receiving.modLane 3 (fun x => { x with rxSlot := 4095 })))
        (fun t => t.rd (laneCounts1_MISSING 3) == 1 && t.deliveries == []) = true
    ∧ answers (exec (.decisionStitchRx 3 bulk) receiving) (fun t => t.deliveries == []) = true
    ∧ receiving.leadLane 3 = 3 ∧ receiving.copies 3 = [] ∧ (receiving.lane 3).apart = false := by
  and_intros
  all_goals decide +kernel
theorem witness_bulk_rx : headerType ((scramble ({} : LaneRun).rxScr bulk).toNat % 256) = some 3
    ∧ crcGood ((scramble ({} : LaneRun).rxScr bulk).toNat / 256 * 256 + headerOf 3) = true
    ∧ answers (exec (.bulkStitchRx 3 bulk) (lane3 laneActiveSt {})) (fun t => (t.lane 3).rxSeq == 1 && (t.lane 3).inq.length == 1) = true
    ∧ answers (exec (.bulkStitchRx 3 (bulk ^^^ 0x1000000000000000000)) (lane3 laneActiveSt {}))
        (fun t => (t.lane 3).nakTx && t.rd (laneCounts0_CRC_ERR 3) == 1) = true := by
  and_intros
  all_goals decide +kernel
/-- An idle stitch, one out of sequence, and a whole message, as the sender scrambles them. -/
def idle0 : BitVec 256 := scramble ({} : LaneRun).rxScr (bulkStitch 0 0 false none)
def bulkOut : BitVec 256 :=
  scramble ({} : LaneRun).rxScr (bulkStitch 9 0 false (some { first := true, last := false, mtype := 1, dest := 0, src := 9, data := 5 }))
def bulkWhole : BitVec 256 :=
  scramble ({} : LaneRun).rxScr (bulkStitch 1 0 false (some { first := true, last := true, mtype := 0, dest := 0, src := 9, data := 5 }))
theorem witness_bulk_rx_cases : answers (exec (.bulkStitchRx 3 idle0) (lane3 laneActiveSt { missRun := 2 }))
      (fun t => (t.lane 3).rxSeq == 0 && (t.lane 3).missRun == 0) = true
    ∧ answers (exec (.bulkStitchRx 3 bulkOut) (lane3 laneActiveSt {})) (fun t => (t.lane 3).rxSeq == 0 && (t.lane 3).inq == []) = true
    ∧ answers (exec (.bulkStitchRx 3 bulkWhole) (lane3 laneActiveSt {})) (fun t => (t.lane 3).rxSeq == 1 && (t.lane 3).inq == []) = true
    ∧ answers (exec (.bulkStitchRx 3 bulk) (lane3 laneAlign {})) (fun t => (t.lane 3).rxSlot == 1) = true
    ∧ answers (exec (.bulkStitchRx 3 bulk) (lane3 laneActiveSt { rxSlot := 4095 })) (fun t => t.rd (laneCounts1_MISSING 3) == 1) = true
    ∧ answers (exec (.bulkStitchRx 3 bulk) (lane3 laneLock {})) (fun t => (t.lane 3).rxSlot == 0) = true := by
  and_intros
  all_goals decide +kernel
/-- A part in the replay buffer. -/
def sent0 : SentPart := { seq := 1, part := { first := true, last := true, mtype := 1, dest := 0, src := 0, data := 0 }, sent := 0 }
theorem witness_bulk_retry : answers (exec (.bulkRetransmit 3) (lane3 laneActiveSt { nakRx := true, replay := [sent0] }))
      (fun t => (t.lane 3).replay == [{ sent0 with again := true }]) = true
    ∧ ({ lane3 laneActiveSt { replay := [sent0] } with tick := 512 } : State).bulkSpent 3 = true
    ∧ (∀ y ∈ live.shots, y.joint = false)
    ∧ answers (exec (.bulkRetryExhausted 3) { lane3 laneActiveSt { replay := [sent0] } with tick := 512 })
        (fun t => laneSt t == laneLock && (t.lane 3).replay == []) = true := by
  and_intros
  all_goals decide +kernel
/-- Barrier 2 of a tree: parent on lane 3, a child on lane 4; it waits at generation 0. -/
def tree : State := ((live.put (eswBar_EN 2) true).wr (eswBar_UP_LANE 2) 3).wr (eswBar_DOWN_LANES 2) 16
theorem witness_barrier_entries : ((tree.bar 2).gen : Int) ≤ (tree.bar 2).fullGen 0 ∧ (tree.bar 2).cut = none
    ∧ answers (exec (.arrive 4 2 0 0) tree) (fun t => ((t.bar 2).at_ 0).kids == [4]) = true
    ∧ answers (exec (.release 3 2 0 150) tree) (fun t => ((t.bar 2).at_ 0).rel == some (150, 150)) = true
    ∧ answers (exec (.release 3 2 0 50) tree) (fun t => (t.bar 2).gen == 1) = true
    ∧ tree.deviceTick (tree.fullTick 50) ≤ tree.tick ∧ (tree.tick : Int) < tree.deviceTick (tree.fullTick 150)
    ∧ tree.inTree 2 4 = true ∧ tree.inTree 2 5 = false
    ∧ answers (exec (.unpickRx 4 2 0 150) tree) (fun t => (t.bar 2).unpicked.length == 1) = true
    ∧ answers (exec (.pauseRx 4 2 0 20) tree) (fun t => ((t.bar 2).at_ 0).pause == 20) = true
    ∧ answers (exec (.pauseRx 4 2 15 20) { tree with bars := [(2, { gen := 16 })] }) (fun t => t.rd canopyCounts_PAUSE_LATE == 1) = true := by
  and_intros
  all_goals decide +kernel
theorem witness_barrier_entries_pass :
    answers (exec (.arrive 5 2 0 0) tree) (fun t => ((t.bar 2).at_ 0).kids == []) = true
    ∧ answers (exec (.arrive 4 2 0 0) { tree with bars := [(2, { gen := 1 })] }) (fun t => ((t.bar 2).at_ 0).kids == []) = true
    ∧ answers (exec (.release 4 2 0 150) tree) (fun t => ((t.bar 2).at_ 0).rel == none) = true
    ∧ answers (exec (.unpickRx 5 2 0 150) tree) (fun t => (t.bar 2).unpicked == []) = true
    ∧ answers (exec (.pauseRx 4 2 0 20) { tree with bars := [(2, { gens := [(0, { pause := 30 })] })] })
        (fun t => ((t.bar 2).at_ 0).pause == 30) = true
    ∧ tree.shots.find? (fun y => y.joint && y.bar == 2 && y.gen == 0) = none := by
  and_intros
  all_goals decide +kernel
/-- Thread 0 waits at barrier 2 of the tree. -/
def treeWaits (why : BarPurpose) : State :=
  tree.modThread q0 (fun x => { x with st := .waiting, wait := some { cond := .bar 2 0 true why, timeout := none, wake := none } })
theorem witness_late_release :
    answers (exec (.release 3 2 0 50) (treeWaits .wbar)) (fun t => (t.thread q0).ws == 2 && (t.thread q0).wt == 100) = true
    ∧ answers (exec (.release 3 2 0 50) (treeWaits .shotBegin)) (fun t => (t.thread q0).faultDue == some (0x07, 2100)) = true := by
  and_intros
  all_goals decide +kernel
theorem witness_devices : receiving.laneActive 3 = true ∧ receiving.marksLater 3 9 (receiving.fullTick 90) = true
    ∧ answers (exec (.down 3 9 90) receiving) (fun t => (t.lane 3).down == [9]) = true
    ∧ answers (exec (.up 3 9 90) receiving) (fun t => (t.lane 3).down == []) = true := by
  and_intros
  all_goals decide +kernel
theorem witness_devices_pass : ({ receiving with lanes := [(3, { marks := [(9, receiving.fullTick 90)] })] } : State).marksLater 3 9 (receiving.fullTick 90) = false
    ∧ answers (exec (.down 3 9 90) (lane3 laneLock {})) (fun t => (t.lane 3).down == []) = true := by
  and_intros
  all_goals decide +kernel
/-- Receive entry 6 expects a stitch now: thread 0 waits for its slot from this tick on. -/
def expecting : State :=
  (receiving.wr (rxr1_EXP 3 6) 1).modThread q0 (fun x => { x with
    st := .waiting, wait := some { cond := .dec 3 7 false 100, timeout := none, wake := none } })
theorem witness_expectation : expecting.expected 3 6 = true ∧ live.expected 3 6 = false
    ∧ answers (exec (.expectationTick 3 6) expecting) (fun t => t.rd (laneCounts2_NOSHOW 3) == 1) = true
    ∧ answers (exec (.expectationTick 3 6) (expecting.wr (laneStatus_STATE 3) 0)) (fun t => (t.slot 7).wrote == some 100) = true := by
  and_intros
  all_goals decide +kernel
theorem witness_expectation_lost : slotOf (100 - expecting.laneLat 3) = 9
    ∧ (expecting.modLane 3 (fun x => { x with bad := [9] })).windowBad 3 9 = true ∧ expecting.windowBad 3 9 = false
    ∧ answers (exec (.expectationTick 3 6) (expecting.modLane 3 (fun x => { x with bad := [9] })))
        (fun t => statusOf (t.slot 7).word == 2 && t.rd (laneCounts2_NOSHOW 3) == 0) = true
    ∧ answers (exec (.expectationTick 3 6) (expecting.modLane 3 (fun x => { x with down := [0] })))
        (fun t => statusOf (t.slot 7).word == 1) = true
    ∧ answers (exec (.expectationTick 3 6) live) (fun t => t.slots == []) = true := by
  and_intros
  all_goals decide +kernel
theorem witness_fabric_writes : Lands live ⟨.laneCfg, 3, 0, 0⟩ (wr0 1) ∧ live.dormant = false
    ∧ answers (exec (.laneCfgWrite 3 (wr0 1)) live) (fun t => laneSt t == laneDetect) = true
    ∧ answers (exec (.laneCfgWrite 3 (wr0 0)) (lane3 laneActiveSt {})) (fun t => laneSt t == laneDisabled) = true
    ∧ Lands live ⟨.eswExp0, 0, 0, 0⟩ (wr0 0) ∧ Lands live ⟨.eswExp1, 0, 0, 0⟩ (bit (eswExp1_EN 0))
    ∧ answers (exec (.expTimerWrite 0 true (bit (eswExp1_EN 0))) live) (fun t => t.exps.length == 1) = true
    ∧ answers (exec (.expTimerWrite 0 false (wr0 0)) (live.put (eswExp1_EN 0) true)) (fun t => t.exps.length == 1) = true
    ∧ Lands live ⟨.eswBar, 2, 0, 0⟩ (wr0 1) ∧ live.waitersAt 2 = []
    ∧ answers (exec (.barWrite 2 (wr0 1)) live) (fun t => !t.on eswStatus_CFG_REFUSED) = true
    ∧ answers (exec (.barWrite 2 (wr0 1)) (waits (.bar 2 0 true .wbar) none none)) (fun t => t.on eswStatus_CFG_REFUSED) = true
    ∧ Lands live ⟨.eswId, 0, 0, 0⟩ (wr0 9)
    ∧ answers (exec (.devWrite (wr0 9)) live) (fun t => t.rd eswId_DEV == 9) = true := by
  and_intros
  all_goals decide +kernel

/-! The seam matrix. -/

/-- Channel 40 routes source 200. -/
def routed : State := (live.wr (seamCh_SRC 40) 200).setReg ⟨.seamCh, 40, 0, 0⟩ (BitVec.ofNat 64 (200 + 2 ^ 32))
theorem witness_seam_event : routed.chansOf 200 = [40]
    ∧ answers (exec (.seamEvent 200) routed) (fun t => t.seamPipe == [(40, 102)]) = true
    ∧ answers (exec (.seamEvent 200) { routed with seamPipe := [(40, 102)] }) (fun t => t.rd (seamCh_MERGED 40) == 1) = true
    ∧ routed.chansOf 201 = [] ∧ (live.wr pwr_CUR 2).dormant = true := by
  and_intros
  all_goals decide +kernel
/-- Channel 8 carries source 3 unsynchronised, and wakes the device. -/
def asyncRoute : State := ((live.setReg ⟨.seamCh, 8, 0, 0⟩ (BitVec.ofNat 64 (3 + 2 ^ 32))).putBit seamTask_WAKE 8 true).wr pwr_CUR 2
theorem witness_seam_events : asyncRoute.chansOf 3 = [8] ∧ asyncRoute.dormant = true ∧ asyncRoute.bitAt seamTask_WAKE 8 = true
    ∧ answers (exec (.seamEvent 3) asyncRoute) (fun t => t.asyncNow.contains 8 && t.wakeDue) = true
    ∧ answers (exec (.seamEvent 511) live) (fun t => t.seamPipe == []) = true
    ∧ answers (exec (.seamEvent 201) routed) (fun t => t.seamPipe == []) = true := by
  and_intros
  all_goals decide +kernel
theorem witness_timer : ((live.put (tmrCfg_ORIGIN_EN 2) true).setReg ⟨.tmrOrigin, 2, 0, 0⟩ 100).originDue 2 = true
    ∧ answers (exec (.timerOrigin 2) ((live.put (tmrCfg_ORIGIN_EN 2) true).setReg ⟨.tmrOrigin, 2, 0, 0⟩ 100))
        (fun t => t.on (tmrCfg_RUNNING 2) && t.timers.length == 1) = true
    ∧ answers (exec (.timerExpiry 2) { live.wr (tmrCfg_MODE 2) 0 with timers := [(2, ⟨90, 10, 0, false⟩)] })
        (fun t => t.timers == [] && t.seamRaised == [130]) = true
    ∧ answers (exec (.timerExpiry 2) { live.wr (tmrCfg_MODE 2) 1 with timers := [(2, ⟨90, 10, 0, false⟩)] })
        (fun t => (t.timers.map (fun p => p.2.from_)) == [100]) = true
    ∧ answers (exec (.timerExpiry 2) { live.wr (tmrCfg_MODE 2) 2 with timers := [(2, ⟨97, 10, 3, true⟩)] })
        (fun t => t.timers == [(2, ⟨97, 10, 3, false⟩)]) = true
    ∧ live.timerHeld 2 = false := by
  and_intros
  all_goals decide +kernel
/-- Timer 2 running, with its origin now. -/
def timed2 (x : TimerRun) : State :=
  { (live.put (tmrCfg_ORIGIN_EN 2) true).setReg ⟨.tmrOrigin, 2, 0, 0⟩ 100 with timers := [(2, x)] }
theorem witness_timer_cases : live.originDue 2 = false ∧ live.seamLevels.stops = []
    ∧ answers (exec (.timerOrigin 2) (timed2 ⟨90, 100, 0, false⟩)) (fun t => t.rd (tmrCfg_IGN 2) == 1) = true
    ∧ answers (exec (.timerOrigin 2) live) (fun t => t.timers == []) = true
    ∧ answers (exec (.timerOrigin 2)
        { (live.put (tmrCfg_ORIGIN_EN 2) true).setReg ⟨.tmrOrigin, 2, 0, 0⟩ 100 with seamLevels := { live.seamLevels with stops := [2] } })
        (fun t => t.timers == []) = true
    ∧ answers (exec (.timerExpiry 2) (timed2 ⟨90, 100, 0, false⟩)) (fun t => t.timers == [(2, ⟨90, 100, 0, false⟩)]) = true
    ∧ answers (exec (.timerExpiry 2) ((timed2 ⟨90, 10, 0, false⟩).wr (tmrCfg_MODE 2) 2)) (fun t => t.seamRaised == []) = true := by
  and_intros
  all_goals decide +kernel
/-- The event log claimed by domain 0, with a word in it. -/
def logged (ok : Bool) : State := { live.wr claimLog_HOLDER 1 with evLog := { words := [{ w := 9, parityOk := ok }] } }
theorem witness_log : (logged true).rd claimLog_HOLDER = 0 + 1
    ∧ answers (exec (.logPop ⟨0, true⟩) (logged true)) (fun t => t.evLog.lastPop == 9 && !t.on logStatus_POISON) = true
    ∧ answers (exec (.logPop ⟨0, true⟩) (logged false)) (fun t => t.evLog.lastPop == 9 && t.on logStatus_POISON) = true
    ∧ answers (exec (.logPop ⟨0, true⟩) (live.wr claimLog_HOLDER 1)) (fun t => t.on logStatus_UNDERRUN) = true
    ∧ answers (exec (.logPop ⟨1, true⟩) (logged true)) (fun t => t.rd seamStatus_DENIED == 1) = true
    ∧ Strikes live logStatus_FLUSH (bit logStatus_FLUSH)
    ∧ answers (exec (.logFlush (bit logStatus_FLUSH)) (logged true)) (fun t => t.evLog.words == []) = true := by
  and_intros
  all_goals decide +kernel
theorem witness_seam_writes : Reg.ofAddr (Reg.addr ⟨.seamCh, 40, 0, 0⟩) = some ⟨.seamCh, 40, 0, 0⟩ ∧ Lands live ⟨.seamCh, 40, 0, 0⟩ (wr0 200)
    ∧ answers (exec (.seamChWrite (Reg.addr ⟨.seamCh, 40, 0, 0⟩) (wr0 200)) live) (fun t => t.rd (seamCh_SRC 40) == 200) = true
    ∧ (live.setReg ⟨.srcOwn, 12, 0, 0⟩ (BitVec.ofNat 64 (1 * 2 ^ 32))).srcOwner 200 = 1
    ∧ answers (exec (.seamChWrite (Reg.addr ⟨.seamCh, 40, 0, 0⟩) (wr0 (BitVec.ofNat 64 (200 + 2 ^ 32))))
        (live.setReg ⟨.srcOwn, 12, 0, 0⟩ (BitVec.ofNat 64 (1 * 2 ^ 32)))) (fun t => t.on seamStatus_CFG_REFUSED) = true
    ∧ Lands live ⟨.tack0, 5, 0, 0⟩ (wr0 3) ∧ Lands live ⟨.tack1, 5, 0, 0⟩ (wr0 3)
    ∧ answers (exec (.seamChWrite (Reg.addr ⟨.tack0, 5, 0, 0⟩) (wr0 3)) live) (fun t => t.reg ⟨.tack0, 5, 0, 0⟩ == 3) = true
    ∧ Lands live ⟨.srcOwn, 1, 0, 0⟩ (wr0 3)
    ∧ answers (exec (.srcOwnWrite 1 (wr0 3)) live) (fun t => t.reg ⟨.srcOwn, 1, 0, 0⟩ == 3) = true := by
  and_intros
  all_goals decide +kernel
/-- A write of domain 1. -/
def wr1 (v : Word) : WriteOp := ⟨⟨1, true⟩, .whole, v⟩
theorem witness_seam_denials : Lands live ⟨.seamCh, 40, 0, 0⟩ (wr1 200)
    ∧ answers (exec (.seamChWrite (Reg.addr ⟨.seamCh, 40, 0, 0⟩) (wr1 200)) live) (fun t => t.rd seamStatus_DENIED == 1 && t.rd (seamCh_SRC 40) == 0) = true
    ∧ answers (exec (.seamChWrite (Reg.addr ⟨.tack0, 5, 0, 0⟩) (wr1 3)) live) (fun t => t.rd seamStatus_DENIED == 1) = true
    ∧ answers (exec (.seamChWrite (Reg.addr ⟨.tack1, 5, 0, 0⟩) (wr0 3)) live) (fun t => t.reg ⟨.tack1, 5, 0, 0⟩ == 3) = true
    ∧ answers (exec (.seamChWrite (Reg.addr ⟨.tack1, 5, 0, 0⟩) (wr1 3)) live) (fun t => t.rd seamStatus_DENIED == 1) = true
    ∧ answers (exec (.srcOwnWrite 1 (wr1 3)) live) (fun t => t.rd seamStatus_DENIED == 1) = true
    ∧ answers (exec (.srcOwnWrite 12 (wr0 (BitVec.ofNat 64 (1 * 2 ^ 32)))) routed) (fun t => t.on seamStatus_CFG_REFUSED) = true := by
  and_intros
  all_goals decide +kernel
theorem witness_timer_writes : Strikes (live.wr (claimTmr_HOLDER 2) 1) (tmrCfg_GO 2) (bit (tmrCfg_GO 2))
    ∧ strobe (bit (tmrCfg_GO 2)).bits (tmrCfg_STOP 2) = false ∧ live.seamNow = []
    ∧ answers (exec (.timerGo 2 (bit (tmrCfg_GO 2))) (live.wr (claimTmr_HOLDER 2) 1)) (fun t => t.on (tmrCfg_RUNNING 2)) = true
    ∧ answers (exec (.timerGo 2 (bit (tmrCfg_GO 2))) (live.wr (claimTmr_HOLDER 2) 2)) (fun t => t.rd seamStatus_DENIED == 1) = true
    ∧ answers (exec (.timerStop 2 (bit (tmrCfg_STOP 2))) { live.wr (claimTmr_HOLDER 2) 1 with timers := [(2, ⟨90, 10, 0, false⟩)] })
        (fun t => t.timers == []) = true
    ∧ answers (exec (.claimWrite (Reg.addr ⟨.claimTmr, 2, 0, 0⟩) (wr0 1)) (live.setReg ⟨.claimTmr, 2, 0, 0⟩ 0))
        (fun t => t.rd (claimTmr_HOLDER 2) == 1) = true
    ∧ answers (exec (.claimWrite (Reg.addr ⟨.claimTmr, 2, 0, 0⟩) (wr0 0)) (live.setReg ⟨.claimTmr, 2, 0, 0⟩ 1))
        (fun t => t.rd (claimTmr_HOLDER 2) == 0) = true
    ∧ answers (exec (.claimWrite (Reg.addr ⟨.claimTmr, 2, 0, 0⟩) (wr0 2)) (live.setReg ⟨.claimTmr, 2, 0, 0⟩ 1))
        (fun t => t.rd seamStatus_CLAIM_DENIED == 1) = true := by
  and_intros
  all_goals decide +kernel
/-- Timer 2 claimed by domain 0 and running. -/
def ticking : State := { live.wr (claimTmr_HOLDER 2) 1 with timers := [(2, ⟨90, 10, 0, false⟩)] }
theorem witness_timer_write_cases :
    answers (exec (.timerGo 2 (wr0 ((bit (tmrCfg_GO 2)).bits ||| 8))) ticking) (fun t => t.rd (tmrCfg_IGN 2) == 1 && t.timers.length == 1) = true
    ∧ answers (exec (.timerGo 2 (wr0 ((bit (tmrCfg_GO 2)).bits ||| (bit (tmrCfg_STOP 2)).bits))) ticking) (fun t => t.timers == []) = true
    ∧ answers (exec (.timerGo 2 (bit (tmrCfg_GO 2))) ticking) (fun t => t.timers == []) = true
    ∧ answers (exec (.timerGo 2 (bit (tmrCfg_GO 2)))
        { live.wr (claimTmr_HOLDER 2) 1 with seamLevels := { live.seamLevels with stops := [2] } }) (fun t => t.timers == []) = true
    ∧ answers (exec (.timerStop 2 (bit (tmrCfg_STOP 2))) { ticking with seamRaised := [130] }) (fun t => t.seamRaised == []) = true
    ∧ answers (exec (.timerStop 2 (bit (tmrCfg_STOP 2))) (live.wr (claimTmr_HOLDER 2) 2)) (fun t => t.rd seamStatus_DENIED == 1) = true
    ∧ answers (exec (.claimWrite (Reg.addr ⟨.claimTmr, 2, 0, 0⟩) (wr0 0)) live) (fun t => t.rd (claimTmr_HOLDER 2) == 0) = true
    ∧ answers (exec (.claimWrite (Reg.addr ⟨.claimMk, 3, 0, 0⟩) (wr0 1)) (live.setReg ⟨.claimMk, 3, 0, 0⟩ 1))
        (fun t => t.rd (claimMk_HOLDER 3) == 1 && t.rd seamStatus_CLAIM_DENIED == 0) = true := by
  and_intros
  all_goals decide +kernel

/-! The host side. -/

/-- A host's address. -/
def host : MSource := ⟨false, 0, 0⟩
/-- Kenper-M answering on link 0. -/
def answering : State := live.put (port_EN 0) true
/-- The port it listens on. -/
def mPort : BitVec 16 := BitVec.ofNat 16 (answering.rd kenMCfg_UDP_PORT)
/-- A request of one 64-bit read of TIME.NOW. -/
def request : List Byte :=
  [0x4B, 0x4D, 1, 1, 0, 0, 0, 9, 1, 0, 0, 0, 1, 0, 0, 0x50, 2, 0, 0, 0, 0, 0, 0, 0, 0, 0, 0, 0]
theorem witness_kenper_m : answering.mAnswers 0 = true ∧ live.mAnswers 0 = false ∧ datagramGood request = true ∧ datagramGood [] = false
    ∧ answering.aclFor host = some ⟨0, true⟩ ∧ (answering.wr (acl0_EN 0) 0).aclFor host = none
    ∧ answers (exec (.kenperMDatagram 0 host mPort []) answering) (fun t => t.rd kenMStatus_MALFORMED == 1) = true
    ∧ answers (exec (.kenperMDatagram 0 host mPort request) answering)
        (fun t => t.mExec.map (fun x => x.results.map (fun r => (r.2.status, r.2.data))) == some [(.ok, 100)]) = true
    ∧ answers (exec (.kenperMDatagram 0 host mPort request) { answering with kept := [⟨host, 9, []⟩] })
        (fun t => t.out == [.response host []]) = true
    ∧ answers (exec (.kenperMDatagram 0 host mPort request) { answering with
        mExec := some ⟨⟨false, 1, 0⟩, 1, ⟨0, true⟩, false, [], [], 1⟩ }) (fun t => t.mWait.length == 1) = true
    ∧ answers (exec .kenperMResponse { answering with mExec := some ⟨host, 1, ⟨0, true⟩, false, [], [], 2⟩ })
        (fun t => t.out.length == 2 && t.mExec == none) = true := by
  and_intros
  all_goals decide +kernel
/-- Requests of another source, executing and waiting. -/
def otherReq (n : BitVec 32) : MRequest := ⟨⟨false, 1, 0⟩, n, ⟨0, true⟩, false, [], [], 1⟩
theorem witness_kenper_m_cases :
    answers (exec (.kenperMDatagram 0 host (mPort + 1) request) answering) (fun t => t.rd (linkCounts_RX_BAD 0) == 1 && t.mExec == none) = true
    ∧ answers (exec (.kenperMDatagram 0 host mPort request) (answering.wr (acl0_EN 0) 0)) (fun t => t.rd kenMStatus_DISCARD_ACL == 1) = true
    ∧ answers (exec (.kenperMDatagram 0 host mPort request) live) (fun t => t.mExec == none) = true
    ∧ answers (exec (.kenperMDatagram 0 host mPort request) { answering with mExec := some (otherReq 1), mWait := List.replicate 16 (otherReq 2) })
        (fun t => t.rd kenMStatus_OVERRUN == 1 && t.mWait.length == 16) = true
    ∧ answers (exec (.kenperMDatagram 0 host mPort request) { answering with mExec := some { otherReq 9 with src := host } })
        (fun t => t.mExec.map MRequest.sends == some 2 && t.mWait == []) = true
    ∧ answers (exec .kenperMResponse { answering with mExec := some (otherReq 1) })
        (fun t => t.out == [.response ⟨false, 1, 0⟩ (otherReq 1).response] && t.kept.length == 1) = true
    ∧ (otherReq 1).response.take 4 = [0x4B, 0x4D, 1, 0x81]
    ∧ answers (exec .kenperMResponse answering) (fun t => t.out == []) = true := by
  and_intros
  all_goals decide +kernel
/-- A frame to the MAC address of a link whose registers are zero, and link 0 with an IPv4 and an IPv6 address. -/
def frameTo (b : EthBody) : EthFrame := { dest := 0, tags := [], length := 64, body := b }
def addressed : State := ((answering.wr (linkMac_MAC 0) 0).wr (linkIp_IPV4 0) 7).wr (linkIp6Lo_IPV6_LO 0) 8
theorem witness_links : answering.linkExists 0 = true ∧ live.linkExists 0 = false
    ∧ answers (exec (.linkChange 0 true) (answering.putBit (portStatus_UP 0) 0 false)) (fun t => t.bitAt (portStatus_UP 0) 0) = true
    ∧ answers (exec (.linkChange 0 true) live) (fun t => !t.bitAt (portStatus_UP 0) 0) = true
    ∧ answers (exec (.linkChange 0 true) ((((answering.putBit (portStatus_UP 0) 0 false).put kenEvt_EN true).put (cplCfg_EN 0) true).wr (qpCtrl_STATE 0) 3))
        (fun t => t.cplWait.map (fun e => (e.1, e.2.opcode, e.2.code)) == [(0, 0xEA, 1)]) = true
    ∧ Lands live ⟨.port, 0, 0, 0⟩ (wr0 3)
    ∧ answers (exec (.portCfgWrite false (wr0 3)) answering) (fun t => t.on (port_CFG_REFUSED 0)) = true
    ∧ answers (exec (.portCfgWrite false (wr0 3)) live) (fun t => t.on (port_EN 0)) = true
    ∧ answers (exec (.portCfgWrite false (wr0 7)) live) (fun t => t.on (port_EN 0) && t.rd (port_MODE 0) == live.rd (port_MODE 0)) = true := by
  and_intros
  all_goals decide +kernel
theorem witness_frames : addressed.frameFor 0 (frameTo (.arp 7)) = true ∧ (frameTo (.arp 7)).discarded false = false
    ∧ answers (exec (.ethernetFrameRx 0 (frameTo .ipFragment)) addressed) (fun t => t.rd (linkCounts_RX_BAD 0) == 1) = true
    ∧ answers (exec (.ethernetFrameRx 0 { frameTo (.arp 7) with length := 9217 }) addressed) (fun t => t.rd (linkCounts_RX_BAD 0) == 1) = true
    ∧ answers (exec (.ethernetFrameRx 0 (frameTo (.arp 7))) addressed) (fun t => t.out == [.frame 0 0]) = true
    ∧ answers (exec (.ethernetFrameRx 0 (frameTo (.arp 6))) addressed) (fun t => t.out == []) = true
    ∧ answers (exec (.ethernetFrameRx 0 (frameTo (.neighbour 8))) addressed) (fun t => t.out == [.frame 0 1]) = true
    ∧ answers (exec (.ethernetFrameRx 0 (frameTo (.echo4 7))) addressed) (fun t => t.out == [.frame 0 2]) = true
    ∧ answers (exec (.ethernetFrameRx 0 (frameTo (.echo6 8))) addressed) (fun t => t.out == [.frame 0 2]) = true
    ∧ answers (exec (.ethernetFrameRx 0 (frameTo (.echo6 9))) addressed) (fun t => t.out == []) = true
    ∧ answers (exec (.ethernetFrameRx 0 (frameTo (.arp 7))) live) (fun t => t.out == []) = true
    ∧ answers (exec (.ethernetFrameRx 0 (frameTo (.pfc 0xFF (Vector.replicate 8 100)))) (addressed.put (port_PFC_EN 0) true))
        (fun t => t.kenRun.paused.length == 1 && t.linkPaused 0) = true
    ∧ answers (exec (.ethernetFrameRx 0 (frameTo (.pfc 0 (Vector.replicate 8 100)))) (addressed.put (port_PFC_EN 0) true))
        (fun t => t.kenRun.paused == []) = true := by
  and_intros
  all_goals decide +kernel
theorem witness_rates : answers (exec (.ecnCeRx 5) live) (fun t => t.out == [.cnp 5]) = true
    ∧ answers (exec (.ecnCeRx 5) (live.setQp 5 { cnpSent := some 60 })) (fun t => t.out == [] && (t.qp 5).cnpOwed) = true
    ∧ answers (exec (.cnpRx 5) answering) (fun t => (t.qp 5).rate == 50000000) = true
    ∧ answers (exec (.rateRecovery 5) ({ answering with tick := 50000 }.setQp 5 { rate := 1000000 })) (fun t => (t.qp 5).rate == 2000000) = true
    ∧ answers (exec (.rateRecovery 5) ({ answering with tick := 50000 }.setQp 5 { rate := 90000000 })) (fun t => (t.qp 5).rate == 0) = true
    ∧ answers (exec (.rateRecovery 5) (answering.setQp 5 { rate := 1000000 })) (fun t => (t.qp 5).rate == 1000000) = true := by
  and_intros
  all_goals decide +kernel
/-- Queue pair 5 in a state, with what it holds. -/
def pair5 (st : Nat) (x : QpRun) : State := (live.wr (qpCtrl_STATE 5) st).setQp 5 x
/-- Queue pair 5 in RTS with an ACK_TIMEOUT and one unacknowledged write. -/
def unacked : State :=
  { (pair5 3 {}).wr (qpCtrl_ACK_TIMEOUT 5) 1 with outReqs := [{ q := 5, psn := 0, kind := .write, sent := 0 }], tick := 8192 }
theorem witness_queue_pair : answers (exec (.qpError 5 3) (pair5 3 {})) (fun t => t.rd (qpCtrl_STATE 5) == 4 && t.rd (qpErr_ERR_CAUSE 5) == 3) = true
    ∧ answers (exec (.ackTimeout 5) (unacked.wr (qpCtrl_RETRY_CNT 5) 1)) (fun t => t.out == [.retransmit 5]) = true
    ∧ answers (exec (.ackTimeout 5) (unacked.wr (qpCtrl_RETRY_CNT 5) 0)) (fun t => t.rd (qpCtrl_STATE 5) == 4) = true
    ∧ answers (exec (.rnrRetryTimer 5) ((pair5 3 { rnrDue := some 0 }).wr (qpCtrl_RNR_RETRY 5) 7)) (fun t => t.out == [.retransmit 5]) = true
    ∧ answers (exec (.rnrRetryTimer 5) ((pair5 3 { rnrDue := some 0 }).wr (qpCtrl_RNR_RETRY 5) 0)) (fun t => t.rd (qpCtrl_STATE 5) == 4) = true := by
  and_intros
  all_goals decide +kernel
/-- Queue pair 5 with a fetched descriptor and a LOAD of its ring, whose completion ring takes entries. -/
def busyPair : State :=
  let s := ((((pair5 3 {}).put (cmdCfg_EN 0) true).wr (cmdCfg_LOG2SIZE 0) 6).wr (cmdCfg_QP 0) 5).put (cplCfg_EN 0) true
  { (s.wr (cplCfg_LOG2SIZE 0) 8).wr (qpCtrl_STATE 0) 3 with
    fetched := [⟨ref0 0, false, []⟩]
    transfers := [{ ref := { ref0 0x10 with tag := 9 }, domain := 0, space := 2, tile := 0, offset := 0, length := 8, hostAddr := 0, rkey := 0 }] }
theorem witness_queue_pair_fails : busyPair.cplDiscards 0 = false
    ∧ answers (exec (.qpError 5 3) busyPair) (fun t => t.fetched == [] && t.transfers == []
        && t.cplWait.map (fun e => (e.1, e.2.status, e.2.tag)) == [(0, 0x31, 9), (0, 0x34, 7)]) = true
    ∧ answers (exec (.qpError 5 7) (pair5 1 {})) (fun t => t.rd (qpCtrl_STATE 5) == 4) = true
    ∧ answers (exec (.qpError 5 3) (pair5 1 {})) (fun t => t.rd (qpCtrl_STATE 5) == 1) = true
    ∧ answers (exec (.ackTimeout 5) (pair5 3 {})) (fun t => t.out == []) = true
    ∧ answers (exec (.rnrRetryTimer 5) (pair5 3 { rnrDue := some 101 })) (fun t => (t.qp 5).rnrDue == some 101) = true
    ∧ answers (exec (.ackTimeout 5) { ((unacked.wr (qpCtrl_RETRY_CNT 5) 1).put (port_PFC_EN 0) true).wr (port_PFC_PRIO 0) (unacked.rd (linkIp_PCP 0)) with kenRun.paused := [(unacked.rd (qpCtrl_LINK 5), 90000)] })
        (fun t => t.out == [] && (t.qp 5).owed) = true := by
  and_intros
  all_goals decide +kernel
theorem witness_queue_pair_writes : Lands (pair5 3 {}) ⟨.qpCtrl, 5, 0, 0⟩ (wr0 0) ∧ (wr0 0).half ≠ .high
    ∧ bitsOf ((pair5 3 {}).merged ⟨.qpCtrl, 5, 0, 0⟩ (wr0 1)) 0 3 = 1
    ∧ answers (exec (.qpReset 5 (wr0 0)) (pair5 3 {})) (fun t => t.rd (qpCtrl_STATE 5) == 0) = true
    ∧ answers (exec (.qpInit 5 (wr0 1)) (pair5 0 {})) (fun t => t.rd (qpCtrl_STATE 5) == 1) = true
    ∧ answers (exec (.qpRtr 5 (wr0 2)) ((pair5 1 {}).wr (qpPsn_RQ_PSN 5) 77)) (fun t => t.rd (qpCtrl_STATE 5) == 2 && (t.qp 5).rqPsn == 77) = true
    ∧ answers (exec (.qpRts 5 (wr0 3)) ((pair5 2 {}).wr (qpPsn_SQ_PSN 5) 78)) (fun t => t.rd (qpCtrl_STATE 5) == 3 && (t.qp 5).sqPsn == 78) = true
    ∧ answers (exec (.qpRts 5 (wr0 3)) (pair5 1 {})) (fun t => t.rd (qpCtrl_STATE 5) == 1) = true
    ∧ Lands live ⟨.cmdCfg, 0, 0, 0⟩ (wr0 (BitVec.ofNat 64 (1 + 6 * 8))) ∧ RingKind.cmd.sized 6 = true ∧ RingKind.cmd.sized 0 = false
    ∧ answers (exec (.ringCfgWrite .cmd 0 (wr0 (BitVec.ofNat 64 (1 + 6 * 8)))) live) (fun t => t.on (cmdCfg_EN 0)) = true
    ∧ answers (exec (.ringCfgWrite .cmd 0 (wr0 1)) live) (fun t => t.rd kenCounts_CFG_REFUSED == 1) = true := by
  and_intros
  all_goals decide +kernel
theorem witness_rings : answers (exec (.qpReset 5 (wr0 0)) busyPair) (fun t => t.fetched == [] && t.transfers == [] && t.qp 5 == {}) = true
    ∧ answers (exec (.qpReset 5 (wr0 0)) (pair5 0 {})) (fun t => t.rd (qpCtrl_STATE 5) == 0) = true
    ∧ answers (exec (.ringCfgWrite .cmd 0 (wr0 (BitVec.ofNat 64 (1 + 6 * 8)))) busyPair) (fun t => t.rd kenCounts_CFG_REFUSED == 1) = true
    ∧ answers (exec (.ringCfgWrite .cmd 0 (wr0 0)) busyPair)
        (fun t => t.fetched == [] && t.cplWait.map (fun e => (e.1, e.2.status, e.2.tag)) == [(0, 0x34, 7)]) = true := by
  and_intros
  all_goals decide +kernel
/-- Queue pair 5 in RTS with command ring 0, of 64 entries, bound to it; inline or not. -/
def ringed (inl : Bool) : State :=
  ((((pair5 3 {}).put (cmdCfg_EN 0) true).put (cmdCfg_INLINE 0) inl).wr (cmdCfg_LOG2SIZE 0) 6).wr (cmdCfg_QP 0) 5
theorem witness_roce : (pair5 3 {}).qpListens 5 = true ∧ (pair5 0 {}).qpListens 5 = false
    ∧ answers (exec (.rocePacketRx 5 ⟨0, false, .ack⟩) (pair5 3 {})) (fun t => t.rd (linkCounts_ICRC_ERR 0) == 1) = true
    ∧ 0 < psnDist 1 (0 : BitVec 24) ∧ psnDist 0xFFFFFF (0 : BitVec 24) < 0
    ∧ answers (exec (.rocePacketRx 5 ⟨1, true, .send []⟩) (pair5 3 {})) (fun t => t.out == [.ack 5 4]) = true
    ∧ answers (exec (.rocePacketRx 5 ⟨0xFFFFFF, true, .send []⟩) (pair5 3 {})) (fun t => t.out == [.ack 5 0]) = true
    ∧ answers (exec (.rocePacketRx 5 ⟨0, true, .ack⟩) unacked) (fun t => t.outReqs == []) = true
    ∧ answers (exec (.rocePacketRx 5 ⟨0, true, .ack⟩)
        { unacked with readWait := [⟨ref0 0x11, 5, 0, 0, 1, 0⟩], flying := [ref0 0x11] })
        (fun t => t.readWait == [] && t.flying == []) = true
    ∧ answers (exec (.doorbell 5 0 [3, 0, 0, 0, 0, 0, 0, 0]) (ringed false)) (fun t => t.rd (cmdIdx_PI 0) == 3 && t.out == [.ack 5 0]) = true
    ∧ answers (exec (.doorbell 5 4096 [3, 0, 0, 0, 0, 0, 0, 0]) (ringed false)) (fun t => t.out == [.ack 5 3]) = true
    ∧ (ringed true).inlineRing 5 = some 0 ∧ 1 ≤ (ringed true).inlineFree 0
    ∧ answers (exec (.inlineSend 5 (List.replicate 64 0)) (ringed true)) (fun t => t.fetched.length == 1 && t.out == [.ack 5 0]) = true := by
  and_intros
  all_goals decide +kernel
/-- A SEND-like request that is not supported, a write with a wrong key, packets in other states. -/
theorem witness_roce_refusals :
    answers (exec (.rocePacketRx 5 ⟨0, true, .unsupported⟩) (pair5 3 {}))
        (fun t => t.out.contains (.ack 5 2) && t.rd (qpCtrl_STATE 5) == 4 && t.rd (qpErr_ERR_CAUSE 5) == 5) = true
    ∧ answers (exec (.rocePacketRx 5 ⟨0, true, .unsupported⟩) (pair5 2 {})) (fun t => t.out.contains (.ack 5 2) && t.rd (qpCtrl_STATE 5) == 2) = true
    ∧ answers (exec (.rocePacketRx 5 ⟨0, true, .write 0 1 []⟩) ((pair5 3 {}).wr kenDb_RKEY 2)) (fun t => t.out == [.ack 5 3]) = true
    ∧ answers (exec (.rocePacketRx 5 ⟨0, true, .write 0 2 [3, 0, 0, 0, 0, 0, 0, 0]⟩) ((ringed false).wr kenDb_RKEY 2)) (fun t => t.rd (cmdIdx_PI 0) == 3) = true
    ∧ answers (exec (.rocePacketRx 5 ⟨0, true, .send []⟩) ((pair5 3 {}).wr pwr_CUR 2)) (fun t => t.out == [.ack 5 1]) = true
    ∧ answers (exec (.rocePacketRx 5 ⟨0, true, .rnrNak 1⟩) (pair5 3 {})) (fun t => (t.qp 5).rnrDue == some (100 + rnrWait 1)) = true
    ∧ answers (exec (.rocePacketRx 5 ⟨0, true, .nak 4⟩) (pair5 3 {})) (fun t => t.rd (qpErr_ERR_CAUSE 5) == 4) = true
    ∧ answers (exec (.rocePacketRx 5 ⟨0, true, .ack⟩) (pair5 2 {})) (fun t => t.out == []) = true
    ∧ answers (exec (.rocePacketRx 5 ⟨0, true, .ack⟩) (pair5 0 {})) (fun t => t.out == []) = true := by
  and_intros
  all_goals decide +kernel
theorem witness_doorbells :
    answers (exec (.doorbell 5 0 [3, 0, 0, 0, 3, 0, 0, 0]) (ringed false)) (fun t => t.rd kenCounts_DB_BAD == 1 && t.out == [.ack 5 0]) = true
    ∧ answers (exec (.doorbell 5 0 [3, 0, 0, 0, 0, 0, 0, 0]) ((ringed false).wr (cmdCfg_QP 0) 4)) (fun t => t.rd kenCounts_DB_DENIED == 1) = true
    ∧ answers (exec (.doorbell 5 0 [3, 0, 0, 0, 1, 0, 0, 0]) (((ringed false).wr (cplCfg_QP 0) 5).wr (cplCfg_LOG2SIZE 0) 8)) (fun t => t.rd (cplIdx_CI 0) == 3) = true
    ∧ answers (exec (.doorbell 5 0 [3, 0, 0, 0, 2, 0, 0, 0]) (((ringed false).wr (resCfg_QP 0) 5).wr (resCfg_LOG2SIZE 0) 8)) (fun t => t.rd (resIdx_CI 0) == 3) = true
    ∧ answers (exec (.doorbell 5 0 []) ((ringed false).wr pwr_CUR 2)) (fun t => t.out == [.ack 5 1]) = true
    ∧ answers (exec (.inlineSend 5 (List.replicate 65 0)) (ringed true)) (fun t => t.rd (qpErr_ERR_CAUSE 5) == 5) = true
    ∧ answers (exec (.inlineSend 5 (List.replicate 64 0)) (pair5 3 {})) (fun t => t.out == [.ack 5 1]) = true
    ∧ ((ringed true).wr (cmdCfg_LOG2SIZE 0) 6 |>.inlineFree 0) < 65
    ∧ (pair5 3 {}).inlineRing 5 = none := by
  and_intros
  all_goals decide +kernel
/-- A descriptor of ring 0 of an OPCODE with its words after the first. -/
def desc (op : Nat) (ws : List Word) : Desc := ⟨ref0 op, false, BitVec.ofNat 64 op :: ws⟩
/-- The same begun. -/
def began (d : Desc) : State := { ringed false with begun := [d], flying := [d.ref] }
/-- The same with completion ring 0 taking entries. -/
def completed (d : Desc) : State := (((began d).put (cplCfg_EN 0) true).wr (cplCfg_LOG2SIZE 0) 8).wr (cplCfg_QP 0) 5
theorem witness_descriptors : 1 ≤ ((ringed false).wr (cmdIdx_PI 0) 1).fetchable 0
    ∧ (ringed false).canRead 5 = true ∧ (ringed false).canWrite 5 = true ∧ (ringed false).kenperRuns = true
    ∧ answers (exec (.descriptorFetch 0) ((ringed false).wr (cmdIdx_PI 0) 1))
        (fun t => t.fetched.length == 0 && t.outReqs.map OutReq.kind == [.fetch 0 1] && t.out.length == 1) = true
    ∧ answers (exec (.descriptorFetch 0) (ringed true)) (fun t => t.outReqs == []) = true
    ∧ answers (exec (.rocePacketRx 5 ⟨0, true, .readResponse (List.replicate 64 0) true⟩)
          { (ringed false).wr (cmdIdx_PI 0) 1 with outReqs := [{ q := 5, psn := 0, kind := .fetch 0 1, sent := 90, left := 64 }] })
        (fun t => t.fetched.length == 1 && t.rd (cmdIdx_CI 0) == 1) = true
    ∧ (ringed false).cplBlocked 0 = false
    ∧ answers (exec (.descriptorBegin 0) { ringed false with fetched := [desc 0 []] }) (fun t => t.begun == [desc 0 []]) = true
    ∧ Begun (began (desc 0 [])) (desc 0 []) 0x00 ∧ knownOpcode 0x7F = false ∧ Begun (began (desc 0x7F [])) (desc 0x7F []) 0x7F
    ∧ answers (exec (.descNop (desc 0 [])) (began (desc 0 []))) (fun t => t.flying == []) = true
    ∧ answers (exec (.badDescriptor (desc 0x7F [])) (began (desc 0x7F []))) (fun t => t.flying == []) = true := by
  and_intros
  all_goals decide +kernel
/-- A fenced descriptor behind one in flight. -/
def fencedDesc : Desc := ⟨ref0 0, true, []⟩
theorem witness_descriptors_wait :
    answers (exec (.descriptorBegin 0) { ringed false with fetched := [fencedDesc], flying := [{ ref0 0 with tag := 1 }] })
        (fun t => t.begun == [] && t.fetched.length == 1) = true
    ∧ answers (exec (.descriptorBegin 0) { ringed false with fetched := [fencedDesc] }) (fun t => t.begun == [fencedDesc]) = true
    ∧ answers (exec (.descriptorBegin 0) { ringed false with fetched := [fencedDesc], begun := [desc 0 []] }) (fun t => t.fetched.length == 1) = true
    ∧ answers (exec (.descriptorBegin 0) (ringed false)) (fun t => t.begun == []) = true
    ∧ answers (exec (.descNop (desc 0 [])) (ringed false)) (fun t => t.begun == []) = true
    ∧ answers (exec .completionWrite (ringed false)) (fun t => t.out == []) = true := by
  and_intros
  all_goals decide +kernel
/-- Completion ring 0 of 256 entries on queue pair 5, with a completion waiting for it. -/
def completing : State :=
  { (((ringed false).put (cplCfg_EN 0) true).wr (cplCfg_LOG2SIZE 0) 8).wr (cplCfg_QP 0) 5 with
    cplWait := [(0, { opcode := 0, status := 0 })] }
theorem witness_completion : completing.cplDiscards 0 = false ∧ completing.cplReady 0 = true
    ∧ completing.acked { opcode := 0, status := 0 } = true
    ∧ answers (exec .completionWrite completing) (fun t => t.rd (cplIdx_PI 0) == 1 && t.cplWait == []) = true
    ∧ (completing.put (cplCfg_EN 0) false).cplDiscards 0 = true
    ∧ answers (exec .completionWrite (completing.put (cplCfg_EN 0) false)) (fun t => t.rd kenCounts_CPL_DISCARD == 1) = true := by
  and_intros
  all_goals decide +kernel
/-- REG_WRITE and PARAM of TIME.SYNC_LOAD := 9. -/
def oneWrite (op : Nat) : Desc := desc op [1, BitVec.ofNat 64 (Reg.addr ⟨.syncLoad, 0, 0, 0⟩), 9, 0, 0, 0, 0]
theorem witness_reg_write : (oneWrite 1).writes ≠ [] ∧ Begun (began (oneWrite 1)) (oneWrite 1) 0x01
    ∧ answers (exec (.regWrite (oneWrite 1)) (began (oneWrite 1))) (fun t => t.reg ⟨.syncLoad, 0, 0, 0⟩ == 9) = true
    ∧ (desc 1 []).writes = []
    ∧ (oneWrite 1).writes.all (fun w => ((ringed false).wr (qpCtrl_DOMAIN 5) 1).namesAddr ⟨1, true⟩ w.1 w.2) = false
    ∧ answers (exec (.param (oneWrite 2)) ((began (oneWrite 2)).modThread q0 (fun x => { x with st := .running })))
        (fun t => (t.thread q0).params.length == 1) = true := by
  and_intros
  all_goals decide +kernel
theorem witness_reg_write_fails :
    answers (exec (.regWrite (desc 1 [])) (completed (desc 1 []))) (fun t => t.cplWait.map (fun e => e.2.status) == [0x33]) = true
    ∧ answers (exec (.regWrite (oneWrite 1)) ((completed (oneWrite 1)).wr (qpCtrl_DOMAIN 5) 1)) (fun t => t.cplWait.map (fun e => e.2.status) == [0x22]) = true
    ∧ answers (exec (.regWrite (desc 1 [1, 0xFFFFFF8, 9, 0, 0, 0, 0])) (completed (desc 1 [1, 0xFFFFFF8, 9, 0, 0, 0, 0])))
        (fun t => t.cplWait.map (fun e => e.2.status) == [0x36]) = true
    ∧ answers (exec (.param (desc 2 [])) (completed (desc 2 []))) (fun t => t.cplWait.map (fun e => e.2.status) == [0x33]) = true
    ∧ answers (exec (.param (oneWrite 2)) ((completed (oneWrite 2)).wr (qpCtrl_DOMAIN 5) 1)) (fun t => t.cplWait.map (fun e => e.2.status) == [0x22]) = true
    ∧ answers (exec (.param (oneWrite 2)) ((completed (oneWrite 2)).modThread q0 (fun x => { x with params := List.replicate 16 param0 })))
        (fun t => t.cplWait.map (fun e => e.2.status) == [0x25]) = true
    ∧ answers (exec (.param (oneWrite 2)) (completed (oneWrite 2)))
        (fun t => t.reg ⟨.syncLoad, 0, 0, 0⟩ == 9 && t.cplWait.map (fun e => e.2.status) == [0]) = true := by
  and_intros
  all_goals decide +kernel
theorem witness_launch_feed : (ringed false).namesTile 0 0 = true
    ∧ answers (exec (.launch (desc 0x20 [0, 0, 1, 2, 3, 4])) (began (desc 0x20 [0, 0, 1, 2, 3, 4])))
        (fun t => (t.thread q0).lq.map Launch.args == [[1, 2, 3, 4]]) = true
    ∧ answers (exec (.launch (desc 0x20 [0])) ((began (desc 0x20 [0])).modThread q0 (fun x => { x with lq := List.replicate 4 launch0 })))
        (fun t => (t.thread q0).lq.length == 4) = true
    ∧ answers (exec (.feed (desc 0x30 [0, 0, 400, 0])) (began (desc 0x30 [0, 0, 400, 0])))
        (fun t => t.extents.map (fun e => e.2.count) == [100]) = true := by
  and_intros
  all_goals decide +kernel
/-- A FEED of 400 bytes for bobbin 0 of tile 0. -/
def feed0 : Desc := desc 0x30 [0, 0, 400, 0]
theorem witness_launch_feed_fails : (completed feed0).namesTile 1 0 = false
    ∧ answers (exec (.launch (desc 0x20 [0])) ((completed (desc 0x20 [0])).wr (qpCtrl_DOMAIN 5) 1)) (fun t => t.cplWait.map (fun e => e.2.status) == [0x22]) = true
    ∧ answers (exec (.launch (desc 0x20 [0])) ((completed (desc 0x20 [0])).modThread q0 (fun x => { x with lq := List.replicate 4 launch0 })))
        (fun t => t.cplWait.map (fun e => e.2.status) == [0x20]) = true
    ∧ answers (exec (.feed feed0) ((completed feed0).wr (qpCtrl_DOMAIN 5) 1)) (fun t => t.cplWait.map (fun e => e.2.status) == [0x22]) = true
    ∧ answers (exec (.feed feed0) { completed feed0 with feedEnd := [((0, 0), 4)] }) (fun t => t.cplWait.map (fun e => e.2.status) == [0x24]) = true
    ∧ answers (exec (.feed feed0)
          { completed feed0 with extents := List.replicate 64 ((0, 0), { ref := ref0 0x30, start := 0, count := 1, hostAddr := 0, rkey := 0 }) })
        (fun t => t.cplWait.map (fun e => e.2.status) == [0x25]) = true := by
  and_intros
  all_goals decide +kernel
/-- FRAME with one operation: set slot 1 to X = 1, Z = 0. -/
def frameDesc : Desc := desc 0x28 [BitVec.ofNat 64 (2 ^ 48), BitVec.ofNat 64 (1 + 512 + 2048)]
theorem witness_frame : Begun (began frameDesc) frameDesc 0x28 ∧ ((began frameDesc).ringReq 0).domain = 0
    ∧ answers (exec (.frame frameDesc) (began frameDesc)) (fun t => t.ledger == 8 && t.decTick.set == 12) = true := by
  and_intros
  all_goals decide +kernel
/-- FRAMEs without an operation, with one out of range, and one that came too late. -/
def frame0 : Desc := desc 0x28 [0, 0]
def frameFar : Desc := desc 0x28 [BitVec.ofNat 64 (2 ^ 48), BitVec.ofNat 64 384]
def frameLate : Desc := desc 0x28 [BitVec.ofNat 64 (2 ^ 48 + 2 ^ 32), BitVec.ofNat 64 1]
theorem witness_frame_fails :
    answers (exec (.frame frame0) (completed frame0)) (fun t => t.cplWait.map (fun e => e.2.status) == [0x33]) = true
    ∧ answers (exec (.frame frameFar) (completed frameFar)) (fun t => t.cplWait.map (fun e => e.2.status) == [0x24]) = true
    ∧ answers (exec (.frame frameDesc) ((completed frameDesc).wr (qpCtrl_DOMAIN 5) 1)) (fun t => t.cplWait.map (fun e => e.2.status) == [0x22]) = true
    ∧ ((completed frameLate).wr (patchRound_ROUND ((completed frameLate).rd pdcCfg_REF_PATCH)) 2).frameLag 0 = 2
    ∧ answers (exec (.frame frameLate) ((completed frameLate).wr (patchRound_ROUND ((completed frameLate).rd pdcCfg_REF_PATCH)) 2))
        (fun t => t.cplWait.map (fun e => e.2.status) == [0x23] && t.ledger == 0) = true := by
  and_intros
  all_goals decide +kernel
/-- LOAD of two data words of tile 0, and READ of one. -/
def loadDesc : Desc := desc 0x10 [0x20, 0, 16, 0, 0]
def readDesc : Desc := desc 0x11 [0x20, 0, 8, 0, 0]
theorem witness_transfers : spaceLoads (loadDesc.transfer 0).space = true ∧ (loadDesc.transfer 0).space = 2
    ∧ spaceRange (loadDesc.transfer 0).space (loadDesc.transfer 0).offset (loadDesc.transfer 0).length = false
    ∧ answers (exec (.load loadDesc) (began loadDesc)) (fun t => t.transfers.length == 1) = true
    ∧ (began readDesc).poisoned Space.data.locus 0 0 = false
    ∧ answers (exec (.read readDesc) (began readDesc)) (fun t => t.out.length == 1) = true
    ∧ (began loadDesc).bulkLane 9 = none
    ∧ answers (exec (.share { loadDesc with ref := ref0 0x12 }) (began { loadDesc with ref := ref0 0x12 }))
        (fun t => t.transfers == [] && t.begun == []) = true := by
  and_intros
  all_goals decide +kernel
/-- Transfers that are refused, a READ of the event log, and one of the trace buffer. -/
def loadBad : Desc := desc 0x10 [0xA0, 0, 16, 0, 0]
def loadFar : Desc := desc 0x10 [0x20, 0, 0x1000000, 0, 0]
def loadImage : Desc := desc 0x10 [0, 0, 64, 0, 0]
def readLog : Desc := desc 0x11 [0xA0, 0, 8, 0, 0]
def readTrace : Desc := desc 0x11 [0x80, 0, 8, 0, 0]
theorem witness_transfer_refusals : (loadImage.transfer 0).space = 0 ∧ (readLog.transfer 0).space = 0xA ∧ (readTrace.transfer 0).space = 8
    ∧ answers (exec (.load loadBad) (completed loadBad)) (fun t => t.cplWait.map (fun e => e.2.status) == [0x33]) = true
    ∧ answers (exec (.load loadFar) (completed loadFar)) (fun t => t.cplWait.map (fun e => e.2.status) == [0x24]) = true
    ∧ answers (exec (.load loadDesc) ((completed loadDesc).wr (qpCtrl_DOMAIN 5) 1)) (fun t => t.cplWait.map (fun e => e.2.status) == [0x22]) = true
    ∧ answers (exec (.load loadImage) ((completed loadImage).modThread q0 (fun x => { x with st := .running })))
        (fun t => t.cplWait.map (fun e => e.2.status) == [0x21]) = true
    ∧ answers (exec (.load loadImage) (completed loadImage)) (fun t => t.rd (ndlStatus_IMG_STATE 0) == 1 && t.transfers.length == 1) = true := by
  and_intros
  all_goals decide +kernel
theorem witness_reads :
    answers (exec (.read readLog) ((completed readLog).wr claimLog_HOLDER 0)) (fun t => t.cplWait.map (fun e => e.2.status) == [0x26]) = true
    ∧ answers (exec (.read readLog) { (completed readLog).wr claimLog_HOLDER 1 with evLog := { words := [{ w := 9 }, { w := 8 }] } })
        (fun t => t.evLog.words == [{ w := 8 }] && t.readWait.length == 1) = true
    ∧ answers (exec (.read readTrace) ((completed readTrace).put (traceCtrl_BUSY 0) true)) (fun t => t.cplWait.map (fun e => e.2.status) == [0x21]) = true
    ∧ answers (exec (.read readTrace) (completed readTrace)) (fun t => t.readWait.length == 1) = true
    ∧ ((completed readDesc).wr (qpCtrl_STATE 5) 2).canWrite 5 = false
    ∧ answers (exec (.read readDesc) ((completed readDesc).wr (qpCtrl_STATE 5) 2)) (fun t => t.begun.length == 1) = true := by
  and_intros
  all_goals decide +kernel
/-- SHAREs of data to device 9. -/
def shareDesc : Desc := { loadDesc with ref := ref0 0x12 }
theorem witness_share :
    answers (exec (.share shareDesc) (completed shareDesc)) (fun t => t.cplWait.map (fun e => e.2.status) == [0x35]) = true
    ∧ answers (exec (.share shareDesc) ((completed shareDesc).wr (qpCtrl_DOMAIN 5) 1)) (fun t => t.cplWait.map (fun e => e.2.status) == [0x22]) = true := by
  and_intros
  all_goals decide +kernel
/-- A LOAD of two data words in progress, eight bytes of it asked for. -/
def loading : State := { ringed false with
  transfers := [{ loadDesc.transfer 0 with asked := 16 }]
  outReqs := [{ q := 5, psn := 0, kind := .load (ref0 0x10), sent := 0, left := 16 }] }
theorem witness_load_data : 8 ≤ loading.awaited (ref0 0x10) ∧ loading.loadAt 0 0 = some (ref0 0x10)
    ∧ (loading.transfer (ref0 0x10)).isSome = true ∧ loading.loadAt 0 1 = none
    ∧ answers (exec (.loadData 0 0 [1, 0, 0, 0, 0, 0, 0, 0]) loading) (fun t => t.memWord .data 0 0 == 1) = true
    ∧ answers (exec (.shareAck 0 0 3) { loading with transfers := [{ loadDesc.transfer 0 with dest := some 9 }] })
        (fun t => t.transfers == []) = true := by
  and_intros
  all_goals decide +kernel
/-- A SHARE to device 9 in progress, with so much of its 16 bytes sent. -/
def sharing (done : Nat) (refused : Option Nat) : State :=
  { completed shareDesc with
    transfers := [{ shareDesc.transfer 0 with dest := some 9, done := done, refused := refused }] }
theorem witness_share_ends : (sharing 16 none).shareAt 0 0 ≠ none ∧ (completed shareDesc).shareAt 0 0 = none
    ∧ answers (exec (.shareAck 0 0 0) (sharing 16 none)) (fun t => t.transfers == [] && t.cplWait.map (fun e => e.2.status) == [0]) = true
    ∧ answers (exec (.shareAck 0 0 0) (sharing 8 none)) (fun t => t.transfers.length == 1) = true
    ∧ answers (exec (.shareAck 0 0 0) (sharing 16 (some 4))) (fun t => t.cplWait.map (fun e => (e.2.status, e.2.code)) == [(0x30, 4)]) = true
    ∧ answers (exec (.shareAck 0 0 3) (sharing 16 none)) (fun t => t.cplWait.map (fun e => (e.2.status, e.2.code)) == [(0x35, 3)]) = true
    ∧ answers (exec (.loadData 0 1 [1, 0, 0, 0, 0, 0, 0, 0]) loading) (fun t => t.mem == []) = true
    ∧ answers (exec (.loadData 0 0 [1, 0, 0, 0, 0, 0, 0, 0])
          { loading with transfers := [{ loadDesc.transfer 0 with asked := 16, done := 8 }] })
        (fun t => t.transfers == [] && t.memWord .data 0 1 == 1) = true := by
  and_intros
  all_goals decide +kernel
/-- The examples of chapter 15: T10.B13, its return, T10.D1, lane 19, MK21. -/
theorem test_balls : (Pin.bias 10 13 false).ball.name = "BV19" ∧ (Pin.bias 10 13 true).ball.name = "BV20"
    ∧ (Pin.drive 10 1 false).ball.name = "CG20" ∧ (Pin.eswTx 19 false).ball.name = "Y61"
    ∧ (Pin.eswRx 19 true).ball.name = "AA64" ∧ (Pin.mk 21).ball.name = "W59" ∧ Pin.tck.ball.name = "BK58"
    ∧ (Pin.coreSns true).ball.name = "AF33" := by
  and_intros
  all_goals decide
/-- The table of the groups in chapter 15. -/
theorem test_ball_counts : countBalls (fun b => decide (b.net = .signal)) = 1354
    ∧ countBalls (fun b => decide (b.net = .ground)) = 1641 ∧ countBalls (fun b => decide (b.net = .dnu)) = 96
    ∧ countBalls (fun b => decide (b.net = .supply .core)) = 511 := by
  and_intros
  all_goals decide +kernel
/-- The table of R397: the maximum powers sum to 235 W and give its currents; the junction of R409. -/
theorem test_ratings : (allRails.map Rail.maxPower).sum = 235000 ∧ (allRails.map Rail.typicalPower).sum = 175000
    ∧ Rail.core.maxCurrent = 90666 ∧ Rail.conv.maxCurrent = 81052 ∧ Rail.biasN.maxCurrent = 1416
    ∧ junctionAt 80000 235000 = 96450 := by
  and_intros
  all_goals decide
/-- A rail outside its operating limits is undefined case U8, and 850 mV is still endured. -/
theorem test_conditions : Conditions.undefinedCase {} = none
    ∧ Conditions.undefinedCase { rails := { core := 773 } } = some 8
    ∧ Conditions.endured { rails := { core := 850 } } = true
    ∧ Conditions.endured { rails := { core := 851 } } = false := by
  and_intros
  all_goals decide

end Sys2Proof.Tests
end

section
/-! SUPPORT. The PTP clock (02 R52-R60): register writes that land, the sending of messages, the servo,
reads of counters, and the clock at a tick edge; with them the statement about the PTP clock. -/

namespace Sys2Proof.Machine

open Fld Claim

/-! The arms of the commands of the PTP clock. -/

theorem exec_ptpIncrWrite (w : WriteOp) (s : State) : exec (.ptpIncrWrite w) s = execPtpIncrWrite w s := rfl
theorem exec_ptpStep (w : WriteOp) (s : State) : exec (.ptpStep w) s = execPtpStep w s := rfl
theorem exec_ptpSyncTx (s : State) : exec .ptpSyncTx s = execPtpSyncTx s := rfl
theorem exec_ptpDelayReqTx (s : State) : exec .ptpDelayReqTx s = execPtpDelayReqTx s := rfl
theorem exec_ptpMessageRx (m : PtpMessage) (s : State) : exec (.ptpMessageRx m) s = execPtpMessageRx m s := rfl
theorem exec_counterLowRead (req : Requester) (addr : Nat) (s : State) :
    exec (.counterLowRead req addr) s = execCounterLowRead req addr s := rfl

/-! Fields and writes that land. -/

/-- A field set to a truth value reads as that value. -/
theorem State.on_put_same (s : State) (f : RField) (b : Bool) (h : f.lo + f.width ≤ 64) (hw : 0 < f.width) :
    (s.put f b).on f = b := by
  have hone : 1 % 2 ^ f.width = 1 := Nat.mod_eq_of_lt (Nat.one_lt_two_pow (by omega))
  cases b <;> simp [State.on, State.put, State.rd_wr_same _ _ _ h, hone]

theorem finish_of_defined {s : State} (h : s.undef = none) : finish s = .next s := by
  simp [finish, h]

/-- A write that lands has the register's own behaviour, and the state goes on unless that behaviour meets
an undefined case. -/
theorem State.landRow_of_lands {s : State} {r : Reg} {w : WriteOp} (h : Lands s r w) :
    s.landRow r w = finish (s.landOn r w (s.merged r w)).1 := by
  obtain ⟨hexists, hreaches, hready, -⟩ := h
  have hlink : ¬ (r.onBiasDie = true ∧ s.bitAt dieStatus_BREADY r.die = false) :=
    fun ⟨hdie, hdown⟩ => by simp [hready hdie] at hdown
  simp [State.landRow, hexists, State.land, State.writeReg, hreaches, hlink]

/-! INCR (R54). -/

/-- A written value as R54 limits it. -/
def incrLimited (v : Nat) : Nat := max incrLow (min incrHigh v)

theorem incrLimited_lt (v : Nat) : incrLimited v < 2 ^ 40 := by
  unfold incrLimited incrLow incrHigh
  omega

theorem State.setIncr_eq (s : State) (v : Nat) :
    s.setIncr v = if incrLimited v = v then s.wr ptpIncr_INCR (incrLimited v)
      else (s.wr ptpIncr_INCR (incrLimited v)).bump ptpIncr_CLAMP_COUNT := rfl

theorem State.rd_INCR_setIncr (s : State) (v : Nat) :
    (s.setIncr v).rd ptpIncr_INCR = incrLimited v := by
  have hset : (s.wr ptpIncr_INCR (incrLimited v)).rd ptpIncr_INCR = incrLimited v := by
    rw [State.rd_wr_same _ _ _ (by decide), Nat.mod_eq_of_lt (incrLimited_lt v)]
  rw [State.setIncr_eq]
  split
  · exact hset
  · exact (State.rd_wr_apart _ ptpIncr_CLAMP_COUNT ptpIncr_INCR _ (by decide) rfl (by decide)).trans hset

theorem State.reg_setIncr_other (s : State) (v : Nat) (r : Reg) (h : r ≠ ⟨.ptpIncr, 0, 0, 0⟩) :
    (s.setIncr v).reg r = s.reg r := by
  have hset := State.reg_wr_other s ptpIncr_INCR r (incrLimited v) h
  rw [State.setIncr_eq]
  split
  · exact hset
  · exact (State.reg_wr_other _ ptpIncr_CLAMP_COUNT r _ h).trans hset

theorem State.undef_setIncr (s : State) (v : Nat) : (s.setIncr v).undef = s.undef := by
  rw [State.setIncr_eq]
  split <;> rfl

/-- A value that is limited counts. -/
theorem State.rd_CLAMP_COUNT_setIncr (s : State) (v : Nat) (h : incrLimited v ≠ v) :
    (s.setIncr v).rd ptpIncr_CLAMP_COUNT = min (s.rd ptpIncr_CLAMP_COUNT + 1) 65535 := by
  have hkept : (s.wr ptpIncr_INCR (incrLimited v)).rd ptpIncr_CLAMP_COUNT = s.rd ptpIncr_CLAMP_COUNT :=
    State.rd_wr_apart _ _ _ _ (by decide) rfl (by decide)
  rw [State.setIncr_eq, if_neg h, State.bump, State.bumpBy, hkept,
    State.rd_wr_same _ _ _ (by decide)]
  exact Nat.mod_eq_of_lt (Nat.lt_of_le_of_lt (Nat.min_le_right _ _) (by decide))

theorem exec_ptpIncrWrite_of_lands {s : State} {w : WriteOp} (h : Lands s ⟨.ptpIncr, 0, 0, 0⟩ w) :
    exec (.ptpIncrWrite w) s = .next (s.setIncr (bitsOf (s.merged ⟨.ptpIncr, 0, 0, 0⟩ w) 0 40)) := by
  have ⟨_, _, _, hdefined⟩ := h
  rw [exec_ptpIncrWrite, execPtpIncrWrite, State.landRow_of_lands h]
  exact finish_of_defined ((State.undef_setIncr _ _).trans hdefined)

/-! Steps of the clock (R55). -/

theorem State.on_PTP_LOCK_stepPtp (s : State) (v : Word) : (s.stepPtp v).on timeStatus_PTP_LOCK = false :=
  State.on_put_same s timeStatus_PTP_LOCK false (by decide) (by decide)

theorem exec_ptpStep_of_lands {s : State} {w : WriteOp} (h : Lands s ⟨.ptpStep, 0, 0, 0⟩ w) :
    exec (.ptpStep w) s = .next (s.stepPtp w.bits) := by
  have ⟨_, _, _, hdefined⟩ := h
  rw [exec_ptpStep, execPtpStep, State.landRow_of_lands h]
  exact finish_of_defined hdefined

/-! Sending (R52). -/

/-- Messages sent join what has been sent, the last of them in front. -/
theorem State.sendPtp_eq (s : State) (l : List PtpSent) :
    s.sendPtp l = { s with out := l.reverse.map Out.ptp ++ s.out } := by
  induction l generalizing s with
  | nil => rfl
  | cons m l ih =>
      have hcons : s.sendPtp (m :: l) = (s.send (.ptp m)).sendPtp l := rfl
      rw [hcons, ih]
      simp [State.send]

theorem State.mem_out_sendPtp (s : State) {l : List PtpSent} {m : PtpSent} (h : m ∈ l) :
    Out.ptp m ∈ (s.sendPtp l).out := by
  simp [State.sendPtp_eq, h]

/-- Announces leave the registers and the count and time of the Syncs. -/
theorem State.sendAnnounce_frame (s : State) :
    s.sendAnnounce.regs = s.regs ∧ s.sendAnnounce.ptpRun.syncAt = s.ptpRun.syncAt
      ∧ s.sendAnnounce.ptpRun.syncSeq = s.ptpRun.syncSeq := by
  unfold State.sendAnnounce
  split
  · simp [State.sendPtp_eq]
  · exact ⟨rfl, rfl, rfl⟩

/-- What has been sent stays sent. -/
theorem State.mem_out_sendAnnounce (s : State) {o : Out} (h : o ∈ s.out) : o ∈ s.sendAnnounce.out := by
  unfold State.sendAnnounce
  split
  · simp [State.sendPtp_eq, h]
  · exact h

/-- The first Announce goes to every partner. -/
theorem State.announce_mem_out_sendAnnounce (s : State) (h : s.ptpRun.announceAt = none) {p : Option Nat}
    (hp : p ∈ s.ptpPeers) : Out.ptp (s.announceMessage p) ∈ s.sendAnnounce.out := by
  have hdue : s.ptpRun.announceAt.all (fun k => decide (k + announceInterval ≤ s.tick)) = true := by rw [h]; rfl
  rw [State.sendAnnounce, if_pos hdue]
  exact s.mem_out_sendPtp (List.mem_map_of_mem hp)

/-- The state in which the Sync messages due have been sent. -/
def State.sentSync (s : State) : State :=
  let s' := s.sendPtp (s.ptpPeers.flatMap s.syncMessages)
  { s' with ptpRun := { s'.ptpRun with syncSeq := s.ptpRun.syncSeq + 1, syncAt := some s.tick } }

theorem exec_ptpSyncTx_of_due {s : State} (h : s.syncDue = true) :
    exec .ptpSyncTx s = .next s.sentSync.sendAnnounce := by
  rw [exec_ptpSyncTx, execPtpSyncTx, if_pos h]
  rfl

theorem exec_ptpSyncTx_of_not_due {s : State} (h : s.syncDue = false) : exec .ptpSyncTx s = .next s := by
  rw [exec_ptpSyncTx, execPtpSyncTx, h]
  rfl

/-- The Sync messages leave the registers, the partners and the Announce as they were. -/
theorem State.sentSync_frame (s : State) :
    s.sentSync.regs = s.regs ∧ s.sentSync.ptpRun.announceAt = s.ptpRun.announceAt
      ∧ s.sentSync.ptpPeers = s.ptpPeers ∧ s.sentSync.announceMessage = s.announceMessage := by
  rw [State.sentSync, State.sendPtp_eq]
  exact ⟨rfl, rfl, rfl, rfl⟩

theorem State.mem_out_sentSync (s : State) {p : Option Nat} (hp : p ∈ s.ptpPeers) {x : PtpSent}
    (hx : x ∈ s.syncMessages p) : Out.ptp x ∈ s.sentSync.out :=
  s.mem_out_sendPtp (List.mem_flatMap.mpr ⟨p, hp, hx⟩)

/-- The state in which a delay request of a kind has gone to partners, and the time it left is noted. -/
def State.sentRequest (s : State) (kind : Nat) (peers : List (Option Nat)) : State :=
  let s' := s.sendPtp (peers.map (fun p => s.ptpForm kind p s.ptpRun.reqSeq {}))
  { s' with ptpRun := { s'.ptpRun with
      reqSeq := s.ptpRun.reqSeq + 1, delay := some { seq := s.ptpRun.reqSeq, left := s.ptpLeaves } } }

theorem State.sentRequest_noted (s : State) (kind : Nat) (peers : List (Option Nat)) :
    (s.sentRequest kind peers).ptpRun.delay = some { seq := s.ptpRun.reqSeq, left := s.ptpLeaves }
      ∧ (s.sentRequest kind peers).ptpRun.reqSeq = s.ptpRun.reqSeq + 1
      ∧ (s.sentRequest kind peers).regs = s.regs := by
  rw [State.sentRequest, State.sendPtp_eq]
  exact ⟨rfl, rfl, rfl⟩

theorem State.mem_out_sentRequest (s : State) (kind : Nat) {peers : List (Option Nat)} {p : Option Nat}
    (hp : p ∈ peers) : Out.ptp (s.ptpForm kind p s.ptpRun.reqSeq {}) ∈ (s.sentRequest kind peers).out :=
  s.mem_out_sendPtp (List.mem_map_of_mem hp)

theorem State.out_sentRequest_single (s : State) (kind : Nat) (p : Option Nat) :
    (s.sentRequest kind [p]).out = .ptp (s.ptpForm kind p s.ptpRun.reqSeq {}) :: s.out := rfl

/-- Under the peer-to-peer mechanism a Pdelay_Req goes to every partner, whatever the role. -/
theorem exec_ptpDelayReqTx_peer {s : State} (hruns : s.ptpRuns = true) (hmech : s.on ptpCfg_DELAY_MECH = true) :
    exec .ptpDelayReqTx s = .next (s.sentRequest 0x2 s.ptpPeers) := by
  simp [exec_ptpDelayReqTx, execPtpDelayReqTx, hruns, hmech, State.sentRequest]

/-- A time receiver sends one Delay_Req, to the sender of the Sync it holds. -/
theorem exec_ptpDelayReqTx_receiver {s : State} (hruns : s.ptpRuns = true)
    (hmech : s.on ptpCfg_DELAY_MECH = false) (hrole : s.transmits = false) :
    exec .ptpDelayReqTx s
      = .next (s.sentRequest 0x1 [s.ptpRun.sync.bind (fun x => x.peer.map BitVec.toNat)]) := by
  simp [exec_ptpDelayReqTx, execPtpDelayReqTx, hruns, hmech, hrole, State.sentRequest]

theorem exec_ptpDelayReqTx_of_not_due {s : State}
    (h : s.ptpRuns = false ∨ s.on ptpCfg_DELAY_MECH = false ∧ s.transmits = true) :
    exec .ptpDelayReqTx s = .next s := by
  have hstays : (!s.ptpRuns || (!s.on ptpCfg_DELAY_MECH && s.transmits)) = true := by
    rcases h with h | ⟨hmech, hrole⟩
    · simp [h]
    · simp [hmech, hrole]
  simp [exec_ptpDelayReqTx, execPtpDelayReqTx, hstays]

/-! Messages received (R52, R53). -/

theorem exec_ptpMessageRx_of_not_taken {m : PtpMessage} {s : State}
    (h : ¬ (s.ptpRuns = true ∧ s.ptpTakes m = true)) : exec (.ptpMessageRx m) s = .next s := by
  have hleft : (!s.ptpRuns || !s.ptpTakes m) = true := by
    cases hruns : s.ptpRuns with
    | false => rfl
    | true =>
        cases htakes : s.ptpTakes m with
        | false => rfl
        | true => exact absurd ⟨hruns, htakes⟩ h
  rw [exec_ptpMessageRx, execPtpMessageRx, if_pos hleft]

section
variable {m : PtpMessage} {s : State} (htaken : s.ptpRuns = true ∧ s.ptpTakes m = true)
include htaken

theorem exec_ptpMessageRx_management (hbody : m.body = .management) : exec (.ptpMessageRx m) s = .next s := by
  simp [exec_ptpMessageRx, execPtpMessageRx, htaken, hbody, State.ptpReceive]

theorem exec_ptpMessageRx_delayReq {seq : BitVec 16} {corr : Int} (hbody : m.body = .delayReq seq corr)
    (hrole : s.transmits = true) (hmech : s.on ptpCfg_DELAY_MECH = false) :
    exec (.ptpMessageRx m) s
      = .next (s.send (.ptp (s.ptpForm 0x9 (m.peer.map BitVec.toNat) seq (s.ptpComes m.phase)))) := by
  simp [exec_ptpMessageRx, execPtpMessageRx, htaken, hbody, hrole, hmech, State.sendPtp, State.each]

theorem exec_ptpMessageRx_pdelayReq {seq : BitVec 16} {corr : Int} (hbody : m.body = .pdelayReq seq corr)
    (hmech : s.on ptpCfg_DELAY_MECH = true) :
    exec (.ptpMessageRx m) s = .next ((s.send (.ptp
      { s.ptpForm 0x3 (m.peer.map BitVec.toNat) seq (s.ptpComes m.phase) with twoStep := true })).send
      (.ptp (s.ptpForm 0xA (m.peer.map BitVec.toNat) seq s.ptpLeaves))) := by
  simp [exec_ptpMessageRx, execPtpMessageRx, htaken, hbody, hmech, State.sendPtp, State.each]

theorem exec_ptpMessageRx_announce {p1 p2 : BitVec 8} {quality : Int} {lower : Bool}
    (hbody : m.body = .announce p1 quality p2 lower) (hbetter : s.betterClock p1 quality p2 lower = true) :
    exec (.ptpMessageRx m) s = .next { s with ptpRun := { s.ptpRun with heard := some s.tick } } := by
  simp [exec_ptpMessageRx, execPtpMessageRx, htaken, hbody, hbetter]

theorem exec_ptpMessageRx_sync (hrole : s.transmits = false) {seq : BitVec 16} {two : Bool} {origin : PtpTime}
    {corr : Int} (hbody : m.body = .sync seq two origin corr) :
    exec (.ptpMessageRx m) s = .next (s.setSync
      (some ⟨seq, if two then none else some origin, s.ptpComes m.phase, corr, two, m.peer⟩)) := by
  simp [exec_ptpMessageRx, execPtpMessageRx, htaken, hbody, hrole, State.ptpReceive]

theorem exec_ptpMessageRx_delayResp (hrole : s.transmits = false) (hmech : s.on ptpCfg_DELAY_MECH = false)
    {seq : BitVec 16} {receipt : PtpTime} {corr : Int} (hbody : m.body = .delayResp seq receipt corr)
    (hasked : s.asked seq = true) :
    exec (.ptpMessageRx m) s
      = .next (s.setDelay (fun d => { d with receipt := some receipt, corr := corr })).exchanged := by
  simp [exec_ptpMessageRx, execPtpMessageRx, htaken, hbody, hrole, hmech, hasked, State.ptpReceive]

end

/-! The lock and the servo (R56). -/

/-- An offset below 50 ns lies below every larger threshold. -/
theorem not_above_of_small {x bound : Rat} (hsmall : x < 50 * 65536) (hbound : 50 * 65536 ≤ bound) :
    ¬ bound < x :=
  Rat.not_lt.mpr (Rat.le_trans (Rat.le_of_lt hsmall) hbound)

/-- The state with an offset counted as small or large, in a row. -/
def State.countOffset (s : State) (offset : Rat) : State :=
  { s with ptpGood := if decide (ratAbs offset < 50 * 65536) then s.ptpGood + 1 else 0,
           ptpBad := if decide (1000 * 65536 < ratAbs offset) then s.ptpBad + 1 else 0 }

/-- The same with PTP_LOCK set by the sixteenth small offset. -/
def State.lockBySmall (s : State) (offset : Rat) : State :=
  if 16 ≤ (s.countOffset offset).ptpGood then (s.countOffset offset).put timeStatus_PTP_LOCK true
  else s.countOffset offset

theorem State.ptpLock_eq (s : State) (offset : Rat) :
    s.ptpLock offset = if 4 ≤ (s.lockBySmall offset).ptpBad
      then (s.lockBySmall offset).put timeStatus_PTP_LOCK false else s.lockBySmall offset := rfl

/-- The lock thresholds leave the step that waits, the exchange and every register but TIME.STATUS. -/
theorem State.ptpLock_frame (s : State) (offset : Rat) :
    (s.ptpLock offset).ptpStepNext = s.ptpStepNext ∧ (s.ptpLock offset).ptpRun = s.ptpRun
      ∧ ∀ r, r ≠ ⟨.timeStatus, 0, 0, 0⟩ → (s.ptpLock offset).reg r = s.reg r := by
  have hput (x : State) (b : Bool) (r : Reg) (h : r ≠ ⟨.timeStatus, 0, 0, 0⟩) :
      (x.put timeStatus_PTP_LOCK b).reg r = x.reg r := State.reg_wr_other _ _ _ _ h
  have ⟨hstep, hrun, hother⟩ : (s.lockBySmall offset).ptpStepNext = s.ptpStepNext
      ∧ (s.lockBySmall offset).ptpRun = s.ptpRun
      ∧ ∀ r, r ≠ ⟨.timeStatus, 0, 0, 0⟩ → (s.lockBySmall offset).reg r = s.reg r := by
    unfold State.lockBySmall
    split
    · exact ⟨rfl, rfl, hput _ true⟩
    · exact ⟨rfl, rfl, fun _ _ => rfl⟩
  rw [State.ptpLock_eq]
  split
  · exact ⟨hstep, hrun, fun r h => (hput _ false r h).trans (hother r h)⟩
  · exact ⟨hstep, hrun, hother⟩

/-- The sixteenth small offset in a row sets PTP_LOCK. -/
theorem State.on_PTP_LOCK_ptpLock {s : State} {offset : Rat} (hsmall : ratAbs offset < 50 * 65536)
    (hgood : 15 ≤ s.ptpGood) : (s.ptpLock offset).on timeStatus_PTP_LOCK = true := by
  have hnotlarge : ¬ 1000 * 65536 < ratAbs offset := not_above_of_small hsmall (by decide +kernel)
  have hsixteen : 16 ≤ (s.countOffset offset).ptpGood := by
    simp only [State.countOffset, hsmall, decide_true, if_true]
    omega
  have hset : s.lockBySmall offset = (s.countOffset offset).put timeStatus_PTP_LOCK true := if_pos hsixteen
  have hnone : (s.lockBySmall offset).ptpBad = 0 := by
    rw [hset, State.put_ptpBad]
    simp [State.countOffset, hnotlarge]
  rw [State.ptpLock_eq, hnone, if_neg (by decide), hset]
  exact State.on_put_same _ timeStatus_PTP_LOCK true (by decide) (by decide)

theorem State.servo_of_large {s : State} {offset : Rat} (h : 1000000 * 65536 < ratAbs offset) :
    ∃ v, s.servo offset = s.stepPtp v := ⟨_, if_pos h⟩

theorem State.servo_of_not_large {s : State} {offset : Rat} (h : ¬ 1000000 * 65536 < ratAbs offset) :
    ∃ v, s.servo offset = s.wr ptpIncr_INCR v := ⟨_, if_neg h⟩

theorem State.ptpRun_servo (s : State) (offset : Rat) : (s.servo offset).ptpRun = s.ptpRun := by
  unfold State.servo
  dsimp only
  split <;> rfl

/-- A record formed leaves the clock, its step, the Sync held, the request and PTP_LOCK. -/
theorem State.formPtpRecord_frame (s : State) (words : List Word) :
    (s.formPtpRecord words).ptpStepNext = s.ptpStepNext
      ∧ (s.formPtpRecord words).ptpRun.sync = s.ptpRun.sync ∧ (s.formPtpRecord words).ptpRun.delay = s.ptpRun.delay
      ∧ (s.formPtpRecord words).on timeStatus_PTP_LOCK = s.on timeStatus_PTP_LOCK := by
  unfold State.formPtpRecord
  split
  · refine ⟨rfl, rfl, rfl, ?_⟩
    exact congrArg (· != 0) (State.rd_wr_other s kenCounts_PTP_DROP timeStatus_PTP_LOCK _ (by decide))
  · exact ⟨rfl, rfl, rfl, rfl⟩

/-- The state with the Sync held and the request used up. -/
def State.exchangeUsed (s : State) : State := { s with ptpRun := { s.ptpRun with sync := none, delay := none } }

/-- The state behind a complete exchange with its offset judged, before the servo or the host takes it. -/
def State.judged (s : State) (offset : Rat) : State := s.exchangeUsed.ptpLock offset

theorem State.exchanged_of_complete {s : State} {x : PtpExchange} (h : s.exchange = some x) :
    s.exchanged = if (s.judged x.offset).on ptpCfg_SERVO
      then (s.judged x.offset).formPtpRecord (ptpRecord x (s.judged x.offset).ft)
      else (s.judged x.offset).servo x.offset := by
  rw [State.exchanged, h]
  rfl

theorem State.on_SERVO_judged (s : State) (offset : Rat) :
    (s.judged offset).on ptpCfg_SERVO = s.on ptpCfg_SERVO := by
  obtain ⟨-, -, hother⟩ := s.exchangeUsed.ptpLock_frame offset
  unfold State.on State.rd State.judged
  rw [hother _ (by decide)]
  rfl

theorem State.judged_frame (s : State) (offset : Rat) :
    (s.judged offset).ptpStepNext = s.ptpStepNext ∧ (s.judged offset).ptpRun.sync = none
      ∧ (s.judged offset).ptpRun.delay = none := by
  obtain ⟨hstep, hrun, -⟩ := s.exchangeUsed.ptpLock_frame offset
  exact ⟨hstep, congrArg PtpRun.sync hrun, congrArg PtpRun.delay hrun⟩

/-- A complete exchange uses up the Sync and the request. -/
theorem State.exchanged_uses {s : State} {x : PtpExchange} (h : s.exchange = some x) :
    s.exchanged.ptpRun.sync = none ∧ s.exchanged.ptpRun.delay = none := by
  obtain ⟨-, hsync, hdelay⟩ := s.judged_frame x.offset
  rw [State.exchanged_of_complete h]
  split
  · obtain ⟨-, hs, hd, -⟩ := (s.judged x.offset).formPtpRecord_frame (ptpRecord x (s.judged x.offset).ft)
    exact ⟨hs.trans hsync, hd.trans hdelay⟩
  · rw [State.ptpRun_servo]
    exact ⟨hsync, hdelay⟩

/-- Fifteen good intervals and a sixteenth: the clock is locked, and no step is taken. -/
theorem State.exchanged_of_small {s : State} {x : PtpExchange} (h : s.exchange = some x)
    (hsmall : ratAbs x.offset < 50 * 65536) (hgood : 15 ≤ s.ptpGood) :
    s.exchanged.on timeStatus_PTP_LOCK = true ∧ s.exchanged.ptpStepNext = s.ptpStepNext := by
  obtain ⟨hstep, -, -⟩ := s.judged_frame x.offset
  have hlock : (s.judged x.offset).on timeStatus_PTP_LOCK = true := State.on_PTP_LOCK_ptpLock hsmall hgood
  rw [State.exchanged_of_complete h]
  split
  · obtain ⟨hn, -, -, hl⟩ := (s.judged x.offset).formPtpRecord_frame (ptpRecord x (s.judged x.offset).ft)
    exact ⟨hl.trans hlock, hn.trans hstep⟩
  · have hnotlarge : ¬ 1000000 * 65536 < ratAbs x.offset := not_above_of_small hsmall (by decide +kernel)
    obtain ⟨v, hservo⟩ := State.servo_of_not_large (s := s.judged x.offset) hnotlarge
    rw [hservo]
    refine ⟨(congrArg (· != 0) ?_).trans hlock, hstep⟩
    exact State.rd_wr_other _ ptpIncr_INCR timeStatus_PTP_LOCK _ (by decide)

/-- Above 1 ms the servo steps the clock, which is no longer locked. -/
theorem State.exchanged_of_large {s : State} {x : PtpExchange} (h : s.exchange = some x)
    (hlarge : 1000000 * 65536 < ratAbs x.offset) (hservo : s.on ptpCfg_SERVO = false) :
    s.exchanged.on timeStatus_PTP_LOCK = false ∧ s.exchanged.ptpStepNext.isSome = true := by
  obtain ⟨v, hstep⟩ := State.servo_of_large (s := s.judged x.offset) hlarge
  rw [State.exchanged_of_complete h, State.on_SERVO_judged, hservo, if_neg Bool.false_ne_true, hstep]
  exact ⟨State.on_PTP_LOCK_stepPtp _ _, rfl⟩

/-! Reads of counters (R58-R60). -/

/-- A read of a counter's low half: what a register of R58 can give, and what it pops. -/
theorem State.takeRead_of_shadowed (s : State) (req : Requester) {r : Reg} (h : r.name.shadowed = true) :
    (r.name = .rqData ∧ s.takeRead req r = ((s.popRq r.i).1, .ok, (s.popRq r.i).2))
      ∨ (r.name = .tdcQData ∧ s.takeRead req r = s.popTdc r.i req.domain)
      ∨ (r.name = .logData ∧ s.takeRead req r = s.popLog req.domain)
      ∨ (r.name = .ptpNs ∧ s.takeRead req r = (s.wr ptpFrac_FRAC s.ptpFrac.toNat, .ok, s.ptpNs))
      ∨ (r.name ≠ .ptpNs ∧ s.takeRead req r = (s, .ok, s.view r)) := by
  unfold State.takeRead
  dsimp only
  split
  case h_1 hn => exact .inl ⟨hn, rfl⟩
  case h_2 hn => exact .inr (.inl ⟨hn, rfl⟩)
  case h_3 hn => exact .inr (.inr (.inl ⟨hn, rfl⟩))
  case h_4 hn => exact .inr (.inr (.inr (.inl ⟨hn, rfl⟩)))
  case h_9 hn _ _ _ _ => exact .inr (.inr (.inr (.inr ⟨hn, rfl⟩)))
  all_goals
    rename_i hn
    rw [hn] at h
    cases h

/-- What no read of a counter changes: forest time, the memories and the threads. -/
def State.SameCore (s t : State) : Prop := t.ft = s.ft ∧ t.mem = s.mem ∧ t.threads = s.threads

theorem State.sameCore_popRq (s : State) (n : Nat) : s.SameCore (s.popRq n).1 := by
  unfold State.popRq
  dsimp only
  split
  · exact ⟨rfl, rfl, rfl⟩
  · split
    · exact ⟨rfl, rfl, rfl⟩
    · dsimp only
      split <;> exact ⟨rfl, rfl, rfl⟩

theorem State.sameCore_popTdc (s : State) (u domain : Nat) : s.SameCore (s.popTdc u domain).1 := by
  unfold State.popTdc
  split
  · exact ⟨rfl, rfl, rfl⟩
  · dsimp only
    split
    · exact ⟨rfl, rfl, rfl⟩
    · split <;> exact ⟨rfl, rfl, rfl⟩

theorem State.sameCore_popLog (s : State) (domain : Nat) : s.SameCore (s.popLog domain).1 := by
  unfold State.popLog
  split
  · exact ⟨rfl, rfl, rfl⟩
  · dsimp only
    split
    · exact ⟨rfl, rfl, rfl⟩
    · split <;> exact ⟨rfl, rfl, rfl⟩

theorem State.sameCore_takeRead (s : State) (req : Requester) {r : Reg} (h : r.name.shadowed = true) :
    s.SameCore (s.takeRead req r).1 := by
  rcases s.takeRead_of_shadowed req h with ⟨-, e⟩ | ⟨-, e⟩ | ⟨-, e⟩ | ⟨-, e⟩ | ⟨-, e⟩ <;> rw [e]
  · exact s.sameCore_popRq r.i
  · exact s.sameCore_popTdc r.i req.domain
  · exact s.sameCore_popLog req.domain
  · exact ⟨rfl, rfl, rfl⟩
  · exact ⟨rfl, rfl, rfl⟩

/-- A read that pops nothing changes no register but TIME.PTP_FRAC. -/
theorem State.onlyRegs_takeRead (s : State) (req : Requester) {r : Reg} (h : r.name.shadowed = true)
    (hrq : r.name ≠ .rqData) (htdc : r.name ≠ .tdcQData) (hlog : r.name ≠ .logData) :
    OnlyRegs s (s.takeRead req r).1 [⟨.ptpFrac, 0, 0, 0⟩] := by
  intro o ho
  rcases s.takeRead_of_shadowed req h with ⟨hn, -⟩ | ⟨hn, -⟩ | ⟨hn, -⟩ | ⟨-, e⟩ | ⟨-, e⟩
  · exact absurd hn hrq
  · exact absurd hn htdc
  · exact absurd hn hlog
  · rw [e]
    exact State.reg_wr_other s ptpFrac_FRAC o _ (by simpa using ho)
  · rw [e]

theorem State.takeRead_timeNow (s : State) (req : Requester) {r : Reg} (h : r.name = .timeNow) :
    s.takeRead req r = (s, .ok, s.ft) := by
  simp [State.takeRead, State.view, h]

theorem State.takeRead_ptpNs (s : State) (req : Requester) {r : Reg} (h : r.name = .ptpNs) :
    s.takeRead req r = (s.wr ptpFrac_FRAC s.ptpFrac.toNat, .ok, s.ptpNs) := by
  simp [State.takeRead, h]

/-- Only the seam channels are read under ownership, and none of them is a counter. -/
theorem State.mayRead_of_shadowed (s : State) (req : Requester) {r : Reg} (h : r.name.shadowed = true) :
    s.mayRead req r = true := by
  unfold State.mayRead
  split
  case h_1 hn =>
    rw [hn] at h
    cases h
  case h_2 => rfl

/-- The high half that a low read of a register keeps. -/
def highKept (r : Reg) (w : Word) : BitVec 32 :=
  BitVec.ofNat 32 ((w &&& ~~~(BitVec.ofNat 64 (r.name.mask (fun a => a == .wo)))).toNat / 2 ^ 32)

theorem highKept_timeNow {r : Reg} (h : r.name = .timeNow) (w : Word) :
    highKept r w = BitVec.ofNat 32 (w.toNat / 2 ^ 32) := by
  have hmask : ~~~(BitVec.ofNat 64 (RegName.timeNow.mask (fun a => a == .wo))) = BitVec.allOnes 64 := by decide
  rw [highKept, h, hmask, BitVec.and_allOnes]

/-- A low read of a counter that is reached takes its value, and unless that is denied keeps its high half. -/
theorem State.readReg_low_of_shadowed (s : State) (req : Requester) {r : Reg} (h : r.name.shadowed = true)
    (hdie : r.onBiasDie = false) (hreaches : s.reaches req.domain r (s.reg r) = true) :
    (s.readReg req r .low).1 = if (s.takeRead req r).2.1 = .ok
      then { (s.takeRead req r).1 with
        shadows := Tab.set (s.takeRead req r).1.shadows r (highKept r (s.takeRead req r).2.2) }
      else (s.takeRead req r).1 := by
  simp only [State.readReg, hreaches, s.mayRead_of_shadowed req h, hdie, h]
  by_cases hok : (s.takeRead req r).2.1 = .ok <;> simp [hok, highKept]

theorem exec_counterLowRead_of_shadowed {s : State} {req : Requester} {addr : Nat} {r : Reg}
    (haddr : Reg.ofAddr addr = some r) (h : r.name.shadowed = true) :
    exec (.counterLowRead req addr) s = .next (s.readReg req r .low).1 := by
  simp [exec_counterLowRead, execCounterLowRead, haddr, h]

theorem exec_counterLowRead_of_plain {s : State} {req : Requester} {addr : Nat} {r : Reg}
    (haddr : Reg.ofAddr addr = some r) (h : r.name.shadowed = false) :
    exec (.counterLowRead req addr) s = .next s := by
  simp [exec_counterLowRead, execCounterLowRead, haddr, h]

theorem State.sameCore_readReg_low (s : State) (req : Requester) {r : Reg} (h : r.name.shadowed = true)
    (hdie : r.onBiasDie = false) (hreaches : s.reaches req.domain r (s.reg r) = true) :
    s.SameCore (s.readReg req r .low).1 := by
  rw [s.readReg_low_of_shadowed req h hdie hreaches]
  split <;> exact s.sameCore_takeRead req h

theorem State.reg_readReg_low (s : State) (req : Requester) {r : Reg} (h : r.name.shadowed = true)
    (hdie : r.onBiasDie = false) (hreaches : s.reaches req.domain r (s.reg r) = true) (o : Reg) :
    (s.readReg req r .low).1.reg o = (s.takeRead req r).1.reg o := by
  rw [s.readReg_low_of_shadowed req h hdie hreaches]
  split <;> rfl

theorem State.shadow_readReg_low_timeNow (s : State) (req : Requester) {r : Reg} (hn : r.name = .timeNow)
    (hdie : r.onBiasDie = false) (hreaches : s.reaches req.domain r (s.reg r) = true) :
    (s.readReg req r .low).1.shadow r = BitVec.ofNat 32 (s.ft.toNat / 2 ^ 32) := by
  have hshadowed : r.name.shadowed = true := by rw [hn]; rfl
  rw [s.readReg_low_of_shadowed req hshadowed hdie hreaches, s.takeRead_timeNow req hn, highKept_timeNow hn]
  exact Tab.get_set_same _ _ _ _

/-- A low read of TIME.PTP_NS captures the fraction (R59). -/
theorem State.rd_FRAC_readReg_low_ptpNs (s : State) (req : Requester) {r : Reg} (hn : r.name = .ptpNs)
    (hdie : r.onBiasDie = false) (hreaches : s.reaches req.domain r (s.reg r) = true) :
    (s.readReg req r .low).1.rd ptpFrac_FRAC = s.ptpFrac.toNat := by
  have hshadowed : r.name.shadowed = true := by rw [hn]; rfl
  rw [State.rd, s.reg_readReg_low req hshadowed hdie hreaches, s.takeRead_ptpNs req hn]
  exact (s.rd_wr_same ptpFrac_FRAC _ (by decide)).trans (Nat.mod_eq_of_lt s.ptpFrac.isLt)

/-! The clock at a tick edge (R54, R55). -/

/-- The clock's new value, before it is cut to the 96 bits that hold it. -/
def State.ptpSum (s : State) : Nat :=
  s.ptpNow + (s.ptpStepNext.getD 0).toNat * 2 ^ 32 + s.rd ptpIncr_INCR

theorem State.ptpTick_clock (s : State) :
    s.ptpTick.ptpNs = BitVec.ofNat 64 (s.ptpSum / 2 ^ 32) ∧ s.ptpTick.ptpFrac = BitVec.ofNat 32 s.ptpSum
      ∧ s.ptpTick.ptpStepNext = none := by
  unfold State.ptpTick
  dsimp only
  split <;> split <;> exact ⟨rfl, rfl, rfl⟩

/-- The bookkeeping of a tick edge, before the clocks that the PLL drives. -/
abbrev State.edgeBegun (s : State) : State :=
  { s with tick := s.tick + 1, phase := 0, lostNow := [], delivered := [], ftWas := s.ft, decTick := {} }

/-- A tick edge under a locked PLL gives the PTP clock its tick. -/
theorem State.clocks_of_locked {s : State} (h : s.on timeStatus_PLL_LOCK = true) :
    s.clocks.ptpNs = BitVec.ofNat 64 (s.ptpSum / 2 ^ 32) ∧ s.clocks.ptpFrac = BitVec.ofNat 32 s.ptpSum
      ∧ s.clocks.ptpStepNext = none := by
  have htick := State.ptpTick_clock { s.edgeBegun with ft := s.ft + 1 }
  have hlock : s.edgeBegun.on timeStatus_PLL_LOCK = true := h
  unfold State.clocks
  dsimp only
  rw [if_pos hlock]
  split <;> exact htick

/-- A count put into whole nanoseconds and a fraction is cut to 96 bits. -/
theorem nanoseconds_and_fraction (n : Nat) :
    (BitVec.ofNat 64 (n / 2 ^ 32)).toNat * 2 ^ 32 + (BitVec.ofNat 32 n).toNat = n % 2 ^ 96 := by
  simp only [BitVec.toNat_ofNat]
  omega

/-- A step added to the whole nanoseconds before or after the increment gives one value in 96 bits. -/
theorem State.ptpSum_mod (s : State) :
    s.ptpSum % 2 ^ 96 = ((s.ptpNs + s.ptpStepNext.getD 0).toNat * 2 ^ 32 + s.ptpFrac.toNat
      + s.rd ptpIncr_INCR) % 2 ^ 96 := by
  simp only [State.ptpSum, State.ptpNow, BitVec.toNat_add]
  omega

end Sys2Proof.Machine

namespace Sys2Proof

open Machine Fld Claim

/-- R54, R55: the step that waits is taken, then INCR is added. -/
theorem thePtpClockCountsEveryTick : ThePtpClockCountsEveryTick := by
  refine ⟨by decide, fun s hlock => ?_⟩
  obtain ⟨hns, hfrac, hstep⟩ := State.clocks_of_locked hlock
  refine ⟨?_, hstep⟩
  rw [hns, hfrac, nanoseconds_and_fraction, State.ptpSum_mod]

/-- R52-R60: each command of the PTP clock by the lemma that says what it does. -/
theorem thePtpClockIsSetStepped : ThePtpClockIsSetStepped := by
  intro w m s v p2p peer taken
  refine ⟨fun hlands => ?incr, fun hlands => ?step, fun hdue => ?sync, exec_ptpSyncTx_of_not_due,
    fun hruns hrole => ?request, exec_ptpDelayReqTx_of_not_due, exec_ptpMessageRx_of_not_taken,
    exec_ptpMessageRx_management, fun ht seq corr => exec_ptpMessageRx_delayReq ht,
    fun ht seq corr => exec_ptpMessageRx_pdelayReq ht, fun ht p1 quality p2 lower => exec_ptpMessageRx_announce ht,
    fun ht hrole seq two origin corr => exec_ptpMessageRx_sync ht hrole,
    fun ht hrole hmech seq receipt corr x hbody hasked hx => ?exchange,
    fun req addr r haddr hshadowed hdie hreaches => ?read, fun req addr r => exec_counterLowRead_of_plain⟩
  case incr =>
    refine ⟨_, exec_ptpIncrWrite_of_lands hlands, s.rd_INCR_setIncr v, fun r hr => ?_, fun hlimited => ?_⟩
    · exact s.reg_setIncr_other v r (by simpa using hr)
    · exact s.rd_CLAMP_COUNT_setIncr v (s.rd_INCR_setIncr v ▸ hlimited)
  case step =>
    refine ⟨_, exec_ptpStep_of_lands hlands, rfl, s.on_PTP_LOCK_stepPtp w.bits, fun r hr => ?_⟩
    exact State.reg_wr_other s timeStatus_PTP_LOCK r _ (by simpa using hr)
  case sync =>
    obtain ⟨hregs, hat, hpeers, hmessage⟩ := s.sentSync_frame
    obtain ⟨hkept, hsyncAt, hsyncSeq⟩ := s.sentSync.sendAnnounce_frame
    refine ⟨_, exec_ptpSyncTx_of_due hdue, fun p hp x hx => ?_, fun hfirst p hp => ?_,
      hsyncAt, hsyncSeq, hkept.trans hregs⟩
    · exact State.mem_out_sendAnnounce _ (s.mem_out_sentSync hp hx)
    · rw [← hmessage]
      exact State.announce_mem_out_sendAnnounce _ (hat.trans hfirst) (hpeers ▸ hp)
  case request =>
    cases hmech : s.on ptpCfg_DELAY_MECH with
    | true =>
        exact ⟨_, exec_ptpDelayReqTx_peer hruns hmech, fun _ p hp => s.mem_out_sentRequest 0x2 hp,
          fun hnot => absurd hmech (Bool.eq_false_iff.mp hnot), s.sentRequest_noted _ _⟩
    | false =>
        have hnot : ¬ s.on ptpCfg_DELAY_MECH = true := Bool.eq_false_iff.mp hmech
        exact ⟨_, exec_ptpDelayReqTx_receiver hruns hmech (hrole.resolve_left hnot),
          fun hp2p => absurd hp2p hnot, fun _ => ⟨_, s.out_sentRequest_single 0x1 _⟩, s.sentRequest_noted _ _⟩
  case exchange =>
    obtain ⟨hsync, hdelay⟩ := State.exchanged_uses hx
    exact ⟨_, exec_ptpMessageRx_delayResp ht hrole hmech hbody hasked, hsync, hdelay,
      State.exchanged_of_small hx, State.exchanged_of_large hx⟩
  case read =>
    obtain ⟨hft, hmem, hthreads⟩ := s.sameCore_readReg_low req hshadowed hdie hreaches
    refine ⟨_, exec_counterLowRead_of_shadowed haddr hshadowed, hft, hmem, hthreads,
      fun hrq htdc hlog o ho => ?_, fun hn => s.shadow_readReg_low_timeNow req hn hdie hreaches,
      fun hn => s.rd_FRAC_readReg_low_ptpNs req hn hdie hreaches⟩
    rw [s.reg_readReg_low req hshadowed hdie hreaches]
    exact s.onlyRegs_takeRead req hshadowed hrq htdc hlog o ho

/-- Settles O42: the commands of the PTP clock one by one, and the clock's count at a tick edge. -/
theorem thePtpClockIsSteppedAndSteered : Obligations.ThePtpClockIsSteppedAndSteered :=
  ⟨thePtpClockIsSetStepped, thePtpClockCountsEveryTick⟩

end Sys2Proof
end

section
/-! SUPPORT. What an issue leaves unchanged, and what a program error of issue does (03 R70, R72, R87, R95). -/

namespace Sys2Proof.Machine

open Fld Claim

/-! What an issue leaves. -/

/-- A thread that can issue is Running. -/
theorem running_of_ready {s : State} {q : Thr} (h : Ready s q) : (s.thread q).st = .running := by
  obtain ⟨hissue, -⟩ := h
  simp only [State.canIssue, Bool.and_eq_true, decide_eq_true_eq] at hissue
  obtain ⟨⟨⟨hrun, -⟩, -⟩, -⟩ := hissue
  exact hrun

/-- What holds of the outcome on the issued state holds of the issue. -/
theorem ends_issueThen_of_ready {s : State} {q : Thr} (h : Ready s q) {c : Nat}
    {k : State → Host.Outcome State Fault Refusal} {P : State → Prop} (hk : Ends (k (s.issued q c)) P) :
    Ends (s.issueThen q c k) P := by
  rwa [State.issueThen_of_ready h.1 h.2]

theorem ends_run_of_ready {s : State} {q : Thr} (h : Ready s q) {c : Nat} {f : Thread → Thread}
    {P : State → Prop} (hP : P ((s.issued q c).modThread q f)) : Ends (s.run q c f) P :=
  ends_issueThen_of_ready h ⟨_, rfl, hP⟩

@[simp] theorem State.issued_tick (s : State) (q : Thr) (c : Nat) : (s.issued q c).tick = s.tick := by
  rw [s.issued_frame q c]

@[simp] theorem State.issued_ft (s : State) (q : Thr) (c : Nat) : (s.issued q c).ft = s.ft := by
  rw [s.issued_frame q c]

@[simp] theorem State.issued_regs (s : State) (q : Thr) (c : Nat) : (s.issued q c).regs = s.regs := by
  rw [s.issued_frame q c]

@[simp] theorem State.issued_mem (s : State) (q : Thr) (c : Nat) : (s.issued q c).mem = s.mem := by
  rw [s.issued_frame q c]

@[simp] theorem State.issued_bars (s : State) (q : Thr) (c : Nat) : (s.issued q c).bars = s.bars := by
  rw [s.issued_frame q c]

@[simp] theorem State.issued_shots (s : State) (q : Thr) (c : Nat) : (s.issued q c).shots = s.shots := by
  rw [s.issued_frame q c]

@[simp] theorem State.issued_nextShot (s : State) (q : Thr) (c : Nat) :
    (s.issued q c).nextShot = s.nextShot := by
  rw [s.issued_frame q c]

@[simp] theorem State.issued_undef (s : State) (q : Thr) (c : Nat) : (s.issued q c).undef = s.undef := by
  rw [s.issued_frame q c]

/-- An issue with a new value of its thread changes that thread only. -/
theorem onlyThread_issued_setThread (s : State) (q : Thr) (c : Nat) (x : Thread) :
    OnlyThread s ((s.issued q c).setThread q x) q := by
  refine ⟨?_, fun p hp => ?_⟩
  · rw [s.issued_frame q c]
    rfl
  · rw [State.thread_setThread_ne _ _ _ _ hp, State.issued_thread_ne _ _ _ _ hp]

/-! Program errors (R87, R90, R95). -/

/-- What every step of a fold keeps, the fold keeps. -/
theorem State.each_keeps {α : Type} {P : State → Prop} {f : State → α → State}
    (hstep : ∀ s a, P s → P (f s a)) (l : List α) (s : State) (h : P s) : P (s.each l f) := by
  induction l generalizing s with
  | nil => exact h
  | cons a l ih => exact ih _ (hstep s a h)

/-- A thread's state and the device tick, which leaving a shot does not touch. -/
def SameStateAndTick (q : Thr) (s t : State) : Prop := (t.thread q).st = (s.thread q).st ∧ t.tick = s.tick

/-- A change of a thread that keeps its state. -/
theorem sameStateAndTick_modThread {q p : Thr} {s t : State} {f : Thread → Thread}
    (hf : ∀ x, (f x).st = x.st) (h : SameStateAndTick q s t) : SameStateAndTick q s (t.modThread p f) := by
  obtain ⟨hst, htick⟩ := h
  refine ⟨?_, htick⟩
  by_cases hp : q = p
  · subst hp
    rw [State.thread_modThread_same, hf, hst]
  · rw [State.thread_modThread_ne _ _ _ _ hp, hst]

theorem sameStateAndTick_dropShot (q : Thr) (s : State) (id : Nat) : SameStateAndTick q s (s.dropShot id) := by
  show SameStateAndTick q s (s.cancelWindowsOf id)
  unfold State.cancelWindowsOf
  refine State.each_keeps (fun t a ht => sameStateAndTick_modThread (fun x => ?_) ht) _ _ ⟨rfl, rfl⟩
  split <;> rfl

theorem sameStateAndTick_leaveShot (q : Thr) (s : State) : SameStateAndTick q s (s.leaveShot q) := by
  unfold State.leaveShot
  split
  · exact ⟨rfl, rfl⟩
  · rename_i id _
    have hleft : SameStateAndTick q s ((s.modShot id (fun x =>
        { x with parts := x.parts.filter (fun p => p.thr != q) })).modThread q
        (fun t => { t with shot := none, prevShot := none })) :=
      sameStateAndTick_modThread (fun _ => rfl) ⟨rfl, rfl⟩
    dsimp only
    split
    · split
      · obtain ⟨hst, htick⟩ := sameStateAndTick_dropShot q _ id
        exact ⟨hst.trans hleft.1, htick.trans hleft.2⟩
      · exact hleft
    · exact hleft

/-- A fault that ends a running launch (R70, R95). -/
theorem State.endLaunch_of_running {s : State} {q : Thr} (h : (s.thread q).st = .running) (code : Nat) :
    s.endLaunch q code = s.setThread q { s.thread q with
      st := .faulted, queue := [], wait := none, hold := none, opening := none, rewind := none,
      inBlock := false, shot := none, prio := 0, faultDue := some (code, s.tick + 2000) } := by
  simp [State.endLaunch, h]

/-- A program error of a running thread ends its launch in the tick of its issue. -/
theorem State.programError_of_running {s : State} {q : Thr} (h : (s.thread q).st = .running) (code : Nat) :
    Errs (s.programError q code) q code ∧ (s.programError q code).tick = s.tick := by
  obtain ⟨hst, htick⟩ := sameStateAndTick_leaveShot q s
  rw [State.programError, State.endLaunch_of_running (hst.trans h)]
  simp [Errs, htick]

theorem running_issued {s : State} {q : Thr} (h : Ready s q) (c : Nat) :
    ((s.issued q c).thread q).st = .running := by
  rw [State.issued_thread_same]
  exact running_of_ready h

/-- The program error of an issued instruction. -/
theorem errs_issued {s : State} {q : Thr} (h : Ready s q) (c code : Nat) :
    Errs ((s.issued q c).programError q code) q code :=
  (State.programError_of_running (running_issued h c) code).1

theorem faultDue_issued {s : State} {q : Thr} (h : Ready s q) (c code : Nat) :
    (((s.issued q c).programError q code).thread q).st = .faulted
      ∧ (((s.issued q c).programError q code).thread q).faultDue = some (code, s.tick + 2000) := by
  obtain ⟨⟨hst, hdue, -, -⟩, htick⟩ := State.programError_of_running (running_issued h c) code
  rw [htick, State.issued_tick] at hdue
  exact ⟨hst, hdue⟩

theorem ends_errs {s : State} {q : Thr} (h : Ready s q) (c code : Nat) :
    Ends (s.issueThen q c (fun s => .next (s.programError q code))) (fun t => Errs t q code) :=
  ends_issueThen_of_ready h ⟨_, rfl, errs_issued h c code⟩

end Sys2Proof.Machine
end

section
/-! SUPPORT. Control flow of a needle (03 R71, R73, R76, R78, R79, R87): branches, the loop counters, the return
stack, and the instructions that are illegal at issue; with them the statement about control flow. -/

namespace Sys2Proof.Machine

open Fld Claim

/-! Branches (R73, R76, R87). -/

/-- An issue of cost 4 that gives its thread a new PC and nothing else. -/
theorem wentTo_issued {s : State} {q : Thr} {x : Thread} {pc : Nat}
    (hx : x = { Issued (s.thread q) s.tick 4 with pc := pc }) : WentTo s ((s.issued q 4).setThread q x) q pc :=
  ⟨onlyThread_issued_setThread s q 4 x, (State.thread_setThread_same _ _ _).trans hx⟩

/-- A branch goes to TARGET when it is taken, else to the next word. -/
theorem ends_branch {s : State} {q : Thr} (h : Ready s q) (taken : Thread → Bool) (target : BitVec 17) {c : Prop}
    (hc : taken (Issued (s.thread q) s.tick 4) = true ↔ c) :
    Ends (s.run q 4 (fun t => t.branch (taken t) target))
      (fun t => (c → WentTo s t q target.toNat) ∧ (¬ c → WentTo s t q ((s.thread q).pc + 1))) := by
  refine ends_run_of_ready h ⟨fun hyes => wentTo_issued ?_, fun hno => wentTo_issued ?_⟩
  · rw [State.issued_thread_same]
    exact if_pos (hc.mpr hyes)
  · rw [State.issued_thread_same]
    exact if_neg (fun htaken => hno (hc.mp htaken))

/-- A jump sets PC. -/
theorem ends_goto {s : State} {q : Thr} (h : Ready s q) (pc : Thread → Nat) :
    Ends (s.run q 4 (fun t => { t with pc := pc t }))
      (fun t => WentTo s t q (pc (Issued (s.thread q) s.tick 4))) := by
  refine ends_run_of_ready h (wentTo_issued ?_)
  rw [State.issued_thread_same]
  rfl

/-- AUX names a VALUE bit below 32 only (06 R179). -/
theorem valueBit_of_lt {aux : BitVec 6} (h : aux.toNat < 32) (w : Word) : valueBit w aux = w.getLsbD aux.toNat :=
  if_pos h

theorem valueBit_of_le {aux : BitVec 6} (h : 32 ≤ aux.toNat) (w : Word) : valueBit w aux = false :=
  if_neg (Nat.not_lt.mpr h)

/-! The loop counters and the return stack (R87). -/

/-- A branch changes PC only. -/
theorem Thread.branch_eq (t : Thread) (taken : Bool) (target : BitVec 17) :
    t.branch taken target = { t with pc := if taken then target.toNat else t.pc } := by
  cases taken <;> rfl

/-- A loop counter counted down is 0 when it was 1. -/
theorem sub_one_ne_zero_iff (v : BitVec 32) : (v - 1 != 0) = true ↔ ¬ v = 1 := by
  rw [bne_iff_ne]
  bv_omega

/-- A jump that changes the return stack. -/
theorem jumped_issued {s t : State} {q : Thr} {pc : Nat} {stack : List (BitVec 17)}
    (ht : t = (s.issued q 4).setThread q { Issued (s.thread q) s.tick 4 with pc := pc, stack := stack }) :
    OnlyThread s t q ∧ t.thread q = { Issued (s.thread q) s.tick 4 with pc := pc, stack := stack } := by
  subst ht
  exact ⟨onlyThread_issued_setThread s q 4 _, State.thread_setThread_same _ _ _⟩

theorem exec_call_of_room {s : State} {q : Thr} (h : Ready s q) (target : BitVec 17)
    (hroom : (s.thread q).stack.length < 16) :
    exec (.call q target) s = .next ((s.issued q 4).setThread q { Issued (s.thread q) s.tick 4 with
      pc := target.toNat, stack := BitVec.ofNat 17 ((s.thread q).pc + 1) :: (s.thread q).stack }) := by
  show execCall q target s = _
  rw [execCall, State.issueThen_of_ready h.1 h.2, State.issued_thread_same]
  exact if_neg (Nat.not_le.mpr hroom)

theorem exec_call_of_full {s : State} {q : Thr} (h : Ready s q) (target : BitVec 17)
    (hfull : 16 ≤ (s.thread q).stack.length) :
    exec (.call q target) s = .next ((s.issued q 4).programError q 0x03) := by
  show execCall q target s = _
  rw [execCall, State.issueThen_of_ready h.1 h.2, State.issued_thread_same]
  exact if_pos hfull

theorem exec_ret_of_cons {s : State} {q : Thr} (h : Ready s q) {a : BitVec 17} {rest : List (BitVec 17)}
    (hcons : (s.thread q).stack = a :: rest) :
    exec (.ret q) s = .next ((s.issued q 4).setThread q { Issued (s.thread q) s.tick 4 with
      pc := a.toNat, stack := rest }) := by
  have hstack : ((s.thread q).stepped s.tick 4).stack = a :: rest := hcons
  show execRet q s = _
  simp only [execRet, State.issueThen_of_ready h.1 h.2, State.issued_thread_same, hstack]
  rfl

theorem exec_ret_of_nil {s : State} {q : Thr} (h : Ready s q) (hnil : (s.thread q).stack = []) :
    exec (.ret q) s = .next ((s.issued q 4).programError q 0x04) := by
  have hstack : ((s.thread q).stepped s.tick 4).stack = [] := hnil
  show execRet q s = _
  simp only [execRet, State.issueThen_of_ready h.1 h.2, State.issued_thread_same, hstack]

/-! Illegal issue (R71, R76, R78, R79). -/

/-- With room in its queue, a timed instruction is issued, and its stamp mode and target are checked. -/
theorem State.timed_of_room {s : State} {q : Thr} (h : Ready s q) (hroom : (s.thread q).queue.length < 64)
    (sm : BitVec 2) (ok : Bool) (kind : Thread → TimedKind) (adv : Nat) (hbad : sm = 3 ∨ ok = false) :
    s.timed q sm ok kind adv = .next ((s.issued q 1).programError q (if sm = 3 then 0x02 else 0x06)) := by
  have hnotfull : ¬ (s.canIssue q && decide (64 ≤ (s.thread q).queue.length)) = true := by simp; omega
  rw [State.timed, if_neg hnotfull, State.issueThen_of_ready h.1 h.2]
  by_cases hsm : sm = 3
  · rw [if_pos hsm, if_pos hsm]
  · rw [if_neg hsm, if_neg hsm, if_pos (by simp [hbad.resolve_left hsm])]

/-- An instruction that queues a timed command under a stamp mode; `ok` says whether it takes its target. -/
def IssuesTimed (s : State) (q : Thr) (sm : BitVec 2) (ok : Bool) (i : Instr) : Prop :=
  ∃ kind adv, exec i s = s.timed q sm ok kind adv

theorem issuesTimed_play (s : State) (q : Thr) (sm : BitVec 2) (d rs : Bool) (src : BitVec 5) (tgt : BitVec 8)
    (pat : BitVec 15) (scale : BitVec 16) :
    IssuesTimed s q sm (playTarget tgt) (.play q sm d rs src tgt pat scale) :=
  ⟨fun t => .play tgt pat.toNat (t.playScale d rs src scale), s.patFine pat.toNat, rfl⟩

theorem issuesTimed_jseg (s : State) (q : Thr) (sm : BitVec 2) (d rs : Bool) (src : BitVec 5) (tgt : BitVec 8)
    (pat : BitVec 15) (scale : BitVec 16) :
    IssuesTimed s q sm (playTarget tgt) (.jseg q sm d rs src tgt pat scale) :=
  ⟨fun t => .jseg tgt pat.toNat (t.playScale d rs src scale), s.patFine pat.toNat, rfl⟩

theorem issuesTimed_stage (s : State) (q : Thr) (sm : BitVec 2) (tgt : BitVec 8) (pat : BitVec 15) :
    IssuesTimed s q sm (playTarget tgt) (.stage q sm tgt pat) :=
  ⟨fun _ => .stage tgt pat.toNat, 0, rfl⟩

theorem issuesTimed_setf (s : State) (q : Thr) (sm : BitVec 2) (src : BitVec 5) (tgt : BitVec 8) :
    IssuesTimed s q sm (toneTarget tgt) (.setf q sm src tgt) :=
  ⟨fun t => .setf tgt ((t.reg src).setWidth 48), 0, rfl⟩

theorem issuesTimed_setp (s : State) (q : Thr) (sm : BitVec 2) (rs : Bool) (src : BitVec 5) (tgt : BitVec 8)
    (val : BitVec 32) : IssuesTimed s q sm (toneTarget tgt) (.setp q sm rs src tgt val) :=
  ⟨fun t => .setp tgt ((t.tvValue rs src val).setWidth 32), 0, rfl⟩

theorem issuesTimed_vz (s : State) (q : Thr) (sm : BitVec 2) (rs : Bool) (src : BitVec 5) (tgt : BitVec 8)
    (val : BitVec 32) : IssuesTimed s q sm (toneTarget tgt) (.vz q sm rs src tgt val) :=
  ⟨fun t => .vz tgt (if rs then (t.reg src).setWidth 48 else val.setWidth 48 <<< 16), 0, rfl⟩

theorem issuesTimed_flux (s : State) (q : Thr) (sm : BitVec 2) (rs : Bool) (src : BitVec 5) (tgt : BitVec 8)
    (val : BitVec 32) : IssuesTimed s q sm (fluxTarget tgt) (.flux q sm rs src tgt val) :=
  ⟨fun t => .flux (tgt.toNat % 32) ((t.tvValue rs src val).setWidth 16), 0, rfl⟩

theorem issuesTimed_acq (s : State) (q : Thr) (sm : BitVec 2) (mask : BitVec 24) (len : BitVec 17) :
    IssuesTimed s q sm true (.acq q sm mask len) :=
  ⟨fun _ => .acq mask len.toNat, 0, rfl⟩

theorem issuesTimed_mark (s : State) (q : Thr) (sm : BitVec 2) {act : BitVec 2} (hact : act ≠ 3) (m : BitVec 5)
    (width : BitVec 16) : IssuesTimed s q sm true (.mark q sm act m width) :=
  ⟨fun _ => .mark act m.toNat width.toNat, 0, if_neg hact⟩

theorem issuesTimed_emit (s : State) (q : Thr) (sm ev : BitVec 2) :
    IssuesTimed s q sm true (.emit q sm ev) :=
  ⟨fun _ => .emit ev.toNat, 0, rfl⟩

theorem IssuesTimed.errs_of_reservedMode {s : State} {q : Thr} {ok : Bool} {i : Instr}
    (hi : IssuesTimed s q 3 ok i) (h : Ready s q) (hroom : (s.thread q).queue.length < 64) :
    Ends (exec i s) (fun t => Errs t q 0x02) := by
  obtain ⟨kind, adv, hexec⟩ := hi
  exact ⟨_, hexec.trans (State.timed_of_room h hroom 3 ok kind adv (.inl rfl)), errs_issued h 1 0x02⟩

theorem IssuesTimed.errs_of_badTarget {s : State} {q : Thr} {sm : BitVec 2} {ok : Bool} {i : Instr}
    (hi : IssuesTimed s q sm ok i) (h : Ready s q) (hroom : (s.thread q).queue.length < 64) (hsm : sm ≠ 3)
    (hok : ok = false) : Ends (exec i s) (fun t => Errs t q 0x06) := by
  obtain ⟨kind, adv, hexec⟩ := hi
  have htimed := State.timed_of_room h hroom sm ok kind adv (.inr hok)
  rw [if_neg hsm] at htimed
  exact ⟨_, hexec.trans htimed, errs_issued h 1 0x06⟩

/-- Special registers 15 to 31 are reserved (R71). -/
theorem State.special_of_reserved (s : State) (q : Thr) {sr : Nat} (h : 15 ≤ sr) : s.special q sr = none := by
  unfold State.special
  dsimp only
  split
  case h_16 => rfl
  all_goals omega

/-- Special registers 1 to 8 can be written (R71). -/
theorem Thread.setSpecial_of_unwritable (t : Thread) {sr : Nat} (h : sr = 0 ∨ 9 ≤ sr) (w : Word) :
    t.setSpecial sr w = none := by
  unfold Thread.setSpecial
  split
  case h_9 => rfl
  all_goals omega

theorem exec_mfs_of_reserved {s : State} {q : Thr} (h : Ready s q) (g : BitVec 5) {sr : BitVec 5}
    (hsr : 15 ≤ sr.toNat) : exec (.mfs q g sr) s = .next ((s.issued q 1).programError q 0x02) := by
  show execMfs q g sr s = _
  rw [execMfs, State.issueThen_of_ready h.1 h.2, State.special_of_reserved _ _ hsr]

theorem exec_mts_of_unwritable {s : State} {q : Thr} (h : Ready s q) (g : BitVec 5) {sr : BitVec 5}
    (hsr : sr = 0 ∨ 9 ≤ sr.toNat) : exec (.mts q g sr) s = .next ((s.issued q 1).programError q 0x02) := by
  have hnat : sr.toNat = 0 ∨ 9 ≤ sr.toNat := hsr.imp_left (congrArg BitVec.toNat)
  show execMts q g sr s = _
  rw [execMts, State.issueThen_of_ready h.1 h.2, Thread.setSpecial_of_unwritable _ hnat]

/-- The reserved marker action is found before anything else of a `mark`. -/
theorem mark_errs_of_reservedAction {s : State} {q : Thr} (h : Ready s q) (sm : BitVec 2) (m : BitVec 5)
    (width : BitVec 16) : Ends (exec (.mark q sm 3 m width) s) (fun t => Errs t q 0x02) :=
  ends_errs h 1 0x02

theorem mark_errs_of_reservedMode {s : State} {q : Thr} (h : Ready s q) (hroom : (s.thread q).queue.length < 64)
    (act : BitVec 2) (m : BitVec 5) (width : BitVec 16) :
    Ends (exec (.mark q 3 act m width) s) (fun t => Errs t q 0x02) := by
  by_cases hact : act = 3
  · subst hact
    exact mark_errs_of_reservedAction h 3 m width
  · exact (issuesTimed_mark s q 3 hact m width).errs_of_reservedMode h hroom

end Sys2Proof.Machine

namespace Sys2Proof

open Machine Fld Claim

/-- R73, R76: each branch by its condition. -/
theorem branchesGoWhereTheirConditionSays : BranchesGoWhereTheirConditionSays := by
  intro q ra rb aux target s h
  refine ⟨ends_goto h (fun _ => target.toNat), ends_branch h (fun t => t.reg ra == t.reg rb) target beq_iff_eq,
    ends_branch h (fun t => t.reg ra != t.reg rb) target bne_iff_ne,
    ends_branch h (fun t => (t.reg ra).slt (t.reg rb)) target BitVec.slt_iff_toInt_lt,
    ends_branch h (fun t => !(t.reg ra).slt (t.reg rb)) target ?bge,
    ends_branch h (fun t => (t.reg ra).ult (t.reg rb)) target BitVec.ult_iff_lt,
    ends_branch h (fun t => !(t.reg ra).ult (t.reg rb)) target ?bgeu,
    ends_branch h (fun t => (t.reg ra).getLsbD aux.toNat) target Iff.rfl,
    ends_branch h (fun t => !(t.reg ra).getLsbD aux.toNat) target ?bbc,
    fun haux => ⟨ends_branch h (fun t => t.ws == 0 && valueBit (t.reg ra) aux) target ?bdv,
      ends_branch h (fun t => t.ws == 0 && !valueBit (t.reg ra) aux) target ?bdn⟩,
    fun haux => ⟨ends_branch h (fun t => t.ws == 0 && valueBit (t.reg ra) aux) target ?bdvHigh,
      ends_branch h (fun t => t.ws == 0 && !valueBit (t.reg ra) aux) target ?bdnHigh⟩,
    ends_branch h (fun t => aux.getLsbD t.ws.toNat) target Iff.rfl,
    ends_goto h (fun t => (t.reg ra).toNat % 2 ^ 17)⟩
  case bge =>
    rw [Bool.not_eq_true', ← Bool.not_eq_true, BitVec.slt_iff_toInt_lt]
    exact Int.not_lt
  case bgeu =>
    rw [Bool.not_eq_true', ← Bool.not_eq_true, BitVec.ult_iff_lt]
    exact Nat.not_lt
  case bbc => exact Bool.not_eq_true' _ ▸ Iff.rfl
  case bdv =>
    rw [valueBit_of_lt haux, Bool.and_eq_true, beq_iff_eq]
    exact Iff.rfl
  case bdn =>
    rw [valueBit_of_lt haux, Bool.and_eq_true, beq_iff_eq, Bool.not_eq_true']
    exact Iff.rfl
  case bdvHigh => simp [valueBit_of_le haux]
  case bdnHigh =>
    rw [valueBit_of_le haux, Bool.not_false, Bool.and_true, beq_iff_eq]
    exact Iff.rfl

/-- R71, R87: the counter named by AUX, the three others, and the branch by the counter. -/
theorem loopCountsDownAndBranches : LoopCountsDownAndBranches := by
  intro q aux target s h
  have hn : aux.toNat % 4 < 4 := Nat.mod_lt _ (by decide)
  refine ends_run_of_ready h ⟨onlyThread_issued_setThread s q 4 _, _, rfl, ?rest, fun n => ?counters,
    fun n hsel => ?pc⟩
  all_goals rw [State.thread_modThread_same, State.issued_thread_same, Thread.branch_eq]
  case rest => rfl
  case counters =>
    show ((s.thread q).lc.set _ ((s.thread q).lc[aux.toNat % 4] - 1) hn)[n.val] = _
    rw [Vector.getElem_set]
    by_cases hsel : aux.toNat % 4 = n.val
    · simp [hsel]
    · simp [hsel, Ne.symm hsel]
  case pc =>
    have hpick : (s.thread q).lc[n] = (s.thread q).lc[aux.toNat % 4] := by simp only [Fin.getElem_fin, hsel]
    show (if (s.thread q).lc[aux.toNat % 4] - 1 != 0 then target.toNat else (s.thread q).pc + 1) = _
    by_cases hone : (s.thread q).lc[aux.toNat % 4] = 1
    · rw [hpick, if_pos hone, if_neg (fun hne => (sub_one_ne_zero_iff _).mp hne hone)]
    · rw [hpick, if_neg hone, if_pos ((sub_one_ne_zero_iff _).mpr hone)]

/-- R87: room on the stack and a full one; an address to return to and none. -/
theorem callsAndReturnsKeepTheStack : CallsAndReturnsKeepTheStack :=
  fun _ target _ h => ⟨fun hroom => ⟨_, exec_call_of_room h target hroom, jumped_issued rfl⟩,
    fun hfull => ⟨_, exec_call_of_full h target hfull, errs_issued h 4 0x03⟩,
    fun _ _ hcons => ⟨_, exec_ret_of_cons h hcons, jumped_issued rfl⟩,
    fun hnil => ⟨_, exec_ret_of_nil h hnil, errs_issued h 4 0x04⟩⟩

/-- R71, R76, R78, R79: first what is illegal whatever the queue holds, then the timed instructions. -/
theorem illegalIssueIsAProgramError : IllegalIssueIsAProgramError := by
  intro q s h
  refine ⟨ends_errs h 1 0x02, fun g sr hsr => ⟨_, exec_mfs_of_reserved h g hsr, errs_issued h 1 0x02⟩,
    fun g sr hsr => ⟨_, exec_mts_of_unwritable h g hsr, errs_issued h 1 0x02⟩,
    fun sm m width => mark_errs_of_reservedAction h sm m width, fun hroom d rs src tgt pat scale val => ?_⟩
  have hmode {ok : Bool} {i : Instr} (hi : IssuesTimed s q 3 ok i) := hi.errs_of_reservedMode h hroom
  refine ⟨hmode (issuesTimed_play ..), hmode (issuesTimed_jseg ..), hmode (issuesTimed_stage ..),
    hmode (issuesTimed_setf ..), hmode (issuesTimed_setp ..), hmode (issuesTimed_vz ..),
    hmode (issuesTimed_flux ..), fun mask len => hmode (issuesTimed_acq ..),
    fun act m width => mark_errs_of_reservedMode h hroom act m width, fun ev => hmode (issuesTimed_emit ..),
    fun sm hsm => ?_⟩
  have htarget {ok : Bool} {i : Instr} (hi : IssuesTimed s q sm ok i) := hi.errs_of_badTarget h hroom hsm
  exact ⟨fun hplay => ⟨htarget (issuesTimed_play ..) hplay, htarget (issuesTimed_jseg ..) hplay,
      htarget (issuesTimed_stage ..) hplay⟩,
    fun htone => ⟨htarget (issuesTimed_setf ..) htone, htarget (issuesTimed_setp ..) htone,
      htarget (issuesTimed_vz ..) htone⟩,
    htarget (issuesTimed_flux ..)⟩

/-- R71, R87: no word is read there. -/
theorem issuePastTheLastWord : IssuePastTheLastWord := by
  intro q s hpc
  have hnext : s.nextInstr q = .illegalInstruction q := if_neg (Nat.not_lt.mpr hpc)
  exact ⟨hnext, fun h => hnext ▸ ends_errs h 1 0x02⟩

/-- Settles O13: branches, `loop`, `call` and `ret`, and the program errors of issue, part by part. -/
theorem controlFlowGoesWhereItSays : Obligations.ControlFlowGoesWhereItSays :=
  ⟨branchesGoWhereTheirConditionSays, loopCountsDownAndBranches, callsAndReturnsKeepTheStack,
    illegalIssueIsAProgramError, issuePastTheLastWord⟩

end Sys2Proof
end

section
/-! SUPPORT. Shot scopes (03 R70, R89-R93, R96): what holds a `shot.begin` back, the arrival at a joint shot's
barrier, the scope opened and closed; with them the statement about `shot.begin`, `shot.end` and `end`. -/

namespace Sys2Proof.Machine

open Fld Claim

/-! Arrival at a barrier (R85, R91, R93). -/

@[simp] theorem State.bar_modThread (s : State) (q : Thr) (f : Thread → Thread) (b : Nat) :
    (s.modThread q f).bar b = s.bar b := rfl

/-- A barrier's generation after a change of it. -/
theorem State.bar_modGen (s : State) (b g : Nat) (f : BarGen → BarGen) :
    ((s.modGen b g f).bar b).at_ g = f ((s.bar b).at_ g) := by
  simp [State.modGen, State.bar, State.setBar, BarRun.at_]

/-- A participant's arrival counts for its generation, and the thread waits for the release. -/
theorem State.arriveAt_of_takesPart {s : State} {q : Thr} {b : Nat} (h : s.takesPart q b = true)
    (why : BarPurpose) (timeout : Option Word) :
    s.arriveAt q b why timeout
      = (s.modGen b (s.arrivalGen q b) (fun x => { x with came := q :: x.came })).modThread q
          (fun t => t.startWait (.bar b (s.arrivalGen q b) true why) timeout) := by
  simp [State.arriveAt, h]

theorem State.arriveAt_waits {s : State} {q : Thr} {b : Nat} (h : s.takesPart q b = true)
    (why : BarPurpose) (timeout : Option Word) :
    WaitsFor (s.arriveAt q b why timeout) q (.bar b (s.arrivalGen q b) true why) timeout
      ∧ q ∈ (((s.arriveAt q b why timeout).bar b).at_ (s.arrivalGen q b)).came := by
  rw [State.arriveAt_of_takesPart h]
  refine ⟨?_, ?_⟩
  · simp [WaitsFor, Thread.startWait]
  · rw [State.bar_modThread, State.bar_modGen]
    exact List.mem_cons_self

/-- An arrival changes its thread and the barriers only. -/
theorem State.arriveAt_frame (s : State) (q : Thr) (b : Nat) (why : BarPurpose) (timeout : Option Word) :
    s.arriveAt q b why timeout = { s with threads := (s.arriveAt q b why timeout).threads,
                                          bars := (s.arriveAt q b why timeout).bars } := by
  unfold State.arriveAt
  dsimp only
  split <;> rfl

@[simp] theorem State.arriveAt_ft (s : State) (q : Thr) (b : Nat) (why : BarPurpose) (timeout : Option Word) :
    (s.arriveAt q b why timeout).ft = s.ft := by
  rw [State.arriveAt_frame]

@[simp] theorem State.arriveAt_regs (s : State) (q : Thr) (b : Nat) (why : BarPurpose) (timeout : Option Word) :
    (s.arriveAt q b why timeout).regs = s.regs := by
  rw [State.arriveAt_frame]

@[simp] theorem State.arriveAt_mem (s : State) (q : Thr) (b : Nat) (why : BarPurpose) (timeout : Option Word) :
    (s.arriveAt q b why timeout).mem = s.mem := by
  rw [State.arriveAt_frame]

@[simp] theorem State.arriveAt_shots (s : State) (q : Thr) (b : Nat) (why : BarPurpose) (timeout : Option Word) :
    (s.arriveAt q b why timeout).shots = s.shots := by
  rw [State.arriveAt_frame]

@[simp] theorem State.arriveAt_undef (s : State) (q : Thr) (b : Nat) (why : BarPurpose) (timeout : Option Word) :
    (s.arriveAt q b why timeout).undef = s.undef := by
  rw [State.arriveAt_frame]

/-- What an arrival looks at is the thread's generations, the barriers and the registers. -/
theorem State.arrivalGen_congr {s t : State} {q : Thr} (hgen : (t.thread q).barGen = (s.thread q).barGen)
    (hbars : t.bars = s.bars) (b : Nat) : t.arrivalGen q b = s.arrivalGen q b := by
  unfold State.arrivalGen State.bar
  rw [hgen, hbars]

theorem State.takesPart_congr {s t : State} (hregs : t.regs = s.regs) (q : Thr) (b : Nat) :
    t.takesPart q b = s.takesPart q b := by
  simp only [State.takesPart, State.reg, hregs]

theorem State.passed_congr {s t : State} (hft : t.ft = s.ft) (timeout : Option Word) :
    t.passed timeout = s.passed timeout := by
  simp only [State.passed, hft]

theorem State.rd_congr {s t : State} (hregs : t.regs = s.regs) (f : RField) : t.rd f = s.rd f := by
  simp only [State.rd, State.reg, hregs]

theorem State.on_congr {s t : State} (hregs : t.regs = s.regs) (f : RField) : t.on f = s.on f := by
  simp only [State.on, State.rd_congr hregs]

/-- An arrival takes no time. -/
theorem State.passed_arriveAt (s : State) (q : Thr) (b : Nat) (why : BarPurpose) (timeout x : Option Word) :
    (s.arriveAt q b why timeout).passed x = s.passed x :=
  State.passed_congr (s.arriveAt_ft q b why timeout) x

theorem State.leavePending_congr {s t : State} (hregs : t.regs = s.regs) : t.leavePending = s.leavePending := by
  simp only [State.leavePending, State.active, State.on, State.rd_congr hregs]

/-! `shot.begin` at issue (R90, R91). -/

/-- The state in which a `shot.begin` with no scope open has been issued. -/
def State.shotBegun (s : State) (q : Thr) (a : ShotArgs) : State :=
  (s.issued q 6).modThread q (fun t => { t with opening := some a })

theorem State.shotBegun_thread (s : State) (q : Thr) (a : ShotArgs) :
    (s.shotBegun q a).thread q = { Issued (s.thread q) s.tick 6 with opening := some a } := by
  rw [State.shotBegun, State.thread_modThread_same, State.issued_thread_same]
  rfl

@[simp] theorem State.shotBegun_regs (s : State) (q : Thr) (a : ShotArgs) : (s.shotBegun q a).regs = s.regs :=
  s.issued_regs q 6

@[simp] theorem State.shotBegun_ft (s : State) (q : Thr) (a : ShotArgs) : (s.shotBegun q a).ft = s.ft :=
  s.issued_ft q 6

@[simp] theorem State.shotBegun_tick (s : State) (q : Thr) (a : ShotArgs) : (s.shotBegun q a).tick = s.tick :=
  s.issued_tick q 6

@[simp] theorem State.shotBegun_bars (s : State) (q : Thr) (a : ShotArgs) : (s.shotBegun q a).bars = s.bars :=
  s.issued_bars q 6

@[simp] theorem State.shotBegun_shots (s : State) (q : Thr) (a : ShotArgs) : (s.shotBegun q a).shots = s.shots :=
  s.issued_shots q 6

@[simp] theorem State.shotBegun_nextShot (s : State) (q : Thr) (a : ShotArgs) :
    (s.shotBegun q a).nextShot = s.nextShot :=
  s.issued_nextShot q 6

@[simp] theorem State.shotBegun_undef (s : State) (q : Thr) (a : ShotArgs) : (s.shotBegun q a).undef = s.undef :=
  s.issued_undef q 6

section
variable {s : State} {q : Thr} (h : Ready s q) (rep joint blk : Bool) (bar : BitVec 6) (reset : BitVec 32)
include h

theorem exec_shotBegin_of_scope (hshot : (s.thread q).shot.isSome = true) :
    exec (.shotBegin q rep joint blk bar reset) s = .next ((s.issued q 6).programError q 0x05) := by
  show execShotBegin q rep joint blk bar reset s = _
  rw [execShotBegin, State.issueThen_of_ready h.1 h.2, State.issued_thread_same]
  exact if_pos hshot

theorem exec_shotBegin_of_uncommitted (hshot : (s.thread q).shot = none)
    (hprev : (s.thread q).prevShot.isSome = true) :
    exec (.shotBegin q rep joint blk bar reset) s
      = .next ((s.shotBegun q ⟨rep, joint, blk, bar.toNat, reset⟩).modThread q
          (fun t => { t with hold := some .commit })) := by
  have hscope : ¬ ((s.thread q).stepped s.tick 6).shot.isSome = true := by simp [Thread.stepped, hshot]
  show execShotBegin q rep joint blk bar reset s = _
  rw [execShotBegin, State.issueThen_of_ready h.1 h.2, State.issued_thread_same]
  exact (if_neg hscope).trans (if_pos hprev)

theorem exec_shotBegin_of_committed (hshot : (s.thread q).shot = none) (hprev : (s.thread q).prevShot = none) :
    exec (.shotBegin q rep joint blk bar reset) s
      = finish ((s.shotBegun q ⟨rep, joint, blk, bar.toNat, reset⟩).beginScope q
          ⟨rep, joint, blk, bar.toNat, reset⟩) := by
  have hscope : ¬ ((s.thread q).stepped s.tick 6).shot.isSome = true := by simp [Thread.stepped, hshot]
  have hcommitted : ¬ ((s.thread q).stepped s.tick 6).prevShot.isSome = true := by simp [Thread.stepped, hprev]
  show execShotBegin q rep joint blk bar reset s = _
  rw [execShotBegin, State.issueThen_of_ready h.1 h.2, State.issued_thread_same]
  exact (if_neg hscope).trans (if_neg hcommitted)

end

/-! What a `shot.begin` past its thread's previous shot comes to (R91, R96). -/

theorem State.beginScope_of_leaving {s : State} {q : Thr} (hleave : s.leavePending = true)
    (hblock : (s.thread q).inBlock = false) (a : ShotArgs) :
    s.beginScope q a = s.modThread q (fun t => { t with st := .held, hold := some .leave }) :=
  if_pos (by simp [hleave, hblock])

theorem State.beginScope_of_joint {s : State} {q : Thr} (hleave : s.leavePending = false) {a : ShotArgs}
    (hjoint : a.joint = true) (htime : s.passed (some (s.thread q).jointTimeout) = false) :
    s.beginScope q a = (s.modThread q (fun t => { t with hold := none })).arriveAt q a.bar .shotBegin
      (some (s.thread q).jointTimeout) := by
  have hwaits : ¬ ((s.modThread q (fun t => { t with hold := none })).arriveAt q a.bar .shotBegin
      (some (s.thread q).jointTimeout)).passed (some (s.thread q).jointTimeout) = true := by
    rw [State.passed_arriveAt]
    exact Bool.eq_false_iff.mp htime
  rw [State.beginScope, if_neg (by simp [hleave]), if_pos hjoint]
  exact if_neg hwaits

/-! The canopy (13 R361, R362). -/

/-- The level that the canopy, the cryostat and the host ask for. -/
def State.levelWanted (s : State) : Nat :=
  max (s.rd canopyStatus_CANOPY_LEVEL) (max (s.rd canopyStatus_CRYO_LEVEL)
    (if s.heat.host then min 8 (s.rd canopyCfg_HOST_FLOOR) else 0))

/-- LEVEL takes that level; a change from or to 0 pulses a seam source. -/
theorem State.setLevel_eq (s : State) :
    s.setLevel = s.wr canopyStatus_LEVEL s.levelWanted
      ∨ ∃ n, s.setLevel = (s.wr canopyStatus_LEVEL s.levelWanted).pulse n := by
  have hdef : s.setLevel
      = if s.rd canopyStatus_LEVEL = 0 ∧ s.levelWanted ≠ 0 then
          (s.wr canopyStatus_LEVEL s.levelWanted).pulse 497
        else if s.rd canopyStatus_LEVEL ≠ 0 ∧ s.levelWanted = 0 then
          (s.wr canopyStatus_LEVEL s.levelWanted).pulse 498
        else s.wr canopyStatus_LEVEL s.levelWanted := rfl
  rw [hdef]
  split
  · exact .inr ⟨497, rfl⟩
  · split
    · exact .inr ⟨498, rfl⟩
    · exact .inl rfl

/-- Taking the throttling mode leaves everything but the registers, the heat run and the seam sources. -/
theorem State.takeThrottle_frame (s : State) :
    s.takeThrottle = { s with regs := s.takeThrottle.regs, heat := s.takeThrottle.heat,
                              seamRaised := s.takeThrottle.seamRaised } := by
  unfold State.takeThrottle
  rcases State.setLevel_eq { s with heat := { s.heat with host := s.on modeThrottle_HOST } } with hl | ⟨n, hl⟩ <;>
    rw [hl] <;> rfl

/-- With both levels at 0 and no host throttling, nothing throttles. -/
theorem State.level_takeThrottle {s : State} (hcanopy : s.rd canopyStatus_CANOPY_LEVEL = 0)
    (hcryo : s.rd canopyStatus_CRYO_LEVEL = 0) (hhost : s.on modeThrottle_HOST = false) :
    s.takeThrottle.rd canopyStatus_LEVEL = 0 := by
  have hzero : State.levelWanted { s with heat := { s.heat with host := s.on modeThrottle_HOST } } = 0 := by
    show max (s.rd _) (max (s.rd _) (if s.on modeThrottle_HOST then _ else 0)) = 0
    rw [hcanopy, hcryo, hhost]
    rfl
  have hset : ∀ t : State, (t.wr canopyStatus_LEVEL 0).rd canopyStatus_LEVEL = 0 :=
    fun t => t.rd_wr_same canopyStatus_LEVEL 0 (by decide)
  unfold State.takeThrottle
  rcases State.setLevel_eq { s with heat := { s.heat with host := s.on modeThrottle_HOST } } with hl | ⟨n, hl⟩
  · rw [hl, hzero]
    exact hset _
  · rw [hl, hzero]
    exact hset _

/-! The scope opens (R91, R92). -/

/-- The state in which a thread has taken what it takes at its point. -/
def State.atPoint (s : State) (q : Thr) : State := (s.takeModes q).takePatchModes q

theorem State.takePatchModes_frame (s : State) (q : Thr) :
    s.takePatchModes q = { s with patchMode := (s.takePatchModes q).patchMode } :=
  State.each_keeps (P := fun t => t = { s with patchMode := t.patchMode })
    (fun t p ht => by rw [ht]) _ s rfl

theorem State.atPoint_frame (s : State) (q : Thr) :
    s.atPoint q = { s with threads := (s.atPoint q).threads, patchMode := (s.atPoint q).patchMode } := by
  rw [State.atPoint, State.takePatchModes_frame]
  rfl

/-- At its point a thread takes modes and bindings, and nothing else of it changes. -/
theorem State.atPoint_thread (s : State) (q : Thr) :
    ∃ modes binds, (s.atPoint q).thread q = { s.thread q with modes := modes, binds := binds } := by
  refine ⟨s.modesFor q.tile, (List.range 24).map (fun k => s.reg ⟨.bind, q.tile, k, 0⟩), ?_⟩
  rw [State.atPoint, State.takePatchModes_frame]
  show (s.takeModes q).thread q = _
  rw [State.takeModes, State.thread_modThread_same]

/-- A thread's part of the shot it opens. -/
def State.openingPart (s : State) (q : Thr) (a : ShotArgs) : ShotPart :=
  { thr := q, ck := (s.thread q).checkpoint, args := a, c0 := s.tick, arr := s.tick }

/-- The shot that a thread opens by itself. -/
def State.aloneShot (s : State) (q : Thr) (a : ShotArgs) (g : Nat) : Shot :=
  { id := s.nextShot, parts := [s.openingPart q a], joint := false, bar := a.bar, gen := g, k := s.tick,
    kFt := s.ft, replays := if (s.thread q).inBlock then (s.thread q).replays else 0,
    replayable := (s.thread q).opensReplayable a, snap := s.patchSnap q, train := s.trains,
    expTimers := s.expTimersOf [q] }

/-- A thread in the scope it has opened. -/
def Thread.inScope (t : Thread) (id : Nat) : Thread :=
  { t with
    st := if t.wait.isSome then t.st else .running, hold := none, opening := none, pause := none,
    shot := some id, prevShot := none, replays := if t.inBlock then t.replays else 0, opened := true,
    scopes := if t.inBlock then t.scopes else t.scopes + 1, inBlock := false, effectEnd := 0,
    pauseFrom := t.tc }

theorem Thread.st_inScope_of_running {t : Thread} (h : t.st = .running) (id : Nat) :
    (t.inScope id).st = .running := by
  unfold Thread.inScope
  dsimp only
  split
  · exact h
  · rfl

/-- A shot can be replayed only if its `shot.begin` asks for it. -/
theorem Thread.rep_of_opensReplayable {t : Thread} {a : ShotArgs} (h : t.opensReplayable a = true) :
    a.rep = true := by
  rw [Thread.opensReplayable, Bool.and_eq_true] at h
  exact h.1

/-- The state with a thread's shot of its own among the open ones. -/
def State.withShot (s : State) (q : Thr) (a : ShotArgs) (g : Nat) : State :=
  { s with shots := s.shots ++ [s.aloneShot q a g], nextShot := s.nextShot + 1 }

/-- Without PARAMs held for it a thread's scope opens at its point, in a shot of its own. -/
theorem State.openScope_alone {s : State} {q : Thr} (hparams : (s.thread q).params = []) {a : ShotArgs}
    (hjoint : a.joint = false) (g : Nat) :
    s.openScope q a g = ((s.atPoint q).withShot q a g).modThread q (fun t => t.inScope (s.atPoint q).nextShot) := by
  have happlied : s.applyParams q = s := if_pos (by rw [hparams]; rfl)
  rw [State.openScope, happlied, hjoint]
  rfl

/-- Nothing holds the `shot.begin` back: its scope opens. -/
theorem State.beginScope_of_free {s : State} {q : Thr} (hleave : s.leavePending = false)
    (hlevel : s.takeThrottle.rd canopyStatus_LEVEL = 0) (hparams : (s.thread q).params = []) {a : ShotArgs}
    (hjoint : a.joint = false) :
    s.beginScope q a = ((s.takeThrottle.atPoint q).withShot q a 0).modThread q
      (fun t => t.inScope (s.takeThrottle.atPoint q).nextShot) := by
  have hthrottled : s.takeThrottle.thread q = s.thread q := by
    rw [s.takeThrottle_frame]
    rfl
  rw [State.beginScope, if_neg (by simp [hleave]), if_neg (by simp [hjoint])]
  exact (if_pos hlevel).trans (State.openScope_alone (hthrottled ▸ hparams) hjoint 0)

/-- What the opening of a scope leaves as it was. -/
theorem State.opened_frame (s : State) (q : Thr) :
    (s.takeThrottle.atPoint q).shots = s.shots ∧ (s.takeThrottle.atPoint q).nextShot = s.nextShot
      ∧ (s.takeThrottle.atPoint q).tick = s.tick ∧ (s.takeThrottle.atPoint q).undef = s.undef
      ∧ ∃ modes binds, (s.takeThrottle.atPoint q).thread q = { s.thread q with modes := modes, binds := binds } := by
  obtain ⟨modes, binds, hthread⟩ := s.takeThrottle.atPoint_thread q
  rw [s.takeThrottle_frame] at hthread
  rw [State.atPoint_frame, s.takeThrottle_frame]
  exact ⟨rfl, rfl, rfl, rfl, modes, binds, hthread⟩

/-! The outcomes of a `shot.begin` with no scope open and the previous shot committed. -/

theorem ends_finish {t : State} {P : State → Prop} (hdefined : t.undef = none) (hP : P t) : Ends (finish t) P :=
  ⟨t, finish_of_defined hdefined, hP⟩

/-- R24, R96: a request to leave Active holds it. -/
theorem shotBegun_ends_of_leaving {s : State} {q : Thr} (hundef : s.undef = none) (hleave : s.leavePending = true)
    (hblock : (s.thread q).inBlock = false) (a : ShotArgs) :
    Ends (finish ((s.shotBegun q a).beginScope q a)) (fun t =>
      (t.thread q).st = .held ∧ (t.thread q).hold = some .leave ∧ t.shots = s.shots) := by
  have hpending : (s.shotBegun q a).leavePending = true :=
    (State.leavePending_congr (s.shotBegun_regs q a)).trans hleave
  have hplain : ((s.shotBegun q a).thread q).inBlock = false := by
    rw [State.shotBegun_thread]
    exact hblock
  rw [State.beginScope_of_leaving hpending hplain]
  refine ends_finish ((s.shotBegun_undef q a).trans hundef) ⟨?_, ?_, s.shotBegun_shots q a⟩ <;>
    rw [State.thread_modThread_same]

/-- R91: a joint one arrives at its barrier and waits there. -/
theorem shotBegun_ends_of_joint {s : State} {q : Thr} (hundef : s.undef = none) (hleave : s.leavePending = false)
    {a : ShotArgs} (hjoint : a.joint = true) (htime : s.passed (some (s.thread q).jointTimeout) = false)
    (hpart : s.takesPart q a.bar = true) :
    Ends (finish ((s.shotBegun q a).beginScope q a)) (fun t =>
      WaitsFor t q (.bar a.bar (s.arrivalGen q a.bar) true .shotBegin) (some (s.thread q).jointTimeout)
      ∧ t.shots = s.shots ∧ q ∈ ((t.bar a.bar).at_ (s.arrivalGen q a.bar)).came) := by
  have htimeout : ((s.shotBegun q a).thread q).jointTimeout = (s.thread q).jointTimeout := by
    rw [State.shotBegun_thread]
    rfl
  have hpending : (s.shotBegun q a).leavePending = false :=
    (State.leavePending_congr (s.shotBegun_regs q a)).trans hleave
  have hopen : (s.shotBegun q a).passed (some ((s.shotBegun q a).thread q).jointTimeout) = false := by
    rw [htimeout, State.passed_congr (s.shotBegun_ft q a), htime]
  have hgen : ((s.shotBegun q a).modThread q (fun t => { t with hold := none })).arrivalGen q a.bar
      = s.arrivalGen q a.bar := by
    refine State.arrivalGen_congr (s := s) (t := (s.shotBegun q a).modThread q _) ?_ (s.shotBegun_bars q a) a.bar
    rw [State.thread_modThread_same, State.shotBegun_thread]
    rfl
  have hcounts : ((s.shotBegun q a).modThread q (fun t => { t with hold := none })).takesPart q a.bar = true :=
    (State.takesPart_congr (s.shotBegun_regs q a) q a.bar).trans hpart
  rw [State.beginScope_of_joint hpending hjoint hopen, htimeout]
  obtain ⟨hwaits, hcame⟩ := State.arriveAt_waits hcounts .shotBegin (some (s.thread q).jointTimeout)
  rw [hgen] at hwaits hcame
  refine ends_finish ?_ ⟨hwaits, ?_, hcame⟩
  · rw [State.arriveAt_undef]
    exact (s.shotBegun_undef q a).trans hundef
  · rw [State.arriveAt_shots]
    exact s.shotBegun_shots q a

/-- R91, R92: with nothing that holds it back the scope opens in the tick of the issue. -/
theorem shotBegun_ends_of_free {s : State} {q : Thr} (hundef : s.undef = none) (hleave : s.leavePending = false)
    (hcanopy : s.rd canopyStatus_CANOPY_LEVEL = 0) (hcryo : s.rd canopyStatus_CRYO_LEVEL = 0)
    (hhost : s.on modeThrottle_HOST = false) (hparams : (s.thread q).params = []) {a : ShotArgs}
    (hjoint : a.joint = false) :
    Ends (finish ((s.shotBegun q a).beginScope q a)) (fun t => ∃ x modes binds y,
      x = { Issued (s.thread q) s.tick 6 with opening := some a, modes := modes, binds := binds }
      ∧ t.thread q = x.inScope s.nextShot ∧ t.shots = s.shots ++ [y] ∧ y.id = s.nextShot ∧ y.joint = false
      ∧ y.k = s.tick ∧ y.replayable = x.opensReplayable a
      ∧ y.parts = [{ thr := q, ck := x.checkpoint, args := a, c0 := s.tick, arr := s.tick }]) := by
  have hleft : (s.shotBegun q a).leavePending = false :=
    (State.leavePending_congr (s.shotBegun_regs q a)).trans hleave
  have hlevel : (s.shotBegun q a).takeThrottle.rd canopyStatus_LEVEL = 0 :=
    State.level_takeThrottle ((State.rd_congr (s.shotBegun_regs q a) _).trans hcanopy)
      ((State.rd_congr (s.shotBegun_regs q a) _).trans hcryo) ((State.on_congr (s.shotBegun_regs q a) _).trans hhost)
  have hnone : ((s.shotBegun q a).thread q).params = [] := by
    rw [State.shotBegun_thread]
    exact hparams
  obtain ⟨hshots, hnext, htick, hdefined, modes, binds, hthread⟩ := (s.shotBegun q a).opened_frame q
  rw [State.shotBegun_thread] at hthread
  rw [State.shotBegun_shots] at hshots
  rw [State.shotBegun_nextShot] at hnext
  rw [State.shotBegun_tick] at htick
  rw [State.beginScope_of_free hleft hlevel hnone hjoint]
  refine ends_finish (hdefined.trans ((s.shotBegun_undef q a).trans hundef))
    ⟨_, modes, binds, (s.shotBegun q a).takeThrottle.atPoint q |>.aloneShot q a 0,
      rfl, ?_, ?_, hnext, rfl, htick, ?_, ?_⟩
  · rw [State.thread_modThread_same, hnext]
    exact congrArg (fun x => x.inScope s.nextShot) hthread
  · exact congrArg (· ++ _) hshots
  · exact congrArg (fun x => x.opensReplayable a) hthread
  · show [State.openingPart _ q a] = _
    rw [State.openingPart, hthread, htick]

/-! `shot.end` and `end` (R70, R90, R93). -/

/-- The shot with the tick of a participant's `shot.end` noted. -/
def Shot.endedBy (x : Shot) (q : Thr) (tick : Nat) : Shot :=
  { x with parts := x.parts.map (fun p => if p.thr = q then { p with ended := some tick } else p) }

theorem Shot.ended_of_mem_endedBy {x : Shot} {q : Thr} {tick : Nat} {p : ShotPart}
    (hp : p ∈ (x.endedBy q tick).parts) (hq : p.thr = q) : p.ended = some tick := by
  obtain ⟨p0, -, rfl⟩ := List.mem_map.mp hp
  by_cases h0 : p0.thr = q
  · rw [if_pos h0]
  · rw [if_neg h0] at hq
    exact absurd hq h0

/-- The state in which a `shot.end` has been issued and its tick noted in the shot. -/
def State.shotEnded (s : State) (q : Thr) (id : Nat) : State :=
  (s.issued q 2).modShot id (fun x => x.endedBy q s.tick)

/-- Of an open shot changed in what is not its number, the changed one is found. -/
theorem State.shotById_modShot (s : State) (id : Nat) {f : Shot → Shot} (hf : ∀ x, (f x).id = x.id) :
    (s.modShot id f).shotById id = (s.shotById id).map f := by
  unfold State.shotById State.modShot
  induction s.shots with
  | nil => rfl
  | cons x xs ih =>
      by_cases hx : x.id = id
      · simp [hx, hf]
      · simpa [hx] using ih

/-- An open shot of that number is one that the change has been made to. -/
theorem State.eq_of_mem_modShot {s : State} {id : Nat} {f : Shot → Shot} {z : Shot}
    (hz : z ∈ (s.modShot id f).shots) (hid : z.id = id) : ∃ x, z = f x := by
  obtain ⟨x, -, rfl⟩ := List.mem_map.mp hz
  by_cases hx : x.id = id
  · exact ⟨x, if_pos hx⟩
  · rw [if_neg hx] at hid
    exact absurd hid hx

theorem State.shotEnded_thread (s : State) (q : Thr) (id : Nat) (p : Thr) :
    (s.shotEnded q id).thread p = (s.issued q 2).thread p := rfl

@[simp] theorem State.shotEnded_ft (s : State) (q : Thr) (id : Nat) : (s.shotEnded q id).ft = s.ft :=
  s.issued_ft q 2

@[simp] theorem State.shotEnded_regs (s : State) (q : Thr) (id : Nat) : (s.shotEnded q id).regs = s.regs :=
  s.issued_regs q 2

@[simp] theorem State.shotEnded_mem (s : State) (q : Thr) (id : Nat) : (s.shotEnded q id).mem = s.mem :=
  s.issued_mem q 2

@[simp] theorem State.shotEnded_bars (s : State) (q : Thr) (id : Nat) : (s.shotEnded q id).bars = s.bars :=
  s.issued_bars q 2

theorem State.shotById_shotEnded (s : State) (q : Thr) (id : Nat) :
    (s.shotEnded q id).shotById id = (s.shotById id).map (fun x => x.endedBy q s.tick) := by
  have hshots : (s.issued q 2).shotById id = s.shotById id := by
    rw [State.shotById, State.issued_shots, State.shotById]
  rw [State.shotEnded, State.shotById_modShot _ _ (f := fun x => x.endedBy q s.tick) (fun _ => rfl), hshots]

section
variable {s : State} {q : Thr} (h : Ready s q)
include h

theorem exec_shotEnd_of_no_scope (hshot : (s.thread q).shot = none) :
    exec (.shotEnd q) s = .next ((s.issued q 2).programError q 0x05) := by
  have hnone : ((s.thread q).stepped s.tick 2).shot = none := hshot
  show execShotEnd q s = _
  simp only [execShotEnd, State.issueThen_of_ready h.1 h.2, State.issued_thread_same, hnone]

theorem exec_shotEnd_of_alone {id : Nat} (hshot : (s.thread q).shot = some id)
    (halone : ∀ y, s.shotById id = some y → y.joint = false) :
    exec (.shotEnd q) s = .next ((s.shotEnded q id).closeScope q id) := by
  have hsome : ((s.thread q).stepped s.tick 2).shot = some id := hshot
  have hfound := s.shotById_shotEnded q id
  unfold State.shotEnded Shot.endedBy at hfound
  show execShotEnd q s = _
  simp only [execShotEnd, State.issueThen_of_ready h.1 h.2, State.issued_thread_same, hsome, State.issued_tick,
    hfound]
  cases hy : s.shotById id with
  | none => rfl
  | some y => simp [halone y hy, State.shotEnded, Shot.endedBy]

theorem exec_shotEnd_of_joint {id : Nat} {y : Shot} (hshot : (s.thread q).shot = some id)
    (hy : s.shotById id = some y) (hjoint : y.joint = true)
    (htime : s.passed (some (s.thread q).jointTimeout) = false) :
    exec (.shotEnd q) s
      = .next ((s.shotEnded q id).arriveAt q y.bar .shotEnd (some (s.thread q).jointTimeout)) := by
  have hsome : ((s.thread q).stepped s.tick 2).shot = some id := hshot
  have hfound := s.shotById_shotEnded q id
  rw [hy] at hfound
  have hwaits : ¬ ((s.shotEnded q id).arriveAt q y.bar .shotEnd (some (s.thread q).jointTimeout)).passed
      (some (s.thread q).jointTimeout) = true := by
    rw [State.passed_arriveAt, State.passed_congr (s.shotEnded_ft q id)]
    exact Bool.eq_false_iff.mp htime
  unfold State.shotEnded Shot.endedBy at hfound
  show execShotEnd q s = _
  simp only [execShotEnd, State.issueThen_of_ready h.1 h.2, State.issued_thread_same, hsome, State.issued_tick,
    hfound]
  show (if (!y.joint) = true then _ else Host.Outcome.next
    (if ((s.shotEnded q id).arriveAt q y.bar .shotEnd (some (s.thread q).jointTimeout)).passed
        (some (s.thread q).jointTimeout) = true then _
      else (s.shotEnded q id).arriveAt q y.bar .shotEnd (some (s.thread q).jointTimeout))) = _
  rw [if_neg (by simp [hjoint]), if_neg hwaits]

theorem exec_opEnd_of_scope (hshot : (s.thread q).shot.isSome = true) :
    exec (.opEnd q) s = .next ((s.issued q 1).programError q 0x05) := by
  show execOpEnd q s = _
  rw [execOpEnd, State.issueThen_of_ready h.1 h.2, State.issued_thread_same]
  exact if_pos hshot

theorem exec_opEnd_of_no_scope (hshot : (s.thread q).shot = none) :
    exec (.opEnd q) s
      = .next ((s.issued q 1).setThread q { Issued (s.thread q) s.tick 1 with st := .draining }) := by
  have hscope : ¬ ((s.thread q).stepped s.tick 1).shot.isSome = true := by simp [Thread.stepped, hshot]
  show execOpEnd q s = _
  rw [execOpEnd, State.issueThen_of_ready h.1 h.2, State.issued_thread_same, State.modThread,
    State.issued_thread_same]
  exact if_neg hscope

end

end Sys2Proof.Machine

namespace Sys2Proof

open Machine Fld Claim

/-- R89-R92: the scope opens, with what the issue has left of the thread as its checkpoint. -/
theorem shotBeginOpensAScopeWithItsCheckpoint : ShotBeginOpensAScopeWithItsCheckpoint := by
  intro q rep blk bar reset s h x hshot hprev hleave hundef hparams hcanopy hcryo hhost
  rw [exec_shotBegin_of_committed h rep false blk bar reset hshot hprev]
  obtain ⟨t, hnext, x, modes, binds, y, rfl, hthread, hshots, hid, hjoint, hk, hrep, hparts⟩ :=
    shotBegun_ends_of_free hundef hleave hcanopy hcryo hhost hparams (a := ⟨rep, false, blk, bar.toNat, reset⟩) rfl
  have hrun := Thread.st_inScope_of_running (t := { Issued (s.thread q) s.tick 6 with
    opening := some ⟨rep, false, blk, bar.toNat, reset⟩, modes := modes, binds := binds })
    (running_of_ready h) s.nextShot
  refine ⟨t, hnext, congrArg Thread.shot hthread, (congrArg Thread.st hthread).trans hrun,
    congrArg Thread.prevShot hthread, congrArg Thread.pc hthread, (congrArg Thread.g hthread).trans rfl,
    (congrArg Thread.tc hthread).trans rfl, congrArg Thread.readyAt hthread, y, _, hshots, hid, hjoint, hk, hparts,
    fun hy => ?_, rfl, rfl, rfl, rfl, rfl, rfl, rfl, rfl, rfl, rfl, rfl, rfl, rfl⟩
  exact Thread.rep_of_opensReplayable (hrep ▸ hy)

/-- R24, R90, R91, R96: a scope open, a previous shot not committed, a request to leave Active, a barrier. -/
theorem shotBeginIsHeldWaitsOrErrs : ShotBeginIsHeldWaitsOrErrs := by
  intro q rep joint blk bar reset s h hundef _
  refine ⟨fun hshot => ⟨_, exec_shotBegin_of_scope h rep joint blk bar reset hshot, faultDue_issued h 6 0x05⟩,
    fun hshot hprev => ?commit, fun hshot hprev hleave hblock => ?leave,
    fun hshot hprev hleave htime hpart => ?joint⟩
  case commit =>
    refine ⟨_, exec_shotBegin_of_uncommitted h rep joint blk bar reset hshot hprev, ?_, ?_, ?_⟩
    · rw [State.thread_modThread_same]
    · rw [State.thread_modThread_same, State.shotBegun_thread]
      exact hshot
    · exact s.shotBegun_shots q ⟨rep, joint, blk, bar.toNat, reset⟩
  case leave =>
    rw [exec_shotBegin_of_committed h rep joint blk bar reset hshot hprev]
    exact shotBegun_ends_of_leaving hundef hleave hblock _
  case joint =>
    rw [exec_shotBegin_of_committed h rep true blk bar reset hshot hprev]
    exact shotBegun_ends_of_joint hundef hleave rfl htime hpart

/-- R70, R90, R93: a shot of the thread's own, a joint one, and no scope; `end` inside a scope and outside. -/
theorem shotEndAndEndCloseWhatTheyClose : ShotEndAndEndCloseWhatTheyClose := by
  intro q s h
  refine ⟨fun id hshot halone => ?alone, fun id y hshot hy hjoint htime hpart => ?joint,
    fun hshot => ⟨_, exec_shotEnd_of_no_scope h hshot, faultDue_issued h 2 0x05⟩,
    fun hshot => ⟨_, exec_opEnd_of_scope h hshot, faultDue_issued h 1 0x05⟩,
    fun hshot => ⟨_, exec_opEnd_of_no_scope h hshot, onlyThread_issued_setThread s q 1 _,
      State.thread_setThread_same _ _ _⟩⟩
  case alone =>
    have hthread : ((s.shotEnded q id).closeScope q id).thread q
        = { Issued (s.thread q) s.tick 2 with shot := none, prevShot := some id } := by
      rw [State.closeScope, State.thread_modThread_same, State.shotEnded_thread, State.issued_thread_same]
      rfl
    refine ⟨_, exec_shotEnd_of_alone h hshot halone, congrArg Thread.shot hthread, congrArg Thread.prevShot hthread,
      (congrArg Thread.st hthread).trans (running_of_ready h), congrArg Thread.readyAt hthread,
      (congrArg Thread.g hthread).trans rfl, fun z hz hid p hp hpart => ?_, fun p hp => ?_, s.shotEnded_regs q id,
      s.shotEnded_mem q id⟩
    · obtain ⟨x, rfl⟩ := State.eq_of_mem_modShot hz hid
      exact Shot.ended_of_mem_endedBy hp hpart
    · rw [State.closeScope, State.thread_modThread_ne _ _ _ _ hp, State.shotEnded_thread,
        State.issued_thread_ne _ _ _ _ hp]
  case joint =>
    have hgen : (s.shotEnded q id).arrivalGen q y.bar = s.arrivalGen q y.bar := by
      refine State.arrivalGen_congr ?_ (s.shotEnded_bars q id) y.bar
      rw [State.shotEnded_thread, State.issued_thread_same]
      rfl
    have hcounts : (s.shotEnded q id).takesPart q y.bar = true :=
      (State.takesPart_congr (s.shotEnded_regs q id) q y.bar).trans hpart
    obtain ⟨hwaits, hcame⟩ := State.arriveAt_waits hcounts .shotEnd (some (s.thread q).jointTimeout)
    rw [hgen] at hwaits hcame
    refine ⟨_, exec_shotEnd_of_joint h hshot hy hjoint htime, hwaits, hcame, ?_, ?_⟩
    · rw [State.arriveAt_regs, State.shotEnded_regs]
    · rw [State.arriveAt_mem, State.shotEnded_mem]

/-- Settles O18: what opens a scope, what holds a `shot.begin` back, and what `shot.end` and `end` close. -/
theorem shotScopesOpenAndEnd : Obligations.ShotScopesOpenAndEnd :=
  ⟨shotBeginOpensAScopeWithItsCheckpoint, shotBeginIsHeldWaitsOrErrs, shotEndAndEndCloseWhatTheyClose⟩

end Sys2Proof
end
